-- ==== Sys2Proof/Word.lean ====
section
/-! DEFINITION. The word types of the N4812 (spec/00_scope.md, "Units and packing") and sparse maps keyed by a number. -/

namespace Sys2Proof

/-- A word is 48 bits (spec/00_scope.md). -/
abbrev Word := BitVec 48

/-- A half is 24 bits (spec/00_scope.md). -/
abbrev Half := BitVec 24

/-- An octet is 8 bits (spec/00_scope.md). -/
abbrev Byte := BitVec 8

/-- A sparse map: pairs of a key and a value, keys strictly rising. -/
abbrev KMap (α : Type) := List (Nat × α)

end Sys2Proof
end

