-- ==== Sys2Proof/Syntax.lean ====
section
/-! DEFINITION. The commands of the N4812, one constructor per row of spec/opcode_table.json in its order, and the types of their operands. -/

namespace Sys2Proof

/-- The transports, in the order of R64. -/
inductive Transport | pcie | i3c0 | i3c1 | net | tag
deriving DecidableEq, Repr

/-- A Dexrek frame as received (R57 to R59): its transport and mailbox slot, the prefix of a protected frame, the
header's fields, the payload octets (encrypted in a protected frame) and the CRC-32 or GCM tag. -/
structure Frame where
  /-- Transport on which the frame arrived (R50, R64). -/
  transport : Transport
  /-- Mailbox slot of a PCIe frame (R66). -/
  slot : Fin 4
  /-- Prefix octets 0 to 5: the session ID; none for a sessionless frame (R59). -/
  session : Option Word
  /-- Prefix octets 6 to 11: the sender's sequence (R59). -/
  seq : Word
  /-- Octet 0 bits [7:4]. -/
  version : BitVec 4
  /-- Octet 0 bits [3:0]. -/
  kind : BitVec 4
  /-- Octets 1–2. -/
  tag : BitVec 16
  /-- Octets 3–4. -/
  index : BitVec 16
  /-- Octet 5. -/
  sub : BitVec 8
  /-- Octets 6–8. -/
  code : BitVec 24
  /-- Octets 9–11. -/
  offset : BitVec 24
  /-- Octets 12–13. -/
  length : BitVec 16
  /-- Octet 14. -/
  flags : BitVec 8
  /-- Octet 15. -/
  reserved : BitVec 8
  /-- Payload octets. -/
  payload : List Byte
  /-- CRC-32 (4 octets) or GCM tag (16 octets) (R58). -/
  check : List Byte
deriving DecidableEq, Repr

/-- A privilege level (R460): User 0, Supervisor 1, Monitor 2. -/
inductive Level | user | supervisor | monitor
deriving DecidableEq, Repr

/-- What a start meets outside the model: which UDS copies read cleanly (R348), whether lane H12 passes its
self-test (R312), and whether VPEA is within range (R600). -/
structure StartEnv where
  /-- UDS copies that read without an uncorrectable error (R348). -/
  udsCopies : Bool × Bool
  /-- H12 passes its self-test (R312). -/
  h12 : Bool
  /-- VPEA within range (R600). -/
  vpea : Bool
  /-- Firmware images of the image cards present, by card index and directory order (R101). -/
  cardImages : List (List Byte)
deriving DecidableEq, Repr

/-- What the flash answers to an initialisation (R131) and to DQS training (R162). -/
structure FlashReply where
  /-- Every step of R131 was answered. -/
  answered : Bool
  /-- The flash's ID octets. -/
  id : List Byte
  /-- The flash's SFDP octets. -/
  sfdp : List Byte
  /-- Density as the exponent N of 2^N bits. -/
  density : Nat
  /-- At every second tap, from tap 0: the SFDP read equals the reference (R162). -/
  taps : List Bool
  /-- Measured tap size in uQ8.8 picoseconds (R161). -/
  tapSize : Nat
deriving DecidableEq, Repr

/-- Outcome of an SRAM or bus read (R27, R28, R493). -/
inductive BusReply | ok | parity | corrected | addressFault | uncorrectable
deriving DecidableEq, Repr

/-- Memory classes of R34, in order. -/
inductive MemClass | commons | pairMemory | fingerprint | otherSram | bootRom | flash
deriving DecidableEq, Repr

/-- The switchable functions (R166, R532, R559). -/
inductive FnId | hostPort (n : Fin 12) | tag | cards
deriving DecidableEq, Repr

/-- Who publishes (R71, R609): a session, or the sessionless requesters of a transport. -/
inductive Publisher | session (id : Word) | sessionless (t : Transport)
deriving DecidableEq, Repr

/-- The registers of a ring block that the host writes, beside CONS (R255). -/
inductive RingReg | ctrl | baseLo | baseHi | size | nextLo | nextHi
deriving DecidableEq, Repr

/-- Why the field-network port drops a packet (R69, R70). -/
inductive BadPacket | ipv4 | tcp | ipv6Fragment | source
deriving DecidableEq, Repr

/-- A responder's SPDM message, as far as R197 to R210 read it. -/
inductive SpdmReply
  /-- VERSION: the versions offered. -/
  | version (offered : List Nat)
  /-- CAPABILITIES: CERT_CAP, CHAL_CAP, MEAS_CAP value, CTExponent. -/
  | capabilities (cert chal : Bool) (meas ct : Nat)
  /-- ALGORITHMS: hash, asymmetric codes of R197 offered, DMTF measurements offered. -/
  | algorithms (hashes measurementHashes asyms : List Nat) (dmtf : Bool)
  /-- DIGESTS: digest of the slot's certificate slot. -/
  | digests (digest : List Byte)
  /-- CERTIFICATE: portion and octets remaining. -/
  | certificate (portion : List Byte) (remaining : Nat)
  /-- CHALLENGE_AUTH: its signature. -/
  | challengeAuth (signature : List Byte)
  /-- MEASUREMENTS: blocks, measurement record, signature. -/
  | measurements (blocks : Nat) (record signature : List Byte)
  /-- ERROR Busy. -/
  | busy
  /-- ERROR ResponseNotReady with its RDTExponent. -/
  | notReady (rdt : Nat)
  /-- ERROR RequestResynch. -/
  | resynch
  /-- Any other ERROR; a malformed or unexpected response. -/
  | bad
deriving DecidableEq, Repr

/-- The transports on which the N4812 responds to SPDM (R196): PCIe DOE, and I3C as target. -/
inductive SpdmPort | doe | i3cTarget
deriving DecidableEq, Repr

/-- What an instance delivers (R281): where it ran, the work it was placed with, and what R280's timing counts. -/
structure EngineResult where
  /-- Placement code of the instance (R267). -/
  place : Nat
  /-- Slot under which the work was placed (R281). -/
  slot : Fin 4096
  /-- Epoch under which it was placed (R281). -/
  epoch : Nat
  /-- Parent epoch under which it was placed (R281). -/
  parentEpoch : Nat
  /-- ML-DSA iterations the job took (R338). -/
  iterations : Nat
deriving DecidableEq, Repr

/-- State of a mesh or of the Lining as sampled (R385, R405). -/
inductive MeshReading | intact | open | short | mismatch
deriving DecidableEq, Repr

/-- A sample of the tamper watch (R385). -/
inductive SensorInput
  /-- Analog sensor k and its raw code. -/
  | analog (k : Fin 9) (code : BitVec 16)
  /-- External mesh i. -/
  | mesh (i : Fin 4) (r : MeshReading)
  /-- The Lining. -/
  | lining (r : MeshReading)
  /-- REF25_IN counted against the RC oscillator: present and within ±2 %. -/
  | refClock (good : Bool)
  /-- PE_REFCLK counted likewise. -/
  | peClock (good : Bool)
deriving DecidableEq, Repr

/-- A sample of the vigil domain (R385). -/
inductive VigilInput
  | mesh (i : Fin 4) (r : MeshReading)
  | lining (r : MeshReading)
  /-- A6, every 250 ms. -/
  | light (code : BitVec 16)
  /-- A7, every 1 s. -/
  | temperature (code : BitVec 16)
  /-- A8, every 1 s; `removed`: VBAT below 1.0 V. -/
  | cell (code : BitVec 16) (removed : Bool)
  /-- XT32 against the vigil RC oscillator: within ±10 %. -/
  | crystal (good : Bool)
  /-- Intrusion switch i with its level after debounce. -/
  | switch (i : Fin 4) (level : Bool)
deriving DecidableEq, Repr

/-- A 9-bit short or 24-bit long immediate or displacement (R428, R429). -/
inductive Imm | short (v : BitVec 9) | long (v : BitVec 24)
deriving DecidableEq, Repr

/-- A 13-bit short or 24-bit long immediate of MOVI (R430). -/
inductive MoviImm | short (v : BitVec 13) | long (v : BitVec 24)
deriving DecidableEq, Repr

/-- A 17-bit short or 24-bit long displacement of BR and CALL (R428). -/
inductive JumpDisp | short (v : BitVec 17) | long (v : BitVec 24)
deriving DecidableEq, Repr

/-- How a flash command reaches the controller (R495): a write of FC_CMD by a pair, and whether its three writes
fell within 64 FCLK cycles (R496), or the descriptor of the queue that is taken next. -/
inductive FlashVia | direct (p : Fin 4) (bank : Fin 2) (inTime : Bool) | queue
deriving DecidableEq, Repr

/-- How a running flash operation ended (R493, R494, R501, R510). -/
inductive FlashEnd
  /-- Every verify passed. -/
  | verified
  /-- Verifies failed beyond their repeats. -/
  | failed
  /-- A margin read: words failing margin, and whether a correction was seen. -/
  | margin (failing : Nat) (corrected : Bool)
deriving DecidableEq, Repr

/-- A token's answers to one authentication (R536). -/
structure TokenReply where
  /-- UID. -/
  uid : List Byte
  /-- Key digest of GET IDENTITY. -/
  keyDigest : List Byte
  /-- Public keys of GET KEYS, 97 + 2,592 octets. -/
  keys : List Byte
  /-- ECDSA P-384 signature. -/
  ecSig : List Byte
  /-- ML-DSA-87 signature. -/
  mlSig : List Byte
  /-- Left the field before its authentication ended. -/
  left : Bool
  /-- A step of R536, 1 to 4, that the token failed. -/
  failedStep : Option Nat
deriving DecidableEq, Repr

/-- What an inserted card answers (R544, R546, R549). -/
structure CardReply where
  /-- Ready within 1 s and a CMD2 answered (R546). -/
  ready : Bool
  /-- CID, 16 octets (R548). -/
  cid : List Byte
  /-- Capacity in blocks. -/
  capacity : Nat
  /-- It reports 4-bit at 26 MHz. -/
  fourBit : Bool
  /-- It reports 52 MHz, and the CMD6 switch and the CMD13 check after it succeeded (R544). -/
  highSpeed : Bool
  /-- Blocks 0 and 1, 512 octets each (R549). -/
  labels : List Byte × List Byte
deriving DecidableEq, Repr

/-- What ends a wait for a card (R552). -/
inductive CardStatus
  /-- A CMD13 response with correct CRC: its 32 bits. -/
  | response (bits : BitVec 32)
  /-- No response, or one with a wrong CRC. -/
  | missing
  /-- A negative CRC status token during the data. -/
  | badToken
deriving DecidableEq, Repr

/-- An MCTP control response (R201, R202). -/
inductive MctpReply
  /-- A board device accepted its endpoint ID. -/
  | setEndpoint (slot : Fin 64) (accepted : Bool)
  /-- The routing table of the PCIe bus owner: the EIDs it names. -/
  | routingTable (eids : List Nat)
deriving DecidableEq, Repr

/-- A block that holds fault-injection canaries (R381, R611). -/
inductive CanaryBlock | pair (p : Fin 4) | keyUnit | cryptoFabric
deriving DecidableEq, Repr

/-- Registers whose write only stores the value (R66, R255, R270, R364, R462, R480, R487, R495). -/
inductive PlainReg
  /-- Octet `off` of request buffer k (R66). -/
  | requestOctet (k : Fin 4) (off : Fin 2048)
  /-- BASE_LO, BASE_HI, SIZE, NEXT_SEQ_LO, NEXT_SEQ_HI of ring r, in this order (R255). -/
  | ring (r : Fin 2) (which : Fin 5)
  /-- JH_DESC0 to JH_DESC5 of a window (R270). -/
  | hubDesc (p : Fin 4) (l : Level) (i : Fin 6)
  /-- KU_ARG0, KU_ARG1 of a window (R364). -/
  | keyArg (p : Fin 4) (l : Level) (i : Fin 2)
  /-- A register of pair p's control block written at level l: its offset (R462, R487). -/
  | control (p : Fin 4) (l : Level) (off : Fin 64)
  /-- Word 0 of rule r of gate n, written by pair p at level l (R480). -/
  | ruleWord0 (p : Fin 4) (l : Level) (gate : Fin 14) (r : Fin 16)
  /-- FC_ADDR, FC_DATA, FC_SRC, FQ_BASE, FQ_SIZE, FQ_CTRL, in this order, by pair p (R495). -/
  | flash (p : Fin 4) (which : Fin 6)
deriving DecidableEq, Repr

/-- A command. The docstring of each constructor is its row's summary; an operand that is no field of the spec's own is what
the world outside the N4812 answers (a flash's data, a card's response, a sensor's code). -/
inductive Instr
  /-- MAIN_POWER_ARRIVES (R95): Main supplies come within range and the boot ROM starts the start sequence from its first row. -/
  | mainPowerArrives (env : StartEnv)
  /-- BOOT_WATCHDOG_EXPIRY (R98): The 200 ms boot watchdog expires before the chosen mode is entered, logging and performing a device reset. -/
  | bootWatchdogExpiry (env : StartEnv)
  /-- VIO33_IN_RANGE (R94): VIO33 comes within range and the I/O ring applies the vigil mirror of the hold-enable mask. -/
  | vio33InRange
  /-- VAUX_RISE (R603): VAUX rises above 3.00 V and the vigil selector switches to VAUX. -/
  | vauxRise
  /-- VAUX_FALL (R603): VAUX falls below 2.90 V and the vigil selector switches to VBAT without losing vigil state. -/
  | vauxFall
  /-- PFAIL_N_FALL (R589): PFAIL_N falls and each chapter's power-fail actions run: islands awake, erases suspended, flush and saves at class 0. -/
  | pfailNFall
  /-- PFAIL_N_RISE (R513): PFAIL_N rises before main power falls, and suspended erases and held flash operations resume. -/
  | pfailNRise
  /-- MAIN_POWER_LOSS (R589): Main power falls below range and the device enters Vigil with only the vigil domain running. -/
  | mainPowerLoss
  /-- GATE_ENTRY (R130): The device enters Gate: staged changes applied, fingerprint key drawn, ledger key unwrapped and every enabled channel begins. -/
  | gateEntry
  /-- CHANNEL_FLASH_INIT (R131): A channel resets its flash, reads ID and SFDP, switches protocol and trains DQS, or enters Flash fault. -/
  | channelFlashInit (n : Fin 12) (cs : Fin 2) (r : FlashReply)
  /-- PRESCAN_BURST (R132): A pre-scan burst of up to 64 KiB arrives and is hashed, fingerprinted and copied to commons for pinned regions. -/
  | prescanBurst (n : Fin 12) (octets : List Byte)
  /-- PRESCAN_BURST_STALL (R132): DQS edges stop for over 1 µs during a burst, which is retried or leaves the region UNREADABLE. -/
  | prescanBurstStall (n : Fin 12)
  /-- MANIFEST_VERIFICATION (R135): Signature checks of a channel's manifest slots complete and each slot is decided accepted or absent. -/
  | manifestVerification (n : Fin 12)
  /-- REGION_VERDICT (R138): Once a region is hashed and manifests decided, its verdict is formed and policy applied, possibly starting recovery. -/
  | regionVerdict (n : Fin 12) (r : Fin 64)
  /-- RECOVERY_COMPLETE (R139): Reading and hashing of the recovery content ends, giving RECOVERED or HALTED. -/
  | recoveryComplete (n : Fin 12) (r : Fin 64) (content : Option (List Byte))
  /-- GATE_ATTESTATION_CUTOFF (R205): 1.5 s after the last region completes, Gate-phase attestation ends and outcomes are snapshotted, unfinished slots DEFERRED. -/
  | gateAttestationCutoff
  /-- PRIMARY_RECORD_APPEND (R20): With every channel complete and Gate attestation ended, the primary record is appended and the mode becomes Serve. -/
  | primaryRecordAppend (failedChecks : Nat)
  /-- PRIMARY_RECORD_LATE (R35): 2 s after the last Gate region completes without a primary record, an outage begins. -/
  | primaryRecordLate
  /-- HOLD_RELEASE (R143): A hold release entry's scheduled time arrives and the hold is released or kept held-for-halt or held-for-attestation. -/
  | holdRelease
  /-- LOCKSTEP_MISMATCH (R32): A pair's cores disagree; the pair halts, resets, its jobs migrate and an event is logged. -/
  | lockstepMismatch (p : Fin 4)
  /-- PAIR_RETURN_TO_SERVICE (R32): A reset pair returns to service within 5 ms. -/
  | pairReturnToService (p : Fin 4)
  /-- PATROL_SCRUB_VISIT (R29): The patrol scrub visits SRAM words, correcting or reporting errors, yielding to functional accesses. -/
  | patrolScrubVisit (m : MemClass) (o : BusReply)
  /-- BUS_KEY_REPLACEMENT (R26): Once the DRBG delivers and every bus has drained, bus scrambling keys are replaced with DRBG-derived keys. -/
  | busKeyReplacement
  /-- HOURLY_SAVE (R512): Each hour integrity counters, counted time, erase counts and calibration are saved to flash. -/
  | hourlySave
  /-- READ (R61): A Dexrek READ frame is received and answered with the value committed at the start of its tick, or refused. -/
  | dexRead (f : Frame)
  /-- WRITE (R64): A Dexrek WRITE frame for an object without behaviour of its own is checked and queued for its tick. -/
  | dexWrite (f : Frame)
  /-- FORBIDDEN_KIND_FRAME (R58): A RESPONSE, PUBLISHED or ERROR frame from a peer is dropped without response and counted. -/
  | forbiddenKindFrame (f : Frame)
  /-- SETUP_STEP_1 (R55): A session setup step 1 arrives; the device answers with step 2 or an ERROR frame. -/
  | setupStep1 (f : Frame)
  /-- SETUP_STEP_3 (R51): Setup step 3 arrives with the credential chain; the device grants a role in step 4 or refuses. -/
  | setupStep3 (f : Frame)
  /-- SETUP_TIMEOUT (R55): A setup not reaching step 4 within 2 s is discarded with its ephemeral material. -/
  | setupTimeout (id : Word)
  /-- ELEVATE (R52): An ELEVATE frame with two roster signatures over the transcript raises the session to Officer or fails. -/
  | elevate (f : Frame)
  /-- OFFICER_ELEVATION (R52): A write to 0x1100:20 opens a glove-pair presentation for elevation. -/
  | officerElevation (f : Frame)
  /-- CLOSE_SESSION (R56): A write to 0x1100:21 closes the writer's own session. -/
  | closeSession (f : Frame)
  /-- SESSION_IDLE_TIMEOUT (R56): A session idle longer than 0x1100:23 closes. -/
  | sessionIdleTimeout (id : Word)
  /-- SEGMENT_GAP_TIMEOUT (R63): A gap of over 100 ms between segments abandons a segmented write. -/
  | segmentGapTimeout (index : BitVec 16) (sub : BitVec 8)
  /-- DICTIONARY_TICK_CLOSE (R64): A 2,500-cycle tick closes; one write per object wins in transport order, losers get OBJECT_CONTENDED, board boot applied last. -/
  | dictionaryTickClose
  /-- PERSIST_COMMIT_DONE (R45): The flash commit of a Pers object write ends, the value becomes committed and the response is sent. -/
  | persistCommitDone (ok : Bool)
  /-- CMD_ABORT (R47): A write to subindex 0xFE aborts every Busy action of that index within its abort bound. -/
  | cmdAbort (f : Frame)
  /-- PUBLISH (R71): A subscription period expires and a PUBLISHED frame or telemetry window update is produced. -/
  | publish (who : Publisher)
  /-- MAILBOX_DOORBELL (R67): A write to MBX_CTRL with bit 31 rings a slot's doorbell, submitting its frame or being ignored.
`buffer` is what the host has written from the start of the slot's request buffer. -/
  | mailboxDoorbell (k : Fin 4) (value : BitVec 32) (buffer : List Byte)
  /-- MAILBOX_ACK (R66): A write of 1 to MBX_ACK returns a response-ready slot to free. -/
  | mailboxAck (k : Fin 4) (value : BitVec 32)
  /-- NETWORK_PACKET_DROP (R69): An IPv4, TCP, IPv6-fragment or unacceptable-source datagram on the field network is dropped. -/
  | networkPacketDrop (why : BadPacket)
  /-- ICMPV6_ECHO (R69): An ICMPv6 echo request is answered on the field-network port. -/
  | icmpv6Echo (data : List Byte)
  /-- NEIGHBOUR_DISCOVERY (R69): An IPv6 neighbour discovery message is handled on the field-network port. -/
  | neighbourDiscovery (data : List Byte)
  /-- MODE_REQUEST (R83): A write to 0x1200:03 requests a mode transition, made or refused per the transition table. -/
  | modeRequest (f : Frame)
  /-- LIFECYCLE_ADVANCE (R83): A vendor-enveloped write to 0x1200:04 advances the lifecycle and resets the device. -/
  | lifecycleAdvance (f : Frame) (env : StartEnv)
  /-- COMMIT_PROVISIONING (R89): A write to 0x1200:05 generates the identity, writes options, sets the ledger sequence, advances to OWNED and resets. -/
  | commitProvisioning (f : Frame) (env : StartEnv)
  /-- DEVICE_RESET (R610): A write to 0x1200:06 or an internal exit resets all but the vigil domain after the flash row in progress completes. -/
  | deviceReset (f : Option Frame) (env : StartEnv)
  /-- HOT_RESTART (R112): A write to 0x1200:07 halts the pairs, clears key slots and re-measures firmware while channels keep serving. -/
  | hotRestart (f : Frame)
  /-- HOT_RESTART_COMPLETE (R114): The hot restart ends; requests are answered again, or the previous image is restarted on failure. -/
  | hotRestartComplete (env : StartEnv)
  /-- BOARD_BOOT (R109): A write to 0x1200:08 takes effect at tick close: holds asserted, staged changes applied and Gate entered. -/
  | boardBoot (f : Frame)
  /-- PE_PERST_N_ASSERT (R111): PE_PERST_N falls or a function-level reset occurs, resetting the PCIe endpoint and freeing mailbox slots. -/
  | pePerstNAssert (flr : Bool)
  /-- PERST_BOARD_BOOT (R109): PE_PERST_N held low 100 µs with board boot enabled in Serve, Maintain or Ceremony makes a board boot request. -/
  | perstBoardBoot
  /-- RETIRE (R86): A glove-pair Officer write to 0x1200:09 appends the retirement record, programs the last lifecycle word and drives the erase line. -/
  | retire (f : Frame) (env : StartEnv)
  /-- MAINTAIN_LIMIT_EXPIRY (R87): The Maintain time limit expires and the mode returns to Serve after any Busy operation ends. -/
  | maintainLimitExpiry
  /-- CEREMONY_LIMIT_EXPIRY (R87): The Ceremony time limit expires and the mode returns to Serve, rolling back cut ceremony operations. -/
  | ceremonyLimitExpiry
  /-- INSTALL_IMAGE (R104): A write to 0x7000:04 installs the staged image into an image area and rewrites the option area. -/
  | installImage (f : Frame) (env : StartEnv)
  /-- INSTALL_FROM_CARD (R104): A write to 0x7000:05 installs a firmware image read from a keeper card. -/
  | installFromCard (f : Frame) (content : List Byte) (env : StartEnv)
  /-- FUNCTION_ENABLE (R115): An Enable CMD of a switchable function starts, completes or queues its start per its state. -/
  | functionEnable (f : Frame)
  /-- FUNCTION_DISABLE (R115): A Disable CMD of a switchable function drains it, cancels a start or completes at once. -/
  | functionDisable (f : Frame)
  /-- FUNCTION_DRAIN_COMPLETE (R116): A draining function reaches OFF and runs any queued enable. -/
  | functionDrainComplete (fn : FnId)
  /-- FUNCTION_START_COMPLETE (R115): A starting function reaches ON and its Enable reads Done. -/
  | functionStartComplete (fn : FnId)
  /-- HOST_FAST_READ (R145): A host fast read is served from flash, commons or 0xFF with its announced dummy count. -/
  | hostFastRead (n : Fin 12) (cs : Fin 2) (opcode : Byte) (addr len : Nat) (flash : List Byte) (stopped : Bool)
    (memFault : Option Nat)
  /-- READ_ID (R158): Host 0x9F returns the emulated ID. -/
  | readId (n : Fin 12) (cs : Fin 2)
  /-- READ_SFDP (R148): Host 0x5A returns the emulated SFDP. -/
  | readSfdp (n : Fin 12) (cs : Fin 2) (addr len : Nat)
  /-- READ_STATUS (R158): Host 0x05 returns the emulated busy and write-enable bits. -/
  | readStatus (n : Fin 12) (cs : Fin 2)
  /-- HOST_REGISTER_READ (R158): Any other host register read returns all-zero data octets. -/
  | hostRegisterRead (n : Fin 12) (cs : Fin 2) (len : Nat)
  /-- WRITE_ENABLE (R158): Host 0x06 sets the emulated write-enable latch. -/
  | writeEnable (n : Fin 12) (cs : Fin 2)
  /-- WRITE_DISABLE (R158): Host 0x04 clears the emulated write-enable latch. -/
  | writeDisable (n : Fin 12) (cs : Fin 2)
  /-- HOST_PAGE_PROGRAM (R159): A host page program is forwarded to flash when allowed, excluding touched pages, or refused. -/
  | hostPageProgram (n : Fin 12) (cs : Fin 2) (opcode : Byte) (addr : Nat) (data : List Byte)
  /-- HOST_SECTOR_ERASE (R159): A host sector or block erase is forwarded when every touched page allows writes, or refused. -/
  | hostSectorErase (n : Fin 12) (cs : Fin 2) (opcode : Byte) (addr : Nat)
  /-- HOST_SUSPEND (R158): Host 0x75 is forwarded while a forwarded operation is pending, otherwise ignored. -/
  | hostSuspend (n : Fin 12) (cs : Fin 2)
  /-- HOST_RESUME (R158): Host 0x7A is forwarded while a forwarded operation is pending, otherwise ignored. -/
  | hostResume (n : Fin 12) (cs : Fin 2)
  /-- SET_HOST_PROTOCOL (R150): Host 0x8D with write enable switches the host protocol when chip select rises. -/
  | setHostProtocol (n : Fin 12) (cs : Fin 2) (data : Byte)
  /-- ENTER_4_BYTE (R158): Host 0xB7 sets the emulated address mode to 4 octets. -/
  | enter4Byte (n : Fin 12) (cs : Fin 2)
  /-- EXIT_4_BYTE (R158): Host 0xE9 sets the emulated address mode to 3 octets. -/
  | exit4Byte (n : Fin 12) (cs : Fin 2)
  /-- RESET_ENABLE (R157): Host 0x66 arms the emulated soft reset. -/
  | resetEnable (n : Fin 12) (cs : Fin 2)
  /-- SOFT_RESET (R157): Host 0x99 returns the emulated state to the descriptor start values. -/
  | softReset (n : Fin 12) (cs : Fin 2)
  /-- DEEP_POWER_DOWN (R158): Host 0xB9 sets the emulated deep power-down flag. -/
  | deepPowerDown (n : Fin 12) (cs : Fin 2)
  /-- RELEASE_DEEP_POWER_DOWN (R158): Host 0xAB clears the emulated deep power-down flag. -/
  | releaseDeepPowerDown (n : Fin 12) (cs : Fin 2)
  /-- CHIP_ERASE (R158): Host chip erase 0x60 or 0xC7 is refused. -/
  | chipErase (n : Fin 12) (cs : Fin 2)
  /-- HOST_REGISTER_WRITE (R158): Host writes of status, configuration, protection or security registers are refused. -/
  | hostRegisterWrite (n : Fin 12) (cs : Fin 2) (opcode : Byte)
  /-- HOST_UNKNOWN_COMMAND (R158): An unknown host command, including 0x03 and 0x13, is ignored and counted. -/
  | hostUnknownCommand (n : Fin 12) (cs : Fin 2) (opcode : Byte)
  /-- HOST_PROTOCOL_ERROR (R120): Both host chip selects low or a cut-short command is ignored and counted as a protocol error. -/
  | hostProtocolError (n : Fin 12)
  /-- HOST_CLOCK_EXCESS (R153): Hn_CLK measured over 2 % above its limit writes an event while serving continues. -/
  | hostClockExcess (n : Fin 12) (cs : Fin 2) (kHz : Nat)
  /-- FORWARDED_OP_COMPLETE (R156): The flash reports a forwarded program or erase done and the emulated busy bit clears. -/
  | forwardedOpComplete (n : Fin 12) (cs : Fin 2)
  /-- PINNED_RELOAD_COMPLETE (R155): A pinned reservation reload finishes; commons serving resumes if it hashes to the verdict digest. -/
  | pinnedReloadComplete (n : Fin 12) (r : Fin 64) (content : List Byte)
  /-- DQS_RETRAIN (R163): The retrain period or a temperature step triggers DQS training with probe reads and a bounded delay move. -/
  | dqsRetrain (n : Fin 12) (cs : Fin 2) (taps : List Bool) (tapSize : Nat)
  /-- CHANNEL_LOGIC_ERROR (R165): An uncorrectable error in channel logic starts a channel restart with the host port at high impedance. -/
  | channelLogicError (n : Fin 12)
  /-- CHANNEL_RESTART_COMPLETE (R165): A channel restart ends and the channel resumes serving. -/
  | channelRestartComplete (n : Fin 12) (r0 r1 : FlashReply)
  /-- HALT_OVERRIDE (R142): An Officer write to 0x2n02:05 turns HALTED regions OVERRIDDEN and releases bound holds. -/
  | haltOverride (f : Frame)
  /-- MANIFEST_WRITE (R135): A manifest slot write is verified and accepted or refused as invalid or rollback. -/
  | manifestWrite (f : Frame)
  /-- FILL_IN (R178): A queued fill-in reads a closing page's uncovered offsets and completes its round. -/
  | fillIn (n : Fin 12) (octets : List Byte)
  /-- ROUND_AGE_VISIT (R180): A channel's periodic visit sets aged flags and begins closing aged incomplete rounds. -/
  | roundAgeVisit (n : Fin 12)
  /-- SWEEP (R191): A write to 0x2C00:20 begins closing every non-empty armed round. -/
  | sweep (f : Frame)
  /-- I3C_DISCOVERY (R201): At Gate entry the device runs RSTDAA and ENTDAA and assigns endpoint IDs to matched responders. -/
  | i3cDiscovery (found : List Word)
  /-- DISCOVERY_TIMEOUT (R201): A Gate-phase slot whose device is not found within 50 ms ends ABSENT. -/
  | discoveryTimeout
  /-- HOT_JOIN (R201): An I3C Hot-Join makes the device seek unfound open Serve-phase slots again. -/
  | hotJoin (identity : Word)
  /-- ENDPOINT_ID_ASSIGNED (R202): The host bus owner assigns the device's PCIe EID and transport-3 slots resolve their EIDs. -/
  | endpointIdAssigned (eid : BitVec 8)
  /-- SPDM_RESPONSE (R203): A responder's SPDM response arrives and the slot sequence advances, retries or ends with an outcome. -/
  | spdmResponse (slot : Fin 64) (reply : SpdmReply) (octets : List Byte)
  /-- SPDM_TIMEOUT (R208): A response does not arrive in time; the request is resent or the slot ends NO_RESPONSE. -/
  | spdmTimeout (slot : Fin 64)
  /-- SPDM_RETRY_WAIT (R208): The wait after ERROR Busy or ResponseNotReady expires and the request or RESPOND_IF_READY is sent. -/
  | spdmRetryWait (slot : Fin 64)
  /-- SPDM_SLOT_TIME_LIMIT (R208): A Serve-phase slot in progress 30 s ends NO_RESPONSE. -/
  | spdmSlotTimeLimit (slot : Fin 64)
  /-- SERVE_COLLECTION_WINDOW_EXPIRY (R206): The serve collection window elapses, closing collection and assembling a supplement. -/
  | serveCollectionWindowExpiry
  /-- CLOSE_SERVE_COLLECTION (R206): A write to 0x3000:21 closes serve-phase collection. -/
  | closeServeCollection (f : Frame)
  /-- ATTESTATION_HOLD_OVERRIDE (R214): An Officer write to 0x3000:20 releases a slot's held-for-attestation hold. -/
  | attestationHoldOverride (f : Frame)
  /-- GET_VERSION (R217): The device as responder answers GET_VERSION. -/
  | getVersion (port : SpdmPort) (request : List Byte)
  /-- GET_CAPABILITIES (R217): The device as responder answers GET_CAPABILITIES. -/
  | getCapabilities (port : SpdmPort) (request : List Byte)
  /-- NEGOTIATE_ALGORITHMS (R217): The device as responder answers NEGOTIATE_ALGORITHMS. -/
  | negotiateAlgorithms (port : SpdmPort) (request : List Byte) (asyms hashes : List Nat)
  /-- GET_DIGESTS (R217): The device as responder returns its certificate chain digests. -/
  | getDigests (port : SpdmPort) (request : List Byte)
  /-- GET_CERTIFICATE (R217): The device as responder returns its slot 0 certificate chain. -/
  | getCertificate (port : SpdmPort) (request : List Byte) (slot : Fin 8) (offset len : Nat)
  /-- CHALLENGE (R217): The device as responder signs a CHALLENGE_AUTH. -/
  | challenge (port : SpdmPort) (request : List Byte) (slot : Fin 8) (summary : Nat)
  /-- GET_MEASUREMENTS (R218): The device as responder returns its six measurement blocks, signed if requested. -/
  | getMeasurements (port : SpdmPort) (request : List Byte) (index : Nat) (signed : Bool)
  /-- RESPOND_IF_READY (R195): The device as responder answers RESPOND_IF_READY. -/
  | respondIfReady (port : SpdmPort) (request : List Byte)
  /-- SPDM_UNSUPPORTED_REQUEST (R195): Any other SPDM request is answered with ERROR UnsupportedRequest. -/
  | spdmUnsupportedRequest (port : SpdmPort) (request : List Byte)
  /-- DOE_DISCOVERY (R196): A PCIe DOE discovery object is answered with the offered data object types. -/
  | doeDiscovery (index : Nat)
  /-- SUPPLEMENT_PENDING_TIMEOUT (R226): 1 s after the first item becomes pending, a supplement is assembled. -/
  | supplementPendingTimeout
  /-- SUPPLEMENT_PERIOD_EXPIRY (R226): The supplement period since the last record expires and a supplement is assembled. -/
  | supplementPeriodExpiry
  /-- SUPPLEMENT_REQUEST (R226): A write to 0x3100:20 assembles a supplement carrying every pending item. -/
  | supplementRequest (f : Frame)
  /-- LEDGER_SIGNATURES_VERIFIED (R231): Both record signatures are formed and verified, or re-signed, and programming begins when room exists. -/
  | ledgerSignaturesVerified (failedChecks : Nat)
  /-- LEDGER_ROOM_AVAILABLE (R248): Room appears in the ledger ring and a waiting append proceeds. -/
  | ledgerRoomAvailable
  /-- LEDGER_COMMIT (R241): A record's commit word is programmed; the record is committed and export paths signalled. -/
  | ledgerCommit (ok : Bool)
  /-- LEDGER_PRE_ERASE (R246): A ledger sector ahead of the head is erased in the background after the tail advances past it. -/
  | ledgerPreErase
  /-- LEDGER_KEY_ROLLOVER (R252): A write to 0x3100:21 in Ceremony generates a new ledger key and appends a rollover record. -/
  | ledgerKeyRollover (f : Frame)
  /-- ACKNOWLEDGE_EXPORT (R253): A write to 0x3100:13 raises the export-through sequence. -/
  | acknowledgeExport (f : Frame)
  /-- WINDOW_CURSOR_WRITE (R254): A write to a window cursor restarts the record read at offset 0. -/
  | windowCursorWrite (f : Frame)
  /-- WINDOW_RECORD_READ (R254): A read of 0x3100:11 returns a segment of the cursor's record or a gone, void or absent code. -/
  | windowRecordRead (f : Frame)
  /-- RING_CTRL_WRITE (R255): A write to a ring's CTRL enables or disables the ring and its options; the
block's other registers that accept writes come with it. -/
  | ringCtrlWrite (r : Fin 2) (reg : RingReg) (value : BitVec 32)
  /-- RING_CONS_WRITE (R257): A host write to CONS frees ring space and may acknowledge records, or sets an error. -/
  | ringConsWrite (r : Fin 2) (value : BitVec 32)
  /-- RING_FRAME_WRITE (R256): With a committed record and space in ring 0, the device writes a frame by DMA and advances PROD. -/
  | ringFrameWrite
  /-- TAG_SUMMARY_WRITE (R259): After a committed record the ledger summary is written into tag record 0. -/
  | tagSummaryWrite (held : Option (Fin 32))
  /-- TAG_SUMMARY_RETRY (R259): A summary write refused with FIELD_BUSY is retried after 1 ms. -/
  | tagSummaryRetry (held : Option (Fin 32))
  /-- JH_SUBMIT (R271): A write to JH_SUBMIT checks the staged descriptor and allocates a slot, or refuses it. -/
  | jhSubmit (p : Fin 4) (l : Level)
  /-- JH_POP (R283): A read of JH_POP pops the oldest completion entry and frees its slot. -/
  | jhPop (p : Fin 4) (l : Level)
  /-- JH_ABORT (R284): A write to JH_ABORT aborts a job and its children, or reports NOT_OWNER or ALREADY_DONE. -/
  | jhAbort (p : Fin 4) (l : Level) (value : Word)
  /-- JH_QUERY (R270): A write to JH_QUERY selects the handle that JH_STATE reports. -/
  | jhQuery (p : Fin 4) (l : Level) (value : Word)
  /-- JH_TAKE (R278): A Monitor read of JH_TAKE returns the next pair job placed on the pair. -/
  | jhTake (p : Fin 4) (l : Level)
  /-- JH_CURRENT (R278): A write to JH_CURRENT names the pair job that parents later submissions. -/
  | jhCurrent (p : Fin 4) (l : Level) (value : Word)
  /-- JH_DONE (R278): A write to JH_DONE completes a pair job from its current pair. -/
  | jhDone (p : Fin 4) (l : Level) (value : Word)
  /-- JH_CHECKPOINT (R279): A write to JH_CHECKPOINT records a checkpoint or is refused while children are unfinished. -/
  | jhCheckpoint (p : Fin 4) (l : Level) (value : Word)
  /-- JOB_PLACEMENT (R274): A free instance takes the most urgent earliest Ready job of its class, checking it first. -/
  | jobPlacement (cls : Fin 6)
  /-- ENGINE_COMPLETION (R281): An instance delivers a job result; stale ones are dropped, current ones finalise the job. -/
  | engineCompletion (r : EngineResult)
  /-- JOB_SUSPENSION (R276): A more urgent waiting job makes the hub suspend a suspendable running job at a block boundary. -/
  | jobSuspension (slot : Fin 4096) (octets : Nat)
  /-- URGENCY_AGING (R275): Each aging period a waiting job's effective urgency rises by one. -/
  | urgencyAging
  /-- JOB_RUN_TIMEOUT (R280): A job running over 4 times its maximum time is re-placed under a new epoch. -/
  | jobRunTimeout (slot : Fin 4096)
  /-- KEY_WAIT_EXPIRY (R291): 1 s after a hot restart a job still lacking its key slot ends KEY_ABSENT. -/
  | keyWaitExpiry
  /-- LANE_FAULT (R311): A lane detects a fault, reports it to the hub and re-runs its self-test. -/
  | laneFault (lane : Fin 18)
  /-- LANE_SELF_TEST (R312): A lane runs its known-answer self-test when due, leaving or returning to service. -/
  | laneSelfTest (lane : Fin 18) (pass : Bool)
  /-- RUN_LANE_SELF_TEST (R312): A write to 0x4100:04 runs every lane's self-test in turn. -/
  | runLaneSelfTest (f : Frame)
  /-- UNIT_FAULT (R340): A big-number or lattice unit detects a fault; the job is re-placed and the unit self-tests. -/
  | unitFault (unit : Fin 3)
  /-- UNIT_SELF_TEST (R341): A public-key unit runs its known-answer self-test when due. -/
  | unitSelfTest (unit : Fin 3) (pass : Bool)
  /-- RUN_UNIT_SELF_TEST (R341): A write to 0x4200:04 runs every unit's self-test in turn. -/
  | runUnitSelfTest (f : Frame)
  /-- LOADABLE_CURVE_WRITE (R331): A write to a loadable curve slot runs the curve checks and loads or refuses it. -/
  | loadableCurveWrite (f : Frame)
  /-- LOAD (R361): Key-unit LOAD unwraps a blob into a slot after its checks. -/
  | kuLoad (p : Fin 4) (l : Level)
  /-- WRAP (R360): Key-unit WRAP writes a slot's key as a blob under the chosen domain. -/
  | kuWrap (p : Fin 4) (l : Level)
  /-- GENERATE (R365): Key-unit GENERATE fills a slot with a fresh symmetric key after a fresh reseed. -/
  | kuGenerate (p : Fin 4) (l : Level)
  /-- DERIVE (R365): Key-unit DERIVE forms a slot key by KMAC256 from a derive-only source. -/
  | kuDerive (p : Fin 4) (l : Level)
  /-- CLEAR (R365): Key-unit CLEAR empties a slot, stopping any job using it. -/
  | kuClear (p : Fin 4) (l : Level)
  /-- INFO (R365): Key-unit INFO writes a slot's attributes to commons. -/
  | kuInfo (p : Fin 4) (l : Level)
  /-- PUBLIC (R365): Key-unit PUBLIC writes an asymmetric slot's public key to commons. -/
  | kuPublic (p : Fin 4) (l : Level)
  /-- IMPORT (R365): Key-unit IMPORT unwraps an RFC 5649 legacy key into a slot in Ceremony. -/
  | kuImport (p : Fin 4) (l : Level)
  /-- KU_ABORT (R364): A write to KU_ABORT aborts the window's key-unit command. -/
  | kuAbort (p : Fin 4) (l : Level)
  /-- KEY_EXPIRY (R358): A loaded slot's not-after time passes and the slot is cleared. -/
  | keyExpiry (slot : Fin 256)
  /-- ADVANCE_BLOB_GENERATION (R362): A write to 0x5000:20 in Ceremony raises the blob generation. -/
  | advanceBlobGeneration (f : Frame)
  /-- RAISE_MINIMUM_GENERATION (R362): A write to 0x5000:21 in Ceremony raises the minimum blob generation. -/
  | raiseMinimumGeneration (f : Frame)
  /-- ZEROISE (R368): A glove-pair Officer write to 0x5000:22 drives the erase line. -/
  | zeroise (f : Frame)
  /-- ENT_TAKE (R373): A read of ENT_TAKE takes the next word of the entropy output queue. -/
  | entTake (p : Fin 4) (l : Level)
  /-- ENTROPY_WAIT_TIMEOUT (R373): An ENT_TAKE finding no word for 10 µs ends with bus error ENTROPY_WAIT. -/
  | entropyWaitTimeout (p : Fin 4)
  /-- RAW_BLOCK_COMPLETE (R370): A cell's 1,024-bit raw block completes, is health-tested and credited, possibly releasing a block. -/
  | rawBlockComplete (cell : Fin 4) (bits : BitVec 1024)
  /-- DRBG_INSTANTIATE (R374): With two cells passing and two blocks held, the DRBG is tested and instantiated. -/
  | drbgInstantiate (katPass : Bool)
  /-- DRBG_RESEED (R372): A due or fresh reseed takes two blocks and empties the output queue. -/
  | drbgReseed
  /-- DRBG_GENERATE (R373): With 64 words of queue space free, a generate call fills them. -/
  | drbgGenerate
  /-- TEST_PATTERN_ENABLE (R376): A change of 0x5100:11 in Factory substitutes the test pattern and reinstantiates the DRBG. -/
  | testPatternEnable (f : Frame)
  /-- RAW_CAPTURE (R376): A write to 0x5100:13 captures raw bits of a cell for assessment. -/
  | rawCapture (f : Frame) (bits : List Byte)
  /-- SENSOR_SAMPLE (R385): A periodic sample of analog sensors, meshes, Lining and clocks is converted and compared. -/
  | sensorSample (i : SensorInput)
  /-- SWITCH_DEBOUNCE_EXPIRY (R385): An intrusion switch held at its alarm level for the 10 ms debounce raises its source. -/
  | switchDebounceExpiry (i : Fin 4) (level : Bool)
  /-- VCORE_GLITCH (R385): The VCORE comparator sees an excursion of 5 ns beyond ±8 % and raises the core supply source. -/
  | vcoreGlitch
  /-- SENSOR_RECALIBRATION (R387): Each recalibration period sensors measure references and slew offset and gain, or hold calibration. -/
  | sensorRecalibration (k : Fin 9) (ca cb : Int)
  /-- VIGIL_TICK (R573): At each VCLK edge vigil time advances by the trim, and records of the tick are sequenced and responses applied. -/
  | vigilTick
  /-- VIGIL_SAMPLE (R385): The vigil domain samples its cell sources and raises any that cross. -/
  | vigilSample (i : VigilInput)
  /-- VIGIL_ACK_TIMEOUT (R394): A raising unacknowledged by the tamper watch within 2 VCLK cycles is written as a vigil record. -/
  | vigilAckTimeout (source : BitVec 8)
  /-- RESPONSE_CHANGE (R384): A write to 0x6100:01 raises or lowers source responses, refused below minimum. -/
  | responseChange (f : Frame)
  /-- CLEAR_RESTRAINT (R383): A write to 0x6100:20 clears the restrained flag unless a Restrain-or-above source is raised. -/
  | clearRestraint (f : Frame)
  /-- UNLOCK (R402): A write to 0x6100:30 in Locked opens a glove-pair presentation for unlock. -/
  | unlock (f : Frame)
  /-- CELL_CHANGE_WINDOW (R404): A glove-pair write to 0x6100:40 opens the cell-change window. -/
  | cellChangeWindow (f : Frame) (vauxInRange : Bool)
  /-- CELL_WINDOW_EXPIRY (R404): 10 min after opening the cell-change window closes and cell sources are re-evaluated. -/
  | cellWindowExpiry
  /-- CELL_RESTORED (R404): VBAT above threshold for 5 s after a cell-absent sighting closes the cell-change window. -/
  | cellRestored
  /-- EVENT_LOG_FLUSH (R408): A flush programs buffered event records with chain MACs into the event-log ring. -/
  | eventLogFlush (failedRow : Option Nat)
  /-- FLUSH (R408): A write to 0x6200:05 flushes the event buffer. -/
  | flush (f : Frame)
  /-- FLUSH_AGE_EXPIRY (R408): 1 s after the oldest unflushed record arose the buffer is flushed. -/
  | flushAgeExpiry
  /-- EVENT_CURSOR_WRITE (R412): A write to 0x6200:03 sets the session's event-log cursor. -/
  | eventCursorWrite (f : Frame)
  /-- EVENT_WINDOW_READ (R412): A read of 0x6200:04 returns a full number and up to 42 committed records. -/
  | eventWindowRead (f : Frame)
  /-- EVENT_ACKNOWLEDGE_EXPORT (R412): A write to 0x6200:06 raises the event export-through number. -/
  | eventAcknowledgeExport (f : Frame)
  /-- VERIFY_CHAIN (R414): A write to 0x6200:0B verifies chain MACs up to the head. -/
  | verifyChain (f : Frame)
  /-- EVENT_RING_ENTRY_WRITE (R413): With a committed event record and space, an entry is written to ring 1. -/
  | eventRingEntryWrite
  /-- ADD (R431): ADD writes ra + rb and carry. -/
  | opAdd (p : Fin 4) (rd ra rb : Fin 16)
  /-- ADDC (R431): ADDC writes ra + rb + CY and carry. -/
  | opAddc (p : Fin 4) (rd ra rb : Fin 16)
  /-- SUB (R431): SUB writes ra − rb and borrow. -/
  | opSub (p : Fin 4) (rd ra rb : Fin 16)
  /-- SUBB (R431): SUBB writes ra − rb − CY and borrow. -/
  | opSubb (p : Fin 4) (rd ra rb : Fin 16)
  /-- AND (R431): AND writes the bitwise and. -/
  | opAnd (p : Fin 4) (rd ra rb : Fin 16)
  /-- OR (R431): OR writes the bitwise or. -/
  | opOr (p : Fin 4) (rd ra rb : Fin 16)
  /-- XOR (R431): XOR writes the bitwise exclusive-or. -/
  | opXor (p : Fin 4) (rd ra rb : Fin 16)
  /-- ANDN (R431): ANDN writes ra and not rb. -/
  | opAndn (p : Fin 4) (rd ra rb : Fin 16)
  /-- SHL (R432): SHL shifts ra left by rb[5:0]. -/
  | opShl (p : Fin 4) (rd ra rb : Fin 16)
  /-- SHR (R432): SHR shifts ra right logically by rb[5:0]. -/
  | opShr (p : Fin 4) (rd ra rb : Fin 16)
  /-- SAR (R432): SAR shifts ra right arithmetically by rb[5:0]. -/
  | opSar (p : Fin 4) (rd ra rb : Fin 16)
  /-- ROL (R432): ROL rotates ra left by rb[5:0]. -/
  | opRol (p : Fin 4) (rd ra rb : Fin 16)
  /-- SLT (R431): SLT writes 1 when ra is signed less than rb. -/
  | opSlt (p : Fin 4) (rd ra rb : Fin 16)
  /-- SLTU (R431): SLTU writes 1 when ra is unsigned less than rb. -/
  | opSltu (p : Fin 4) (rd ra rb : Fin 16)
  /-- SEL (R431): SEL writes ra when CY is 1, otherwise rb. -/
  | opSel (p : Fin 4) (rd ra rb : Fin 16)
  /-- CLZ (R431): CLZ writes the leading zero count of ra. -/
  | opClz (p : Fin 4) (rd ra rb : Fin 16)
  /-- ODIF (R426): ODIF writes the octet distance between two octet pointers. -/
  | opOdif (p : Fin 4) (rd ra rb : Fin 16)
  /-- OADD (R425): OADD writes optr_add of ra and rb. -/
  | opOadd (p : Fin 4) (rd ra rb : Fin 16)
  /-- ADDI (R430): ADDI writes ra plus a sign-extended immediate and carry. -/
  | opAddi (p : Fin 4) (rd ra : Fin 16) (imm : Imm)
  /-- ANDI (R430): ANDI ands ra with a sign-extended immediate. -/
  | opAndi (p : Fin 4) (rd ra : Fin 16) (imm : Imm)
  /-- ORI (R430): ORI ors ra with a sign-extended immediate. -/
  | opOri (p : Fin 4) (rd ra : Fin 16) (imm : Imm)
  /-- XORI (R430): XORI exclusive-ors ra with a sign-extended immediate. -/
  | opXori (p : Fin 4) (rd ra : Fin 16) (imm : Imm)
  /-- SHI (R432): SHI shifts or rotates ra by an immediate kind and amount. -/
  | opShi (p : Fin 4) (rd ra : Fin 16) (imm : BitVec 9)
  /-- MOVI (R430): MOVI loads a sign-extended immediate. -/
  | opMovi (p : Fin 4) (rd : Fin 16) (imm : MoviImm)
  /-- MOVHI (R430): MOVHI replaces the high half of rd with imm24. -/
  | opMovhi (p : Fin 4) (rd : Fin 16) (imm : BitVec 24)
  /-- OADDI (R425): OADDI writes optr_add of ra and an immediate. -/
  | opOaddi (p : Fin 4) (rd ra : Fin 16) (imm : Imm)
  /-- LDW (R437): LDW loads a word at an aligned effective octet pointer. -/
  | opLdw (p : Fin 4) (rd ra : Fin 16) (disp : Imm) (bus : BusReply)
  /-- LDH (R437): LDH loads a half zero-extended. -/
  | opLdh (p : Fin 4) (rd ra : Fin 16) (disp : Imm) (bus : BusReply)
  /-- LDHS (R437): LDHS loads a half sign-extended. -/
  | opLdhs (p : Fin 4) (rd ra : Fin 16) (disp : Imm) (bus : BusReply)
  /-- LDO (R437): LDO loads an octet zero-extended. -/
  | opLdo (p : Fin 4) (rd ra : Fin 16) (disp : Imm) (bus : BusReply)
  /-- LDOS (R437): LDOS loads an octet sign-extended. -/
  | opLdos (p : Fin 4) (rd ra : Fin 16) (disp : Imm) (bus : BusReply)
  /-- STW (R437): STW stores a word at an aligned pointer. -/
  | opStw (p : Fin 4) (rs ra : Fin 16) (disp : Imm) (bus : BusReply)
  /-- STH (R437): STH stores a half, leaving the rest of the word. -/
  | opSth (p : Fin 4) (rs ra : Fin 16) (disp : Imm) (bus : BusReply)
  /-- STO (R437): STO stores an octet, leaving the rest of the word. -/
  | opSto (p : Fin 4) (rs ra : Fin 16) (disp : Imm) (bus : BusReply)
  /-- BEQ (R443): BEQ branches with one delay slot when ra equals rb. -/
  | opBeq (p : Fin 4) (ra rb : Fin 16) (disp : Imm)
  /-- BNE (R443): BNE branches when ra differs from rb. -/
  | opBne (p : Fin 4) (ra rb : Fin 16) (disp : Imm)
  /-- BLT (R443): BLT branches on signed less-than. -/
  | opBlt (p : Fin 4) (ra rb : Fin 16) (disp : Imm)
  /-- BGE (R443): BGE branches on signed greater-or-equal. -/
  | opBge (p : Fin 4) (ra rb : Fin 16) (disp : Imm)
  /-- BLTU (R443): BLTU branches on unsigned less-than. -/
  | opBltu (p : Fin 4) (ra rb : Fin 16) (disp : Imm)
  /-- BGEU (R443): BGEU branches on unsigned greater-or-equal. -/
  | opBgeu (p : Fin 4) (ra rb : Fin 16) (disp : Imm)
  /-- BZ (R430): BZ branches when ra is zero. -/
  | opBz (p : Fin 4) (ra : Fin 16) (disp : Imm)
  /-- BNZ (R430): BNZ branches when ra is non-zero. -/
  | opBnz (p : Fin 4) (ra : Fin 16) (disp : Imm)
  /-- BCY (R430): BCY branches when CY is set. -/
  | opBcy (p : Fin 4) (ra : Fin 16) (disp : Imm)
  /-- BNC (R430): BNC branches when CY is clear. -/
  | opBnc (p : Fin 4) (ra : Fin 16) (disp : Imm)
  /-- BNEG (R430): BNEG branches when bit 47 of ra is set. -/
  | opBneg (p : Fin 4) (ra : Fin 16) (disp : Imm)
  /-- BPOS (R430): BPOS branches when bit 47 of ra is clear. -/
  | opBpos (p : Fin 4) (ra : Fin 16) (disp : Imm)
  /-- BR (R443): BR branches unconditionally with a delay slot. -/
  | opBr (p : Fin 4) (disp : JumpDisp)
  /-- CALL (R444): CALL pushes a call entry on the return stack and branches. -/
  | opCall (p : Fin 4) (disp : JumpDisp)
  /-- CALLR (R444): CALLR pushes a call entry and jumps to ra. -/
  | opCallr (p : Fin 4) (ra : Fin 16)
  /-- JR (R443): JR jumps to the parcel pointer in ra. -/
  | opJr (p : Fin 4) (ra : Fin 16)
  /-- RET (R444): RET pops a call entry and continues at its return pointer. -/
  | opRet (p : Fin 4)
  /-- LOOP (R446): LOOP sets up a hardware loop set with a register count. -/
  | opLoop (p : Fin 4) (set : Fin 2) (rc : Fin 16) (e : BitVec 12)
  /-- LOOPI (R446): LOOPI sets up a hardware loop set with an immediate count. -/
  | opLoopi (p : Fin 4) (set : Fin 2) (n : BitVec 12) (e : BitVec 24)
  /-- LOOPX (R436): LOOPX clears a loop set's count. -/
  | opLoopx (p : Fin 4) (imm : BitVec 8)
  /-- MUL (R435): MUL writes the low 48 bits of the product. -/
  | opMul (p : Fin 4) (rd ra rb : Fin 16)
  /-- MULHU (R435): MULHU writes the high 48 bits of the unsigned product. -/
  | opMulhu (p : Fin 4) (rd ra rb : Fin 16)
  /-- MULHS (R435): MULHS writes the high 48 bits of the signed product. -/
  | opMulhs (p : Fin 4) (rd ra rb : Fin 16)
  /-- MFMH (R435): MFMH copies MH to rd. -/
  | opMfmh (p : Fin 4) (rd : Fin 16)
  /-- MTMH (R435): MTMH copies ra to MH. -/
  | opMtmh (p : Fin 4) (ra : Fin 16)
  /-- MADD (R435): MADD forms ra × rb + rc + MH, writing low bits to rd and high bits to MH. -/
  | opMadd (p : Fin 4) (rd ra rb rc : Fin 16)
  /-- MOVO (R450): MOVO copies octets upward while g14 is non-zero. -/
  | opMovo (p : Fin 4) (count : Nat)
  /-- MOVOD (R450): MOVOD copies octets downward while g14 is non-zero. -/
  | opMovod (p : Fin 4) (count : Nat)
  /-- MOVW (R450): MOVW copies words while g14 is non-zero. -/
  | opMovw (p : Fin 4) (count : Nat)
  /-- FILLO (R450): FILLO fills octets with ra[7:0] while g14 is non-zero. -/
  | opFillo (p : Fin 4) (ra : Fin 16) (count : Nat)
  /-- FILLW (R450): FILLW fills words with ra while g14 is non-zero. -/
  | opFillw (p : Fin 4) (ra : Fin 16) (count : Nat)
  /-- SYS (R472): SYS checks the gate table entry and arguments and enters the gate as a gate call. -/
  | opSys (p : Fin 4) (imm : BitVec 8)
  /-- ERET (R467): ERET pops a kind-1 entry, checks and restores the frame and continues at the saved pointer. -/
  | opEret (p : Fin 4)
  /-- SETML (R461): SETML sets the mask level within the writer's admitted range. -/
  | opSetml (p : Fin 4) (imm : BitVec 8)
  /-- MFSR (R423): MFSR reads a special register. -/
  | opMfsr (p : Fin 4) (rd : Fin 16) (imm : BitVec 8)
  /-- MTSR (R423): MTSR writes a special register, with loop, ML and return-stack side effects. -/
  | opMtsr (p : Fin 4) (imm : BitVec 8) (ra : Fin 16)
  /-- FENCE (R438): FENCE completes when every earlier store of the pair is performed. -/
  | opFence (p : Fin 4)
  /-- IFENCE (R438): IFENCE fences stores and discards prefetched parcels. -/
  | opIfence (p : Fin 4)
  /-- GFENCE (R485): GFENCE completes when accesses checked under earlier gate epochs have drained. -/
  | opGfence (p : Fin 4)
  /-- WAIT (R475): WAIT stops issue until an interrupt is admitted. -/
  | opWait (p : Fin 4)
  /-- BRK (R463): BRK takes a breakpoint exception. -/
  | opBrk (p : Fin 4) (imm : BitVec 8)
  /-- PUSH (R453): PUSH decrements g15 by a word and stores ra, or raises a data-stack fault. -/
  | opPush (p : Fin 4) (ra : Fin 16)
  /-- POP (R453): POP loads the word at g15 and advances g15. -/
  | opPop (p : Fin 4) (rd : Fin 16)
  /-- RSSPILL (R454): RSSPILL spills every on-die return-stack entry of a level. -/
  | opRsspill (p : Fin 4) (imm : BitVec 8)
  /-- ILLEGAL_INSTRUCTION (R430): An unassigned opcode, fn or cond, or a non-zero zero field, raises an illegal-instruction fault. -/
  | illegalInstruction (p : Fin 4) (parcel0 parcel1 : BitVec 24)
  /-- INTERRUPT (R475): An admitted interrupt source is taken at the next allowed instruction boundary. -/
  | interrupt (p : Fin 4)
  /-- ICLEAR (R462): A write to ICLEAR clears pending interrupt sources. -/
  | iclear (p : Fin 4) (l : Level) (value : Word)
  /-- DOORBELL (R462): A write to DOORBELL raises source 9 on each named pair. -/
  | doorbell (p : Fin 4) (l : Level) (value : Word)
  /-- TIMER_EXPIRY (R462): TIMER1 or TIMER2 counts down to zero, raises its source and stops. -/
  | timerExpiry (p : Fin 4) (t : Fin 2)
  /-- PCOVF_WRITE (R487): A write of 1 to a PCOVF bit clears that counter's overflow. -/
  | pcovfWrite (p : Fin 4) (l : Level) (value : Word)
  /-- GAUNTLET_RULE_WRITE (R480): A Monitor write of word 1 puts a staged rule in force and advances the gate's epoch. -/
  | gauntletRuleWrite (p : Fin 4) (l : Level) (gate : Fin 14) (rule : Fin 16) (value : Word)
  /-- GATE_FENCE (R485): A write to 0x7200:10 completes when earlier-epoch accesses have drained. -/
  | gateFence (f : Frame)
  /-- FC_KEY (R496): A write to FC_KEY advances or resets the direct-path unlock sequence. -/
  | fcKey (p : Fin 4) (value : Word)
  /-- WORD_PROGRAM (R494): Flash command 0x01 programs one word. -/
  | wordProgram (via : FlashVia)
  /-- ROW_PROGRAM (R494): Flash command 0x02 programs rows from commons, yielding between rows. -/
  | rowProgram (via : FlashVia)
  /-- SECTOR_ERASE (R501): Flash command 0x03 journals and erases a sector. -/
  | sectorErase (via : FlashVia)
  /-- ERASE_SUSPEND (R503): Flash command 0x04 suspends the bank's erase. -/
  | eraseSuspend (via : FlashVia)
  /-- ERASE_RESUME (R503): Flash command 0x05 resumes a suspended erase. -/
  | eraseResume (via : FlashVia)
  /-- RETIRE_WORD (R494): Flash command 0x06 programs the retire pattern over a word. -/
  | retireWord (via : FlashVia)
  /-- MARGIN_READ (R510): Flash command 0x07 margin-reads a sector, refreshing it on failure. -/
  | marginRead (via : FlashVia)
  /-- COUNTER_INCREMENT (R506): Flash command 0x08 increments a flash counter, switching pages when full. -/
  | counterIncrement (via : FlashVia)
  /-- COUNTER_SET (R507): Flash command 0x09 sets a counter by a page switch, refusing a backward value. -/
  | counterSet (via : FlashVia)
  /-- OPTION_REWRITE (R509): Flash command 0x0A writes a new option-area copy. -/
  | optionRewrite (via : FlashVia)
  /-- FLASH_LIFECYCLE_ADVANCE (R509): Flash command 0x0B programs the next lifecycle word in both copies. -/
  | flashLifecycleAdvance (via : FlashVia)
  /-- FC_ABORT (R514): A write to FC_ABORT aborts the direct-path operation. -/
  | fcAbort (p : Fin 4)
  /-- FQ_TAIL_WRITE (R495): A write to FQ_TAIL submits descriptors to the flash queue. -/
  | fqTailWrite (p : Fin 4) (value : Word)
  /-- FQ_ABORT (R514): A write to FQ_ABORT aborts the descriptor with that tag. -/
  | fqAbort (p : Fin 4) (value : Word)
  /-- FLASH_OPERATION_COMPLETE (R498): A bank's operation ends; status and code are written and the next operation by class starts. -/
  | flashOperationComplete (bank : Fin 2) (e : FlashEnd)
  /-- PERIODIC_MARGIN_READ (R511): Every 20 s the controller margin-reads the next sector of the pass. -/
  | periodicMarginRead (failing : Nat) (corrected : Bool)
  /-- MARGIN_PASS (R511): A write to 0x7300:10 starts a full margin pass. -/
  | marginPass (f : Frame)
  /-- REQA (R521): The tag answers REQA with ATQA. -/
  | reqa
  /-- WUPA (R521): The tag answers WUPA with ATQA unless in Doff. -/
  | wupa
  /-- ANTICOLLISION (R521): The tag answers an anticollision command with its UID bits. -/
  | anticollision (level : Fin 2) (bits : List Bool)
  /-- TAG_SELECT (R521): The tag answers SELECT with its SAK. -/
  | tagSelect (level : Fin 2) (uid : List Byte)
  /-- HLTA (R521): HLTA halts the tag. -/
  | hlta
  /-- RATS (R521): The tag answers RATS with its ATS. -/
  | rats
  /-- PPS (R521): The tag refuses PPS, keeping 106 kbit/s. -/
  | pps
  /-- R_BLOCK (R521): The tag answers an R-block under ISO/IEC 14443-4. -/
  | rBlock (ack : Bool) (number : Bool)
  /-- S_DESELECT (R521): S(DESELECT) deselects the tag. -/
  | sDeselect
  /-- DOFF (R525): DOFF makes the tag silent until the Doff deadline. -/
  | doff
  /-- APDU_SELECT (R524): SELECT of the device application enables the APDUs. -/
  | apduSelect (aid : List Byte)
  /-- READ_RECORD (R524): READ RECORD returns a tag record's committed content. -/
  | readRecord (r : Fin 256)
  /-- WRITE_RECORD (R529): WRITE RECORD writes a tag record through its shadow copy. -/
  | writeRecord (r : Fin 256) (data : List Byte) (more : Bool)
  /-- DIRECTORY (R524): DIRECTORY returns the lengths and attributes of all tag records. -/
  | directory
  /-- ENVELOPE (R526): ENVELOPE carries one sessionless Dexrek frame and returns the answering frame. -/
  | envelope (f : Frame)
  /-- UNKNOWN_APDU (R524): Any other APDU receives 6d 00. -/
  | unknownApdu
  /-- FIELD_ON (R520): An external field appears and the tag side recovers NCLK and enters IDLE when not in Doff. -/
  | fieldOn
  /-- FIELD_LOSS (R529): The external field leaves, abandoning any incomplete exchange without changing records. -/
  | fieldLoss
  /-- DOFF_DEADLINE (R525): Vigil time reaches the Doff deadline and the tag may answer again. -/
  | doffDeadline
  /-- END_DOFF (R525): A write to 0x8000:09 ends Doff at once. -/
  | endDoff (f : Frame)
  /-- WIRED_RECORD_WRITE (R531): A wired write of a tag record applies via its shadow, waits, or is refused FIELD_BUSY. -/
  | wiredRecordWrite (f : Frame) (held : Option (Fin 32))
  /-- READER_POLL (R534): Every 100 ms of an open presentation the reader senses, polls, resolves tokens and switches its field off. -/
  | readerPoll (external : Bool) (tokens : List (List Byte))
  /-- TOKEN_AUTHENTICATION (R536): A selected token's signatures are verified and it is accepted or rejected, possibly completing a glove pair. -/
  | tokenAuthentication (t : TokenReply)
  /-- PRESENTATION_TIMEOUT (R537): A presentation closes 30 s after opening without success and ends ELEVATION_FAILED. -/
  | presentationTimeout
  /-- ROSTER_ADD (R537): A write to 0x8000:23 opens an enrolment presentation for a roster entry. -/
  | rosterAdd (f : Frame)
  /-- ROSTER_REVOKE (R533): A write to 0x8000:24 revokes a roster entry unless fewer than two would remain. -/
  | rosterRevoke (f : Frame)
  /-- CARD_INSERTION (R547): A card-detect line held low for the 50 ms debounce identifies the new card. -/
  | cardInsertion (k : Fin 4) (c : CardReply)
  /-- CARD_REMOVAL (R547): A card-detect rise aborts any operation and frees addresses that stop answering CMD13. -/
  | cardRemoval (k : Fin 4) (answers : List Bool)
  /-- CARD_ARCHIVE (R556): With archiving enabled, committed records are copied to the archive card under the journal. -/
  | cardArchive
  /-- CARD_WRITE_BUSY_END (R552): Busy on KC_DAT0 ends and the device sends CMD13 to check the card. -/
  | cardWriteBusyEnd
  /-- CARD_STATUS_RESPONSE (R552): A CMD13 response decides whether a card write step succeeded, rolls back or is in doubt. -/
  | cardStatusResponse (r : CardStatus)
  /-- CARD_BUSY_TIMEOUT (R552): Busy beyond 500 ms counts as a missing response. -/
  | cardBusyTimeout
  /-- JOURNAL_RESOLUTION (R555): An in-doubt card entry is resolved by hashing its blocks and completing or rolling back. -/
  | journalResolution (index : Fin 4) (content : List Byte) (rewriteOk : Bool)
  /-- PREPARE_CARD (R549): A write to 0x8200:20 writes both label copies of a card. -/
  | prepareCard (f : Frame)
  /-- STAGE_IMAGE (R551): A write to 0x8200:21 writes an image from the staging buffer to an image card. -/
  | stageImage (f : Frame)
  /-- ISLAND_ENTRY (R564): An island idle long enough enters the deepest level permitted. -/
  | islandEntry (i : Fin 26) (idle : Nat)
  /-- ISLAND_WAKE (R565): A wake cause brings an island toward PW0. -/
  | islandWake (i : Fin 26)
  /-- ISLAND_EXIT_COMPLETE (R562): An island reaches PW0 and the waiting access or job proceeds. -/
  | islandExitComplete (i : Fin 26)
  /-- HOST_LATENCY_TOLERANCE_WRITE (R567): A write to 0x1300:01 raises islands deeper than the new tolerance at once. -/
  | hostLatencyToleranceWrite (f : Frame)
  /-- REPORTED_LTR_WRITE (R568): A change of 0x1300:04 sends an LTR message when enabled. -/
  | reportedLtrWrite (f : Frame)
  /-- REFERENCE_CLOCK_LOSS (R569): REF25_IN shows no edge for 160 ns and the PLLs enter holdover. -/
  | referenceClockLoss
  /-- REFERENCE_CLOCK_RETURN (R569): REF25_IN returns within ±2 % and the PLLs resume tracking. -/
  | referenceClockReturn (inRange : Bool)
  /-- PLL_LOSS_OF_LOCK (R569): A PLL loses lock and its outputs are gated. -/
  | pllLossOfLock
  /-- PLL_RELOCK (R569): A PLL relocks and its outputs run again. -/
  | pllRelock
  /-- CRYSTAL_STOP (R570): XT32 stops; vigil ticks come from the RC oscillator. -/
  | crystalStop
  /-- PCIE_REFCLOCK_LOSS (R570): PE_REFCLK stops; the link goes down as a PCIe endpoint reset. -/
  | pcieRefclockLoss
  /-- VIGIL_COPY_CHECK (R572): Once a second the FCLK copy of vigil time is compared and reloaded on mismatch. -/
  | vigilCopyCheck
  /-- CRYSTAL_MEASUREMENT (R574): A 2^20-edge measurement window ends and the trim table entry is updated. -/
  | crystalMeasurement (count : Nat) (meanA0 : Int)
  /-- TRIM_UPDATE (R574): Once a second the trim in force becomes the entry of the current temperature band. -/
  | trimUpdate
  /-- SLEW (R576): A write to 0x9000:07 starts a slew of vigil time. -/
  | slew (f : Frame)
  /-- SLEW_STEP (R576): Every 2^14 VCLK edges one tick is added or withheld until the slew is consumed. -/
  | slewStep
  /-- SET_VIGIL_TIME (R577): A write to 0x9000:02 in Provision sets vigil time, refusing a backward value. -/
  | setVigilTime (f : Frame)
  /-- SNAPSHOT (R579): A write to 0x7100:01 latches every pair's performance counters. -/
  | snapshot (f : Frame)
  /-- PERFORMANCE_DUMP (R580): Each dump period a snapshot is written to the dump ring. -/
  | performanceDump
  /-- FREEZE_PIN (R582): FRZ_N held low 100 ns freezes the device in Forensic, or is ignored and counted elsewhere. -/
  | freezePin (lowNs : Nat)
  /-- FREEZE (R582): A write to 0x9000:20 in Forensic schedules a freeze 100 µs after its response. -/
  | freeze (f : Frame)
  /-- FREEZE_COMMAND_DELAY (R583): 100 µs after the freeze command's response, every domain but VCLK and DCLK stops. -/
  | freezeCommandDelay
  /-- READOUT_READ (R587): Readout command 0x5A shifts out freeze-image words with status and CRC. -/
  | readoutRead (addr count : Nat)
  /-- READOUT_RELEASE (R587): Readout command 0xC3 with the release address performs a device reset after DBG_SEL rises. -/
  | readoutRelease (addr : Nat) (env : StartEnv)
  /-- READOUT_UNKNOWN_COMMAND (R587): An unknown readout command returns status 0x03. -/
  | readoutUnknownCommand (command : BitVec 8)
  /-- REGISTER_WRITE (R66): A write to a register with no behaviour of its own stores the value. -/
  | registerWrite (r : PlainReg) (value : Word)
  /-- PCIE_LINK_UP (R568): The PCIe link trains after PE_PERST_N rises or PE_REFCLK returns, and the N4812 sends its LTR message at link-up. -/
  | pcieLinkUp (ltr : Bool)
  /-- PCIE_LINK_L1_TRANSITION (R561): The PCIe link enters or leaves L1, which changes the deepest level that island I20 may take. -/
  | pcieLinkL1Transition (enter : Bool)
  /-- XT32_RETURN (R577): XT32 oscillates again, so vigil ticks come from the crystal once more and time quality leaves 0x02. -/
  | xt32Return
  /-- VIGIL_SUPPLY_LOSS (R603): The cell is removed or falls below 1.5 V while VAUX is absent, so the vigil store may be lost. -/
  | vigilSupplyLoss (lost : Bool)
  /-- PAIR_JOB_ABORT_BOUND (R284): 200 µs after an abort of a running pair job without JH_DONE from the runtime, the hub ends the job Aborted itself. -/
  | pairJobAbortBound (slot : Fin 4096)
  /-- ERASE_MINIMUM_RUN_EXPIRY (R503): An erase that a lower-class program is waiting behind reaches 1 ms since its start or last resumption and is suspended. -/
  | eraseMinimumRunExpiry (bank : Fin 2)
  /-- FAULT_INJECTION_CANARY (R381): A timing canary in a pair, the key unit or the crypto fabric trips and raises source 0x22. -/
  | faultInjectionCanary (block : CanaryBlock)
  /-- BOUNDARY_SCAN (R587): In Blank and Factory, the debug balls carry IEEE 1149.1 boundary-scan TAP traffic on TCK, TMS, TDI and TDO. -/
  | boundaryScan (tms tdi : Bool)
  /-- MCTP_CONTROL_RESPONSE (R201): An MCTP control response arrives, either Set Endpoint ID from a board device or Get Routing Table Entries from the PCIe bus owner, and the endpoint ID is assigned or the EID resolved. -/
  | mctpControlResponse (r : MctpReply)
deriving DecidableEq, Repr

end Sys2Proof
end

