-- ==== Sys2Proof/Config.lean ====
section
/-! DEFINITION. What an implementation fixes and what the model leaves open: published algorithms taken as opaque
functions (their standards are outside the spec), keys set at manufacture, and free values. -/

namespace Sys2Proof.Config

/-- SHA-384 (FIPS 180-4); the spec names it and does not define it. -/
opaque sha384 : List Byte → BitVec 384

/-- A hash, MAC or XOF of a lane by its operation code (spec/09): input octets, octets produced. -/
opaque digest (operation : Nat) (data : List Byte) (length : Nat) (i : Nat) : Byte

/-- KMAC256 (SP 800-185) of key, data and customisation, octet i of an output of the given bits. -/
opaque kmac256 (key data custom : List Byte) (bits : Nat) : Nat

/-- The counter-mode key stream of AES-256-GCM (SP 800-38D) under a key and nonce, octet i. -/
opaque gcmStream (key : BitVec 256) (nonce : List Byte) (i : Nat) : Byte

/-- The tag of AES-256-GCM over associated data and ciphertext. -/
opaque gcmTag (key : BitVec 256) (nonce aad ciphertext : List Byte) : BitVec 128

/-- ECDSA verification on a curve slot: public key, digest, signature (r then s). -/
opaque ecdsaVerify (curve : Nat) (key digest signature : List Byte) : Bool

/-- ML-DSA verification by parameter set: public key, message, context, signature. -/
opaque mldsaVerify (set : Nat) (key message context signature : List Byte) : Bool

/-- Any other signature verification of spec/10 (RSA, EdDSA) by algorithm code. -/
opaque signatureVerify (algorithm : Nat) (key message signature : List Byte) : Bool

/-- An ECDSA P-384 signature by a private key over a digest; the draw makes signatures fresh. -/
opaque ecdsaSign (key digest : List Byte) (draw : Nat) : BitVec 768

/-- An ML-DSA-87 signature by a private key over a message with a context, octet i. -/
opaque mldsaSign (key message context : List Byte) (draw i : Nat) : Byte

/-- The public key that belongs to a private key: 0 ECDSA P-384 uncompressed (97 octets), 1 ML-DSA-87 (2,592 octets);
octet i. -/
opaque publicKey (algorithm : Nat) (key : List Byte) (i : Nat) : Byte

/-- The answer to an ICMPv6 echo request, and what IPv6 neighbour discovery answers to a message for the addresses of R70
(interface identifier from the MAC address, static address); none when it answers nothing (RFC 4443, RFC 4861). -/
opaque icmpv6EchoReply (request : List Byte) : List Byte
opaque neighbourAnswer (message mac static : List Byte) : Option (List Byte)

/-- The shared secrets of a session setup (R54): ECDH and ML-KEM over the peer's step 1 and the device's draw. -/
opaque setupShared (step1 : List Byte) (draw : Nat) : List Byte

/-- The device's part of setup step 2 (R54): its ephemeral key, ML-KEM ciphertext and nonce, octet i of 1,697. -/
opaque setupStep2 (step1 : List Byte) (draw i : Nat) : Byte

/-- X.509 certificates that the device signs (R353, R354): kind (7 device identity, 9 first layer), subject key, extension
content, signing scalar, draw; and the subject key of a certificate. -/
opaque certificate (kind : Nat) (subject extension_ key : List Byte) (draw : Nat) : List Byte
opaque subjectKey (certificate : List Byte) : List Byte

/-- What X.509 makes of a credential chain (R51): whether it chains to the root of the digest, the role code it grants
(1 Operator, 2 Auditor, other values none), and the public keys (ECDSA then ML-DSA) of the credential. -/
opaque credential (chain : List Byte) (rootDigest : BitVec 384) : Option (Nat × List Byte × List Byte)

/-- Octets of the credential chain at the front of setup step 3: the two signatures follow (R51). -/
opaque credentialLength (step3 : List Byte) : Nat

/-- The vendor keys in the boot ROM (R53, R103): ECDSA P-384 and ML-DSA-87 public keys. -/
opaque vendorEcdsaKey : List Byte
opaque vendorMldsaKey : List Byte

/-- CTR_DRBG of SP 800-90A (R372): the state after an instantiation from entropy and personalisation, after a reseed,
and a generate call's word i and the state after it. -/
opaque drbgInstantiate (entropy : List Byte) : BitVec 384
opaque drbgReseed (state : BitVec 384) (entropy : List Byte) : BitVec 384
opaque drbgWord (state : BitVec 384) (i : Nat) : Word
opaque drbgNext (state : BitVec 384) : BitVec 384

/-- Set at manufacture: the silicon revision (B1 or B0, R2), and the values of the objects marked so (R75, R378, R416,
R541). -/
opaque revisionB1 : Bool
opaque deviceSerial : BitVec 96
opaque macAddress : BitVec 48
opaque enterpriseNumber : BitVec 48
opaque tagUid : BitVec 56
opaque originSignature : BitVec 768
opaque assessedEntropy : BitVec 64
opaque proportionCutoffs : BitVec 64
opaque factoryCalibration : BitVec 432
opaque referenceValues : BitVec 288

/-- ID octet i of the flash on a chip select, which the spec does not state where no initialisation has read it (R126). -/
opaque flashId (channel chipSelect i : Nat) : Byte

/-- The unique device secret in its key row (R347). -/
opaque uniqueDeviceSecret : BitVec 384

/-- The leftmost 48 bits of the AES encryption of sixteen ff octets, or the KMAC256 check value, of a key (R307). -/
opaque keyCheckValue (key : List Byte) : Word

/-- RFC 5649 key unwrap under a key (R365); none when its integrity check fails. -/
opaque kwpUnwrap (key ciphertext : List Byte) : Option (List Byte)

/-- A lane's running state after octets of a message (spec/09): class, operation, key, state before (empty at the
beginning), octets; octet i. -/
opaque laneState (cls operation : Nat) (key before data : List Byte) (i : Nat) : Byte

/-- What a lane writes for octets of a message from a state: class, operation, key, state, parameters A and B, final part,
octets; octet i. -/
opaque laneOutput (cls operation : Nat) (key before : List Byte) (a b : Nat) (final : Bool) (data : List Byte) (i : Nat) :
  Byte

/-- Whether a GCM tag at the end of a final part matches (R300). -/
opaque laneTagOk (key before : List Byte) (a b : Nat) (data : List Byte) : Bool

/-- Signatures, shared secrets and ciphertexts of the units other than ECDSA and ML-DSA-87 signatures (spec/10): class,
operation, parameters, private key, source, random words; octet i. -/
opaque unitOutput (cls operation a b : Nat) (key source : List Byte) (random : List Word) (i : Nat) : Byte

/-- Whether a verify operation of the units other than ECDSA finds a signature valid, and whether its input is well
formed under R321 where its standard alone says so. -/
opaque unitVerify (cls operation a b : Nat) (source : List Byte) : Bool
opaque unitInputOk (cls operation a b : Nat) (source : List Byte) : Bool

/-- ECDSA verification under a curve definition: definition, public key, digest, signature. -/
opaque ecVerify (definition key digest signature : List Byte) : Bool

/-- Octets k of the modulus in an RSA private key's material (R319). -/
opaque rsaModulusOctets (key : List Byte) : Nat

/-- Octets of an RSA slot's public key as PUBLIC writes it (R365). -/
opaque rsaPublicOctets (key : List Byte) : Nat

/-- The key of domain 0x04 blobs, for vendor tests in Factory (R359). -/
opaque vendorTestKey : BitVec 256

/-- Attributes of keys that key-pair generation, ECDH and ML-KEM write into output slots (R317 to R319), where the spec
states none: mode mask, pair mask, flags, key ID. -/
opaque outputModeMask : BitVec 16
opaque outputPairMask : BitVec 8
opaque outputFlags : BitVec 8
opaque outputKeyId : BitVec 48

/-- R331: the further Miller–Rabin bases that the DRBG gives. -/
opaque primeBase (draw n i : Nat) : Nat

/-- The definition octets of curve slots 3 and 4 (R345), for which the spec gives no form. -/
opaque edwardsDefinition (slot : Nat) : List Byte

/-- R149, R150: octets of the SFDP tables whose encodings JESD216D assigns: the Basic Flash Parameter Table by density,
host protocol mask, D_quad and the flash's own SFDP; the 4-Byte Address Instruction Table; xSPI Profile 1.0 by
D_oct; the switch sequence. -/
opaque sfdpBasic (density mask dQuad : Nat) (own : List Byte) (i : Nat) : Byte
opaque sfdpFourByte (i : Nat) : Byte
opaque sfdpProfile (dOct i : Nat) : Byte
opaque sfdpSwitch (i : Nat) : Byte

/-- R232: SHA-384 of the boot ROM, whose content the spec does not give. -/
opaque bootRomDigest : BitVec 384

/-- Octets of SPDM and MCTP messages (DMTF standards outside the spec). A request by its place in R203 (1 GET_VERSION to 7
GET_MEASUREMENTS, 8 RESPOND_IF_READY), with the version in force, certificate slot, offset and nonce. -/
opaque spdmRequest (message version slot offset : Nat) (nonce : List Byte) : List Byte

/-- A response of the N4812 as responder by its response code, over the request and the content that R217 and R218 give. -/
opaque spdmResponse (code : Nat) (request content : List Byte) : List Byte

/-- R209: what X.509 makes of a chain under a negotiated hash and asymmetric algorithm (checks 1 to 6 but the anchor): the
SHA-384 of the first certificate, the latest notBefore and the earliest notAfter in vigil seconds (none for no expiry), and
the leaf's public key; none when a check fails. -/
opaque certChain (hash asym : Nat) (chain : List Byte) : Option (BitVec 384 × Nat × Option Nat × List Byte)

/-- A responder's signature under its leaf key: version, algorithms, key, messages before, the signed response. -/
opaque spdmVerify (version asym hash : Nat) (key transcript response signature : List Byte) : Bool

/-- The N4812's own SPDM signature by its first-layer key over the messages of its connection (R217). -/
opaque spdmSign (key transcript response : List Byte) (draw : Nat) : BitVec 768

/-- SPDM certificate slot 0 (R217): the Smihastad root, then the stored certificates, in SPDM's chain form. -/
opaque spdmCertSlot (identity firstLayer : List Byte) : List Byte

/-- MCTP control messages (R201, R202) by kind, with an endpoint ID; and the DOE discovery response (R196). -/
opaque mctpControl (kind eid : Nat) : List Byte
opaque doeDiscovery (index : Nat) : List Byte

/-- Freeze-image sections (R586) whose layout the spec does not give: their length in words, and a word of one. -/
opaque freezeLength (section_ : Nat) : Nat
opaque freezeWord (section_ i : Nat) : Word

/-- A free value: where the spec states no result, the n-th one drawn. -/
opaque freeWord : Nat → Word

end Sys2Proof.Config
end

