-- ==== Sys2Proof/Machine/State.lean ====
section
/-! DEFINITION. The state of the N4812 as plain data, its reset value, and the reasons a step can stop. A reset value marked DESIGN CHOICE is one
that the spec does not state (notes/assumptions/88.md). -/

namespace Sys2Proof.Machine

/-- A value of the object store, by its Dexrek type: a number, an octet string, words, or a CMD's status and
completion code (R42, R46). -/
inductive Val
  | num (n : Nat)
  | octets (b : List Byte)
  | words (w : List Word)
  | cmd (status : Nat) (code : Nat)
deriving DecidableEq, Repr

/-- Where the vigil domain draws its supply (R15, R603). -/
inductive VigilSupply | vaux | vbat | none
deriving DecidableEq, Repr

/-- What one reset-hold output does: high impedance (not enabled), driven low, released high, or kept low for a
Halt verdict or an awaited attestation (R16, R142, R143, R214). -/
inductive HoldOut | hiZ | low | high | heldHalt | heldAtt
deriving DecidableEq, Repr

/-- Outages and the saved integrity counters (R34, R35, R38); the counters themselves are objects of the store. -/
structure Integrity where
  /-- The values of R34's counters and of counted time last saved to flash, by object key; R34, R512; reset empty. -/
  saved : KMap Val
  /-- The outage in progress: its cause (0x1200:33) and its start in vigil time; R35, R37; reset none. -/
  outage : Option (Nat × Nat)
  /-- The primary record is late: its outage interval is open; R35; reset false. -/
  primaryLate : Bool
  /-- Vigil time up to which counted time (0x1200:32) has been reckoned; R36, R38; reset 0. -/
  countedTo : Nat
  /-- The bus scrambling keys were replaced by DRBG-derived keys; R26; reset false. -/
  busKeysFromDrbg : Bool
  /-- Vigil time of the last hourly save; R512; reset 0. -/
  savedAt : Nat
deriving DecidableEq, Repr

/-- The roles of R11 and R50; Vendor acts only through an envelope (R51, R53). -/
inductive Role | observer | operator | auditor | officer
deriving DecidableEq, Repr

/-- The values that R609 keeps per session, or per transport for sessionless requests. -/
structure Holder where
  /-- 0x1100:40, 96 octets; R75, R609; reset all zero. -/
  subscription : List Byte
  /-- 0x1100:41, U24 milliseconds; R75, R609; reset 1,000. -/
  period : Nat
  /-- 0x1100:42, U8; R75, R609; reset 0x00. -/
  destination : Nat
  /-- 0x3000:12, U8 attestation window slot; R219, R609; reset 0. -/
  attestSlot : Nat
  /-- 0x3100:10, U48 ledger window cursor; R254, R263, R609; reset 1. -/
  ledgerCursor : Nat
  /-- The octet offset at which the ledger window read stands; R254; reset 0. -/
  ledgerOffset : Nat
  /-- 0x6200:03, U48 event-log cursor; R412, R416, R609; reset 1. -/
  eventCursor : Nat
deriving DecidableEq, Repr

/-- One session (R50 to R60). -/
structure Session where
  /-- Session ID, 48 bits; R59; unassigned at reset (no session exists). -/
  id : Word
  /-- The transport of the session; R50; none exists at reset. -/
  transport : Transport
  /-- The role it holds; R50 to R52; none exists at reset. -/
  role : Role
  /-- Gained Operator in Provision with an empty chain (R51); none exists at reset. -/
  provisioning : Bool
  /-- Gained Officer through a glove pair (R83); none exists at reset. -/
  glovePair : Bool
  /-- The two roster entries that elevated it (R52, R236); none exists at reset. -/
  officers : Option (Nat × Nat)
  /-- The octets of its setup, steps 1 to 4 (R52, R54); none exists at reset. -/
  transcript : List Byte
  /-- Session secret, 512 bits: bits [511:256] peer to device, [255:0] device to peer (R54); none exists at reset. -/
  secret : BitVec 512
  /-- Highest sequence received, U48 (R60); 0 at setup. -/
  rxHigh : Nat
  /-- Sequences among the 64 below the highest that were seen (R60); empty at setup. -/
  rxSeen : List Nat
  /-- Next sequence sent, U48 (R59); 1 at setup. -/
  txNext : Nat
  /-- Vigil time of its last frame (R56); set at setup. -/
  lastUsed : Nat
  /-- Its own values of R609. -/
  holder : Holder
deriving DecidableEq, Repr

/-- A session setup in progress (R54, R55). -/
structure Setup where
  /-- The session ID that step 2 announced; R54. -/
  id : Word
  /-- Transport of the setup; R55. -/
  transport : Transport
  /-- Setup octets exchanged so far (R54). -/
  transcript : List Byte
  /-- Octets of the step in arrival, before its last segment (R62). -/
  partialStep : List Byte
  /-- The session secret formed with step 2; none before it (R54). -/
  secret : Option (BitVec 512)
  /-- Highest sequence received under the new keys, U48 (R60); 0 at step 2. -/
  rxHigh : Nat
  /-- Sequences among the 64 below the highest that were seen (R60); empty at step 2. -/
  rxSeen : List Nat
  /-- Vigil time of the last segment of step 1 (R55). -/
  since : Nat
deriving DecidableEq, Repr

/-- A segmented write in progress (R62, R63). -/
structure SegWrite where
  /-- The object: index × 256 + subindex (R63). -/
  key : Nat
  /-- The writer: its session, or none for a sessionless requester (R63). -/
  writer : Option Word
  /-- The writer's transport (R63). -/
  transport : Transport
  /-- Octets received so far (R62). -/
  octets : List Byte
  /-- The write was abandoned by a gap, and the next segment receives SEGMENT_TIMEOUT (R63). -/
  abandoned : Bool
deriving DecidableEq, Repr

/-- A write queued for the close of its tick (R64, R65). -/
structure TickWrite where
  /-- The object: index × 256 + subindex. -/
  key : Nat
  /-- The value written. -/
  value : Val
  /-- Its transport (R64 order). -/
  transport : Transport
  /-- The frame it answers. -/
  frame : Frame
deriving DecidableEq, Repr

/-- A flash commit of a Pers object in flight (R45). -/
structure Commit where
  /-- The object: index × 256 + subindex. -/
  key : Nat
  /-- The new value. -/
  value : Val
  /-- The write it answers; none for a write of the N4812's own. -/
  frame : Option Frame
deriving DecidableEq, Repr

/-- MBX_STAT bits [1:0] (R66). -/
inductive MbxStat | free | busy | ready
deriving DecidableEq, Repr

/-- One PCIe mailbox slot (R66, R67). -/
structure Mailbox where
  /-- MBX_STAT state; R66; reset free (PRESUMED, notes/assumptions/115.md: an endpoint reset frees the slots, R111). -/
  stat : MbxStat
  /-- Request length, 11 bits; R66; reset 0. -/
  reqLen : Nat
  /-- Request buffer, 2 KiB of octets; R66; reset DESIGN CHOICE 0. -/
  reqBuf : List Host.Cell
  /-- Response length, 11 bits; R66; reset 0. -/
  respLen : Nat
  /-- Response buffer, 2 KiB; R66; reset DESIGN CHOICE empty. -/
  respBuf : List Byte
deriving DecidableEq, Repr

/-- The dictionary, its sessions and transports (spec/02_dexrek_dictionary.md). -/
structure Dictionary where
  /-- Values of the stored objects, keyed index × 256 + subindex; an unlisted object has its table default; R41, R44. -/
  objs : KMap Val
  /-- The stored values at the start of the tick, which reads return; R65. -/
  atTick : KMap Val
  /-- 0x1100:01, U48; R75; reset 0. -/
  tick : Nat
  /-- Writes of this tick, in arrival order; R64; reset empty. -/
  tickWrites : List TickWrite
  /-- Objects already written in this tick by a command that acts at once, by object and holder; R64; reset empty. -/
  touched : List (Nat × Option Word × Transport)
  /-- A board boot requested in this tick: by a write (its frame) or by PE_PERST_N (no frame); R64, R109; reset none. -/
  boardBoot : Option (Option Frame)
  /-- Flash commits in flight; R45; reset empty. -/
  commits : List Commit
  /-- Segmented writes in progress; R63; reset empty. -/
  segments : List SegWrite
  /-- The sessions, at most 16; R55; reset empty. -/
  sessions : List Session
  /-- The values of R609 for sessionless requests, in the order PCIe, I3C 0, I3C 1, network, tag. -/
  sessionless : Vector Holder 5
  /-- Setups in progress; R55; reset empty. -/
  setups : List Setup
  /-- The four mailbox slots; R66. -/
  mailbox : Vector Mailbox 4
  /-- Telemetry update counter, U32; R72; reset DESIGN CHOICE 0. -/
  telemetryCount : Nat
  /-- Telemetry window entries; R72; reset DESIGN CHOICE empty. -/
  telemetry : List Byte
  /-- I3C port roles in force, latched at reset from 0x1100:10; R68, R75; reset false. -/
  i3cSwapped : Bool
  /-- Hot restart in progress: requests are answered RESTARTING; R73; reset false. -/
  restarting : Bool
  /-- PE_PERST_N is low; R111; reset false. -/
  perst : Bool
  /-- Count of ephemeral values drawn, which the opaque key functions read; the model's own. -/
  draws : Nat
deriving DecidableEq, Repr

/-- The twelve modes (R79), in the order of their codes 0x0 to 0xB. -/
inductive Mode
  | blank | factory | provision | gate | serve | maintain | ceremony | recover | locked | forensic | vigil | retired
deriving DecidableEq, Repr

/-- The states of a switchable function (R115). -/
inductive FnState | off | starting | on | draining
deriving DecidableEq, Repr

/-- One switchable function (R115, R116). -/
structure Switchable where
  /-- State object, U8; R115. -/
  st : FnState
  /-- An Enable queued during DRAINING; R115. -/
  queued : Bool
deriving DecidableEq, Repr

/-- Why a start, and of which kind (R111). -/
inductive ResetKind | powerOn | powerOnVigilLost | deviceReset | hotRestart
deriving DecidableEq, Repr

/-- The option-area content in force (R91): the words of the copy in use, or the built-in defaults. -/
structure OptionInForce where
  /-- Copy in use: none, or false A and true B; R93, 0x1200:16. -/
  copy : Option Bool
  /-- Copy A valid at the last load; R93, 0x1200:16. -/
  validA : Bool
  /-- Copy B valid at the last load; R93, 0x1200:16. -/
  validB : Bool
  /-- Words 0 to body length − 1 of the copy in use; empty with no valid copy; R91. -/
  words : List Word
deriving DecidableEq, Repr

/-- Modes, start and restart (spec/03_modes_and_startup.md). -/
structure Modes where
  /-- Current mode, 0x1200:01; R79; reset Vigil (before main power arrives). -/
  mode : Mode
  /-- The mode that R90 chose and whose entry still waits for runtime start; R95, R96; reset none. -/
  startPending : Option Mode
  /-- The start or restart in progress has not entered its mode: the 200 ms watchdog runs; R98; reset false. -/
  starting : Bool
  /-- Main supplies within range; R95; reset false. -/
  mainPower : Bool
  /-- VIO33 within range: the I/O ring drives the holds; R94; reset false. -/
  vio33 : Bool
  /-- PFAIL_N is low; R589; reset false. -/
  pfail : Bool
  /-- Option-area content in force; R91, R93. -/
  options : OptionInForce
  /-- Effective hold-enable mask, 16 bits; R81; reset 0. -/
  holdMask : BitVec 16
  /-- The 16 hold outputs; R16, R79; reset high impedance (unpowered). -/
  holds : Vector HoldOut 16
  /-- Hold release entries still to be processed, in order; R143; reset empty. -/
  releaseQueue : List Word
  /-- 0x1200:10; R111; reset DESIGN CHOICE 0x01. -/
  lastReset : ResetKind
  /-- 0x1200:13 running image: none, or false A and true B; R118; reset none. -/
  running : Option Bool
  /-- 0x1200:14, 48 octets; R99, R118; reset DESIGN CHOICE zero. -/
  imageDigest : List Byte
  /-- 0x1200:15, 48 octets; R613, R118; reset DESIGN CHOICE zero. -/
  policyDigest : List Byte
  /-- The time limit expired while an operation was Busy; R87; reset false. -/
  limitExpired : Bool
  /-- Hot restart in progress: image selection (0x00, 0x01, 0xFF); R112; reset none. -/
  hotRestart : Option Nat
  /-- A hot restart that waits for the append in progress; R112; reset none. -/
  hotRestartWaiting : Option Nat
  /-- A retirement whose record is being appended; R86; reset false. -/
  retiring : Bool
  /-- Staged policy programs, by program number; R82; reset empty. -/
  stagedPrograms : KMap (List Byte)
  /-- The runtime's policy program table in force: signed images by program number; R613; reset empty. -/
  programs : KMap (List Byte)
deriving DecidableEq, Repr

/-- Emulated state of one host-side device (R157). -/
structure EmuDevice where
  /-- Host protocol code 0 to 5; R121, R157; reset the descriptor's start protocol (0 built in). -/
  protocol : Nat
  /-- Address mode: true 4 octets; R157; reset the descriptor's (false built in). -/
  addr4 : Bool
  /-- Write-enable latch; R157; reset false. -/
  writeEnable : Bool
  /-- Busy bit; R157; reset false. -/
  busy : Bool
  /-- Deep power-down flag; R157, R158; reset false. -/
  deepDown : Bool
  /-- Soft reset armed by 0x66; R157; reset false. -/
  resetArmed : Bool
deriving DecidableEq, Repr

/-- A forwarded program or erase pending on a chip select (R159). -/
structure Forwarded where
  /-- Pages it touches; R159. -/
  pages : List Nat
  /-- An erase rather than a program; R159. -/
  erase : Bool
  /-- Suspended by a forwarded 0x75; R158, R160. -/
  suspended : Bool
deriving DecidableEq, Repr

/-- What a Recover region reads while it recovers (R139). -/
inductive RecoveryRead | flashRange | card
deriving DecidableEq, Repr

/-- One region of a channel at Gate and in Serve (R132 to R140, R155). -/
structure Region where
  /-- Verdict code, 0x2n03:01; R137; reset 0x00. -/
  verdict : Nat
  /-- Verdict digest, 0x2n03:02; R137; reset empty. -/
  digest : List Byte
  /-- Octets pre-scanned so far, the running input of the hash; R132; reset empty. -/
  scanned : List Byte
  /-- Retries spent on the burst in progress, 0 to 3; R132; reset 0. -/
  retries : Nat
  /-- Every page of the region has been hashed; R132, R138; reset false. -/
  hashed : Bool
  /-- Its pre-scan failed; R131, R132; reset false. -/
  unreadable : Bool
  /-- Octets of its commons reservation; R128, R132, R139; reset empty. -/
  pinned : List Byte
  /-- Recovery in progress; R139; reset none. -/
  recovering : Option RecoveryRead
  /-- Verdict final; R140; reset false. -/
  complete : Bool
  /-- Served from its commons reservation; R139, R145; reset false. -/
  fromCommons : Bool
  /-- A read of the reservation failed and its reload is in progress; R155; reset false. -/
  reloading : Bool
  /-- The reload hashed otherwise: flash-served until the next Gate; R155; reset false. -/
  reloadFailed : Bool
deriving DecidableEq, Repr

/-- Flash side of one chip select of a channel (R131, R161 to R163). -/
structure FlashSide where
  /-- Initialised without a failed step; R131; reset false. -/
  ready : Bool
  /-- Flash fault of this chip select; R131, R162; reset false. -/
  fault : Bool
  /-- The flash's own three ID octets; R126, R131; reset DESIGN CHOICE zero. -/
  id : List Byte
  /-- The flash's own SFDP octets; R131, R149; reset DESIGN CHOICE empty. -/
  sfdp : List Byte
  /-- Density in bits, as the exponent N of 2^N; R149; reset DESIGN CHOICE 0. -/
  density : Nat
  /-- Delay setting, tap 0 to 127; R162, 0x2n05:02; reset DESIGN CHOICE 0. -/
  delay : Nat
  /-- Window width at the last training, taps; R162, 0x2n05:03; reset DESIGN CHOICE 0. -/
  window : Nat
deriving DecidableEq, Repr

/-- One measurement channel (spec/04_measurement_channels.md); its counters are objects of the store. -/
structure Channel where
  /-- Channel phase, 0x2n02:01; R167; reset 0x00. -/
  phase : Nat
  /-- Host port, 0x2n02:02 to :04; R166; reset ON (R167). -/
  port : Switchable
  /-- Emulated devices on chip selects 0 and 1; R120, R157. -/
  emu : Vector EmuDevice 2
  /-- Flash sides of chip selects 0 and 1; R131. -/
  flash : Vector FlashSide 2
  /-- Forwarded operations pending, per chip select; R159; reset none. -/
  forwarded : Vector (Option Forwarded) 2
  /-- Region states, by region index; an unlisted region is not scanned; R137. -/
  regions : KMap Region
  /-- Manifest slots decided in this Gate; R135, R138; reset false. -/
  manifestsDecided : Bool
  /-- Status of each slot that holds a manifest, as decided in this Gate: 1 accepted, 2 invalid, 3 below the minimum version;
  R135, R232; reset empty. -/
  status : KMap Nat
  /-- Manifests in force by slot, kept in flash; R82, R613; reset empty. -/
  manifests : KMap (List Byte)
  /-- Manifest anchors in force, kept in flash; R82, R135, R167; reset empty. -/
  anchors : List Byte
  /-- Flash entry sequence in force, kept in flash; R82, R131, R167; reset empty. -/
  entrySeq : List Byte
  /-- An outage of this port is open: a late read, or a restart; R35, R147; reset false. -/
  outage : Bool
  /-- Refusals since the last refusal event, and that event's vigil time; R160; reset 0 and none. -/
  refusedSince : Nat
  /-- Vigil time of the last refusal event; R160; reset none. -/
  refusedEventAt : Option Nat
  /-- Vigil times of the flash timeouts of the last second; R164; reset empty. -/
  timeouts : List Nat
  /-- Vigil time of the last DQS training; R163; reset 0. -/
  trainedAt : Nat
  /-- Die temperature at the last training (sQ8.16 as of 0x6000 temperature); R163; reset 0. -/
  trainedTemp : Int
  /-- Read-consistency mismatches since the last event, and its vigil time; R192; reset 0 and none. -/
  mismatchSince : Nat
  /-- Vigil time of the last mismatch event; R192; reset none. -/
  mismatchEventAt : Option Nat
deriving DecidableEq, Repr

/-- State field of a fingerprint entry, word 2 bits [43:42] (R184). -/
inductive PageState | free | armed | closing | excluded
deriving DecidableEq, Repr

/-- One fingerprint entry (R184). -/
structure FpEntry where
  /-- Word 0, reference, 48 bits; R184; reset 0 (DESIGN CHOICE: before any Gate the entry is free). -/
  reference : Word
  /-- Word 1, accumulator of the current round; R184; reset 0. -/
  accumulator : Word
  /-- Word 2 [31:0] coverage mask; R184; reset 0. -/
  mask : BitVec 32
  /-- Word 2 [40:32] round count, wraps; R184; reset 0. -/
  rounds : BitVec 9
  /-- Word 2 [47:44] owning channel; R184; reset 0. -/
  channel : Nat
  /-- Word 2 [43:42] state; R184; reset free. -/
  st : PageState
  /-- Word 2 [41] aged flag; R180, R184; reset 0. -/
  aged : Bool
  /-- Sub-blocks pre-scanned so far, before the entry is armed; R175; reset 0. -/
  prescanned : BitVec 32
  /-- The current round was closed by the sweep in progress; R191; reset false. -/
  sweepClosed : Bool
deriving DecidableEq, Repr

/-- An open range of a round (R176). -/
structure OpenRange where
  /-- Entry number of the page; R176. -/
  page : Nat
  /-- Belongs to the page's next round; R176. -/
  next : Bool
  /-- Sub-block 0 to 31; R176. -/
  sub : Nat
  /-- Lowest offset in the sub-block; R176. -/
  lo : Nat
  /-- Highest offset in the sub-block; R176. -/
  hi : Nat
deriving DecidableEq, Repr

/-- A next round of a page (R176). -/
structure NextRound where
  /-- Entry number of the page; R176. -/
  page : Nat
  /-- Its accumulator; R176. -/
  accumulator : Word
  /-- Its coverage mask; R176. -/
  mask : BitVec 32
deriving DecidableEq, Repr

/-- Fingerprint unit of one channel (R173, R176, R178). -/
structure FpUnit where
  /-- Channel key k, loaded; R172; reset none. -/
  key : Option Word
  /-- Unit failed for this boot; R173; reset false. -/
  failed : Bool
  /-- Open-range table, at most 32; R176; reset empty. -/
  ranges : List OpenRange
  /-- Next-round table, at most 8; R176; reset empty. -/
  nexts : List NextRound
  /-- Queued fill-ins, oldest first, by entry; R178; reset empty. -/
  fillIns : List Nat
  /-- First mismatch of the boot in vigil time; R189; reset none. -/
  firstMismatch : Option Nat
deriving DecidableEq, Repr

/-- Read-consistency checking (spec/05_read_consistency.md); its counters are objects of the store. -/
structure Consistency where
  /-- The fingerprint units, one per channel; R173. -/
  units : Vector FpUnit 12
  /-- Fingerprint memory, by entry number; an unlisted entry is free; R183, R184. -/
  entries : KMap FpEntry
  /-- Base entry of each region (channel × 64 + region), at Gate entry; R183; reset empty. -/
  bases : KMap Nat
  /-- Entries allocated, 0x2C00:0A; R183; reset 0. -/
  allocated : Nat
  /-- A sweep is in progress; R191; reset false. -/
  sweeping : Bool
  /-- A round closed by the sweep was discarded; R191; reset false. -/
  sweepLost : Bool
deriving DecidableEq, Repr

/-- The request that a responder slot waits on (R203, R208). -/
inductive SpdmAwait | version | capabilities | algorithms | digests | certificate | challenge | measurements
deriving DecidableEq, Repr

/-- Progress of one responder slot (R203 to R208). -/
structure Responder where
  /-- Outcome code, 0x3000:10; R212; reset 0x00. -/
  outcome : Nat
  /-- Endpoint ID assigned or resolved; R201, R202; reset none. -/
  eid : Option Nat
  /-- Device found on port 0 (R201); reset false. -/
  found : Bool
  /-- Request outstanding or next; none when not in progress; R203; reset none. -/
  await : Option SpdmAwait
  /-- Waiting after ERROR Busy (none) or ResponseNotReady (its RDTExponent); R208; reset none. -/
  waiting : Option (Option Nat)
  /-- Resends of the current request after timeouts; R208; reset 0. -/
  resends : Nat
  /-- ERROR Busy answers to the current request; R208; reset 0. -/
  busyWaits : Nat
  /-- ResponseNotReady answers to the current request; R208; reset 0. -/
  notReady : Nat
  /-- RequestResynch restarts of the slot; R208; reset 0. -/
  resyncs : Nat
  /-- The request last sent, which a resend repeats; R208; reset empty. -/
  request : List Byte
  /-- Negotiated SPDM version, 0x12 or 0x13, else 0; R197; reset 0. -/
  version : Nat
  /-- Responder's CTExponent; R198; reset 0. -/
  ctExponent : Nat
  /-- Negotiated asymmetric algorithm code, else 0; R197; reset 0. -/
  asym : Nat
  /-- Negotiated hash algorithm code, else 0; R197; reset 0. -/
  hash : Nat
  /-- Digest returned by GET_DIGESTS for the certificate slot; R203; reset empty. -/
  digest : List Byte
  /-- Chain octets received so far; R203, R209; reset empty. -/
  chain : List Byte
  /-- The chain came from the cache; R203, R216; reset false. -/
  cached : Bool
  /-- Measurement blocks received; R216; reset 0. -/
  blocks : Nat
  /-- Attestation transcript; R215; reset empty. -/
  transcript : List Byte
  /-- Deferred from Gate; R205, R216; reset false. -/
  deferred : Bool
  /-- Hold overridden by an Officer; R214, R216; reset false. -/
  overridden : Bool
  /-- Outcome at the Gate snapshot; R205; reset 0x00. -/
  snapshot : Nat
  /-- Vigil time of its first request; R208; reset 0. -/
  since : Nat
deriving DecidableEq, Repr

/-- Cached chain of a slot (R211); its digest is in 0x3000:14. -/
structure ChainCache where
  /-- Cached chain digest; R211. -/
  digest : List Byte
  /-- Latest notBefore, vigil seconds; R211. -/
  notBefore : Nat
  /-- Earliest notAfter, vigil seconds; none for no expiry; R211. -/
  notAfter : Option Nat
  /-- Leaf public key octets; R209, R216. -/
  leafKey : List Byte
deriving DecidableEq, Repr

/-- Connection state of one responder transport of the N4812: what was negotiated and whether a response is being
formed (R217, R219). -/
structure SpdmConnection where
  /-- GET_VERSION answered; R217; reset false. -/
  versioned : Bool
  /-- GET_CAPABILITIES answered; R217; reset false. -/
  capable : Bool
  /-- NEGOTIATE_ALGORITHMS answered; R217; reset false. -/
  negotiated : Bool
  /-- Messages of the connection since GET_VERSION, which signatures cover; R217; reset empty. -/
  transcript : List Byte
deriving DecidableEq, Repr

/-- Attestation collection (spec/06_device_attestation.md). -/
structure Attestation where
  /-- The 64 responder slots, by number; an unlisted slot is not attempted; R199. -/
  slots : KMap Responder
  /-- Slot table words in force (two per slot); R199, R82; reset empty. -/
  table : List Word
  /-- Cached chains by slot; R211; reset empty. -/
  caches : KMap ChainCache
  /-- 0x3000:11; R223; reset 0x00. -/
  phase : Nat
  /-- 0x3000:15; R202; reset 0x00. -/
  ownEid : Nat
  /-- I3C discovery done at this Gate; R201; reset false. -/
  discovered : Bool
  /-- Vigil time of Serve entry; R206; reset 0. -/
  serveSince : Nat
  /-- Gate-phase attestation has ended (R19, R205); reset false. -/
  gateEnded : Bool
  /-- Serve-phase outcomes of this boot have entered a supplement record; R220; reset false. -/
  recorded : Bool
  /-- The responder connections: PCIe DOE and I3C target; R219. -/
  connections : Vector SpdmConnection 2
deriving DecidableEq, Repr

/-- Kinds of ledger record (R225). -/
inductive RecordKind | primary | supplement | restart | rollover | retirement
deriving DecidableEq, Repr

/-- An item awaiting a supplement (R226). -/
inductive PendingItem
  /-- Verdict change: channel, region, new, old, cause, vigil time, page, officers (R232). -/
  | verdict (channel region new old cause time page : Nat) (officers : Option (Nat × Nat))
  /-- Hold event: hold, event, cause, vigil time (R232). -/
  | hold (hold event cause time : Nat)
  /-- Serve-phase outcome or override of a responder slot (R206, R214). -/
  | attestation (slot : Nat)
deriving DecidableEq, Repr

/-- How far an append has come (R234). -/
inductive AppendStage
  /-- Waits for room before it reserves its sequence (R248). -/
  | waitingRoom
  /-- Sequence reserved and body assembled; signing (R231). -/
  | signing
  /-- Signed; waits for room (R246). -/
  | signed
  /-- Record and trailer programmed up to, not including, the commit word (R241). -/
  | programmed
deriving DecidableEq, Repr

/-- An append that waits for the one before it (R225, R227). -/
structure AppendRequest where
  /-- Kind; R225. -/
  kind : RecordKind
  /-- Rollover reason, else 0; R250. -/
  reason : Nat
  /-- The CMD object that asked for it, if any; R262. -/
  cmd : Option Nat
  /-- Entries already formed: a restart record's; a closing supplement's that waits behind another append; R113, R226,
  R233. -/
  entries : List Byte
  /-- The items of a closing supplement that waits; R226. -/
  items : List PendingItem
  /-- Boot number to be carried; R228. -/
  boot : Nat
deriving DecidableEq, Repr

/-- An append in progress (R234, R235). -/
structure Append where
  /-- What is appended, and for whom; R225, R262. -/
  request : AppendRequest
  /-- Stage; R234. -/
  stage : AppendStage
  /-- Reserved sequence, U48; R234. -/
  sequence : Nat
  /-- Entries, 64 octets each; R233. -/
  entries : List Byte
  /-- Body octets; R228. -/
  body : List Byte
  /-- The whole record with its signature block, once signed; R230. -/
  record : List Byte
  /-- Ring word at which the record begins, once programming has begun; R239, R240. -/
  start : Option Nat
  /-- Appends tried so far for this record, 1 to 3; R235. -/
  tries : Nat
  /-- The items it carries; R226. -/
  items : List PendingItem
  /-- Entries of the further supplements of the same assembly; R226. -/
  rest : List Byte
  /-- Primary waited for room under Hold; R248. -/
  waited : Bool
  /-- New key of a rollover: the private scalar (48 octets) and the ML-DSA seed (32 octets); R250. -/
  newKey : Option (List Byte)
deriving DecidableEq, Repr

/-- A committed record as the start search finds it (R242): its sequence, kind, ring word, length and hash. -/
structure RecordAt where
  /-- Sequence; R228. -/
  sequence : Nat
  /-- Kind octet; R225. -/
  kind : Nat
  /-- First word in the ring (sector × 2,048 + word); R239. -/
  start : Nat
  /-- Record length in octets; R228. -/
  length : Nat
  /-- SHA-384 of the record, as in its trailer; R240. -/
  hash : List Byte
  /-- Boot number of its header; R228. -/
  boot : Nat
deriving DecidableEq, Repr

/-- One export ring of BAR2 (R255). -/
structure ExportRing where
  /-- BASE_LO, 32 bits; R255; reset DESIGN CHOICE 0. -/
  baseLo : BitVec 32
  /-- BASE_HI, 32 bits; R255; reset DESIGN CHOICE 0. -/
  baseHi : BitVec 32
  /-- SIZE, 32 bits; R255; reset DESIGN CHOICE 0. -/
  size : BitVec 32
  /-- CTRL bits 2 to 0; R255; reset DESIGN CHOICE 0. -/
  ctrl : BitVec 3
  /-- PROD, 32 bits; R255; reset DESIGN CHOICE 0. -/
  prod : BitVec 32
  /-- CONS, 32 bits; R255; reset DESIGN CHOICE 0. -/
  cons : BitVec 32
  /-- STAT bit 1 waiting for space; R255, R257; reset false. -/
  waiting : Bool
  /-- STAT bit 2 error; R255, R257; reset false. -/
  error : Bool
  /-- STAT bit 3 records skipped; R255, R256; reset false. -/
  skipped : Bool
  /-- NEXT_SEQ, 48 bits; R255; reset DESIGN CHOICE 0. -/
  nextSeq : Nat
  /-- Octet positions (modulo 2^32) at which unconsumed frames end, with the sequence each carries; R257. -/
  frameEnds : List (Nat × Option Nat)
deriving DecidableEq, Repr

/-- The boot ledger (spec/07_boot_ledger.md). -/
structure Ledger where
  /-- Vigil mirror of the ledger counter; none after a loss of all vigil supply; R234, R238; reset none. -/
  mirror : Option Nat
  /-- Last committed sequence, 0x3100:01; R241; reset 0. -/
  last : Nat
  /-- Hash of the last committed record, 0x3100:0F; R234; reset 48 zero octets. -/
  lastHash : List Byte
  /-- Committed records in the ring, oldest (the tail) first; R242, R245; reset empty. -/
  records : List RecordAt
  /-- Sequence of the oldest record not yet reclaimed, 0x3100:03; R245; reset 0. -/
  tail : Nat
  /-- Ring word at which the next record begins; R240; reset 1 (sector 0, word 1). -/
  head : Nat
  /-- Append in progress; R234; reset none. -/
  append : Option Append
  /-- Appends waiting behind it, in order; R227; reset empty. -/
  queue : List AppendRequest
  /-- Pending items in time order; R226; reset empty. -/
  pendingItems : List PendingItem
  /-- Vigil time at which the first item became pending; R226; reset none. -/
  pendingSince : Option Nat
  /-- Vigil time of the last append; R226; reset 0. -/
  appendedAt : Nat
  /-- Records dropped unexported since the previous record; R228; reset 0. -/
  dropped : Nat
  /-- Flags the next record carries from the start: bits 1 and 2 of R229 (R238); reset 0. -/
  startFlags : BitVec 16
  /-- Flags 4 and 5 for the next record (R244); reset 0. -/
  hashFlags : BitVec 16
  /-- The previous boot ended without a final statistics save (R190, flag bit 3); reset false. -/
  unsavedStats : Bool
  /-- The consistency statistics of this boot have been saved with the final flag; R190; reset false. -/
  statsSaved : Bool
  /-- Consistency bodies of this boot's last supplement record; R190; reset empty. -/
  suppBodies : List Byte
  /-- Consistency bodies of the boot before, as the next primary record carries them; R190; reset empty. -/
  prevBodies : List Byte
  /-- The ledger key's blob: its generation (2 octets), nonce (12), ciphertext (80) and tag (16); R252; reset none. -/
  keyBlob : Option (List Byte)
  /-- The new ledger key of a rollover at retirement that no vigil root can wrap; R86; reset none. -/
  freshKey : Option (List Byte)
  /-- Ledger public keys, 0x3100:06; R263; reset DESIGN CHOICE empty. -/
  publicKeys : List Byte
  /-- Rollover due at this Gate, with its reason; R252; reset none. -/
  rolloverDue : Option Nat
  /-- Ledger state fault or full, 0x3100:0E: full under Hold; R248; reset false. -/
  full : Bool
  /-- Ledger state 0x03; R237; reset false. -/
  fault : Bool
  /-- The share is above high water and its event was logged; R249; reset false. -/
  highLogged : Bool
  /-- Primary record of this boot: sequence and flags; R259; reset none. -/
  primary : Option (Nat × BitVec 16)
  /-- Last primary record appended: sequence and SHA-384; R218, R232; reset none. -/
  lastPrimary : Option (Nat × List Byte)
  /-- Export rings 0 and 1; R255. -/
  rings : Vector ExportRing 2
  /-- A record was committed since the summary was last written; R259; reset false. -/
  summaryDue : Bool
  /-- A summary write was refused FIELD_BUSY and is retried; R259; reset false. -/
  summaryRetry : Bool
  /-- Gate entry and last region complete in vigil time, for the start entry; R232; reset 0. -/
  gateEntry : Nat
  /-- Last region complete, TIME48; R232; reset 0. -/
  lastRegion : Nat
  /-- Start cause for the start entry: reset kind or 0x10; R232; reset 0x01. -/
  startCause : Nat
  /-- Event full number committed at Gate entry; R232; reset 0. -/
  eventAtGate : Nat
  /-- The append of this Gate's primary record has been asked for; R20, R235; reset false. -/
  primaryAsked : Bool
deriving DecidableEq, Repr

/-- Job states (R269). -/
inductive JobState | free | waiting | ready | running | suspended | aborting | done | failed | aborted
deriving DecidableEq, Repr

/-- One occupied slot of the Job Hub: the fields of R268 and what the hub keeps beside them. -/
structure Job where
  /-- 0:[47:40] operation; R268. -/
  op : BitVec 8
  /-- 0:[39:32] placement; R267, R268; 0xFF unplaced. -/
  placement : Nat
  /-- 0:[31:26] flags; R268. -/
  flags : BitVec 6
  /-- 0:[25:21] requester; R270. -/
  requester : Nat
  /-- 0:[20:17] base urgency; R275. -/
  urgency : Nat
  /-- 0:[16:13] state; R269. -/
  st : JobState
  /-- 0:[12:9] placement epoch, 0 to 8; R280. -/
  epoch : Nat
  /-- 0:[8:6] class; R267. -/
  cls : Nat
  /-- 0:[5:4] level; R268. -/
  level : Level
  /-- 1:[47:24] tag; R268. -/
  tag : BitVec 24
  /-- 1:[23:0] link handle; R273. -/
  link : BitVec 24
  /-- Words 2 to 5 as submitted: pointers, parameters, lengths, key slot; R268. -/
  words : Vector Word 4
  /-- 6:[47:24] octets produced; R268. -/
  produced : Nat
  /-- 6:[23:0] completion code; R268. -/
  code : Nat
  /-- 7:[47:24] parent handle; R278. -/
  parent : BitVec 24
  /-- 7:[7:0] suspensions, saturating; R268. -/
  suspensions : Nat
  /-- 7:[23:20] parent epoch; R268. -/
  parentEpoch : Nat
  /-- Source octets of this part that its saved context has consumed; R276, R307; 0 without one. -/
  consumed : Nat
  /-- Lane state loaded from its context, or curve definition, taken at its placement; R296, R308, R344; empty otherwise. -/
  loaded : List Byte
  /-- Message octets that earlier parts consumed, by its context's header; R307; 0 otherwise. -/
  before : Nat
  /-- Words drawn from the DRBG at its placement; R320; empty before. -/
  random : List Word
  /-- Rank of its allocation among all allocations; R274. -/
  order : Nat
  /-- Moment of its allocation; R372, R273. -/
  allocMoment : Nat
  /-- Aging periods waited since it was last placed; R275. -/
  aged : Nat
  /-- Rank of its last start among all starts; R276. -/
  started : Nat
  /-- A reseed completed since its allocation (flag 30); R273. -/
  reseeded : Bool
  /-- Its completion entry was popped by nobody yet; R283. -/
  queued : Bool
  /-- Vigil time at which a hot restart ended while it waits for its key; R291. -/
  keyWait : Option Nat
  /-- Checkpoint recorded; R279. -/
  checkpoint : Option Nat
deriving DecidableEq, Repr

/-- A completion entry (R283). -/
structure Completion where
  /-- Handle; R270. -/
  handle : BitVec 24
  /-- Completion code; R270. -/
  code : Nat
  /-- Octets produced; R270. -/
  produced : Nat
  /-- Suspensions; R270. -/
  suspensions : Nat
  /-- Epoch; R270. -/
  epoch : Nat
deriving DecidableEq, Repr

/-- One submission window (R270). -/
structure HubWindow where
  /-- JH_DESC0 to JH_DESC5; R270; reset DESIGN CHOICE 0. -/
  desc : Vector Word 6
  /-- JH_RESULT: handle and code; R270; reset DESIGN CHOICE 0. -/
  result : BitVec 24 × Nat
  /-- Entry last popped (JH_POPX); R270; reset DESIGN CHOICE none. -/
  popped : Option Completion
  /-- JH_QUERY handle; R270; reset DESIGN CHOICE 0. -/
  query : BitVec 24
  /-- Completion queue; R283; reset empty. -/
  queue : List Completion
deriving DecidableEq, Repr

/-- The Job Hub (spec/08_job_hub.md). -/
structure JobHub where
  /-- Occupied slots by slot number; R265; reset empty. -/
  slots : KMap Job
  /-- Allocation counts by slot (12 bits); R266; reset DESIGN CHOICE 0. -/
  allocs : KMap Nat
  /-- Free-slot pointer, 12 bits; R272; reset DESIGN CHOICE 0. -/
  pointer : Nat
  /-- Windows, pair × 3 + level; R270. -/
  windows : Vector HubWindow 12
  /-- JH_CURRENT of each pair; R270, R278; reset 0. -/
  current : Vector (BitVec 24) 4
  /-- Handles placed on each pair and not yet taken, oldest first; R278; reset empty. -/
  placed : Vector (List (BitVec 24)) 4
  /-- Placement codes out of service (0x4000:09); R280; reset empty. -/
  outOfService : List Nat
  /-- Allocations granted and starts made so far, for the ranks of R274 and R276; the model's own. -/
  allocOrder : Nat
  /-- Starts made so far; R276; the model's own. -/
  startOrder : Nat
  /-- 0x4000:02 largest number of slots in use since reset; R289; reset 0. -/
  highWater : Nat
deriving DecidableEq, Repr

/-- One lane or public-key unit's health (R311 to R313, R340, R341). -/
structure EngineHealth where
  /-- Self-test in progress: it takes no job; R312; reset false. -/
  testing : Bool
  /-- Self-test due before its first job since device reset; R312, R341; reset true. -/
  untested : Bool
  /-- Vigil times of its faults within the last hour, newest first; R313; reset empty. -/
  faultTimes : List Nat
  /-- Vigil time of its last self-test; R312; reset 0. -/
  testedAt : Nat
deriving DecidableEq, Repr

/-- Lanes, units and the context sealer (spec/09, spec/10); their counters are objects of the store. -/
structure Engines where
  /-- Health by placement code; an unlisted instance is as at device reset; R311, R340. -/
  health : KMap EngineHealth
  /-- Context key of the sealer, 256 bits, once drawn after a device reset; R307; reset none. -/
  contextKey : Option (BitVec 256)
  /-- Next seal number, U48; R307; reset DESIGN CHOICE 0. -/
  sealNumber : Nat
  /-- Instances still to be tested by a write to 0x4100:04, and whether one failed; R312, R315; reset none. -/
  laneRun : Option (List Nat × Bool)
  /-- The same for 0x4200:04; R341, R345; reset none. -/
  unitRun : Option (List Nat × Bool)
  /-- For channel n, the placement code of the lane that hashes its stream (0x4100:07): 0 to 11 the bound lane,
  12 or 13 a spare, 0xFF none; R306, R315; reset 00 01 … 0b. -/
  hashing : Vector Nat 12
  /-- Loaded curves marked failed at start (0x4200:01 value 0x03), by slot; R332; reset empty. -/
  curveFailed : List Nat
deriving DecidableEq, Repr

/-- Attributes of a key (R358). -/
structure KeyAttrs where
  /-- Octet 0 key type; R358. -/
  keyType : Nat
  /-- Octet 1 use class; R357, R358. -/
  useClass : Nat
  /-- Octets 2–3 mode mask; R358. -/
  modeMask : BitVec 16
  /-- Octet 4 minimum level; R358. -/
  minLevel : Nat
  /-- Octet 5 pair mask; R358. -/
  pairMask : BitVec 8
  /-- Octet 6 flags; R358. -/
  flags : BitVec 8
  /-- Octets 8–9 key length; R358. -/
  length : Nat
  /-- Octets 10–15 key ID; R358. -/
  keyId : Nat
  /-- Octets 16–21 not after; R358. -/
  notAfter : Nat
  /-- Octets 24–71 curve digest; R358. -/
  curve : List Byte
  /-- Octets 7, 22 and 23, reserved; R358. -/
  reserved : List Byte
deriving DecidableEq, Repr

/-- One loaded key slot (R356). -/
structure KeySlot where
  /-- Key material, never readable; R356. -/
  material : List Byte
  /-- Attributes; R356, R358. -/
  attrs : KeyAttrs
  /-- Slot level 0 to 2; R356. -/
  level : Nat
  /-- Pair whose window filled it, none for the boot ROM and the units; R365. -/
  filledBy : Option Nat
deriving DecidableEq, Repr

/-- KU_STATUS state (R364). -/
inductive KuState | idle | busy | done | failed | aborted
deriving DecidableEq, Repr

/-- A key-unit command that waits for the entropy unit (R360, R365, R372, R373). -/
inductive KeyWait
  /-- GENERATE: target slot, attributes, and the moment of its start, after which both blocks must be released. -/
  | generate (slot : Nat) (attrs : KeyAttrs) (moment : Nat)
  /-- WRAP: slots a and b, domain, destination, capacity, and the generation in force when it started. -/
  | wrap (a b domain ptr capacity generation : Nat)
deriving DecidableEq, Repr

/-- One key-unit window (R364). -/
structure KeyWindow where
  /-- KU_ARG0, 48 bits; R364; reset DESIGN CHOICE 0. -/
  arg0 : Word
  /-- KU_ARG1, 48 bits; R364; reset DESIGN CHOICE 0. -/
  arg1 : Word
  /-- KU_STATUS state; R364; reset idle (DESIGN CHOICE). -/
  st : KuState
  /-- KU_STATUS completion code; R364; reset DESIGN CHOICE 0. -/
  code : Nat
  /-- The command in progress, which waits for DRBG words; R364, R365, R372; reset none. -/
  waits : Option KeyWait
deriving DecidableEq, Repr

/-- The key unit (spec/11_keys_and_entropy.md). -/
structure KeyUnit where
  /-- Loaded slots by number; R355; reset empty. -/
  slots : KMap KeySlot
  /-- Windows, pair × 3 + level; R364. -/
  windows : Vector KeyWindow 12
  /-- Unique device secret, 384 bits, in its key row; R347; reset Config.uniqueDeviceSecret (set at manufacture). -/
  uds : BitVec 384
  /-- The key unit's access to the UDS is open; R99, R348; reset false. -/
  udsOpen : Bool
  /-- Vigil root V, 512 bits; none when absent; R347, R368; reset none. -/
  vigilRoot : Option (BitVec 512)
  /-- Binding B, 384 bits; R349; reset none. -/
  binding : Option (BitVec 384)
  /-- Identity wrapping key IWK, 256 bits; R349; reset none. -/
  iwk : Option (BitVec 256)
  /-- First-layer secret CDI1, 384 bits; R349; reset none. -/
  cdi1 : Option (BitVec 384)
  /-- Owner root K_R, 512 bits; R349; reset none. -/
  ownerRoot : Option (BitVec 512)
  /-- Event-log key, 256 bits, held by the tamper watch; R349; reset none. -/
  eventKey : Option (BitVec 256)
  /-- The two copies of the identity blob; R347, R353; reset empty. -/
  identityBlob : Vector (List Byte) 2
  /-- Staging buffer, 512 words; R351; reset DESIGN CHOICE empty. -/
  staging : List Word
  /-- A provisioning commit is in progress (domain 0x02 WRAP admitted); R360; reset false. -/
  provisioning : Bool
deriving DecidableEq, Repr

/-- One noise cell with its compressor (R369 to R371, R374). -/
structure NoiseCell where
  /-- In service; R370, R374; reset true until a test fails. -/
  inService : Bool
  /-- Start-up raw blocks run so far, 0 to 4; R374; reset 0. -/
  startBlocks : Nat
  /-- Last raw bit and the length of its run, across blocks; R370; reset DESIGN CHOICE false, 0. -/
  lastBit : Bool
  /-- Length of the run of that bit; R370; reset 0. -/
  run : Nat
  /-- Consecutive failing blocks; R370; reset 0. -/
  failing : Nat
  /-- Compressor register, 256 bits; R371; reset DESIGN CHOICE 0. -/
  compressor : BitVec 256
  /-- Credit E_c, uQ16.16; R371; reset 0. -/
  credit : Nat
  /-- Released block with the moment of its release; R371, R372; reset none. -/
  block : Option (BitVec 256 × Nat)
deriving DecidableEq, Repr

/-- The entropy unit (R369 to R376). -/
structure Entropy where
  /-- The four noise cells; R369. -/
  cells : Vector NoiseCell 4
  /-- DRBG state code, 0x5100:01; R378; reset 0x00. -/
  st : Nat
  /-- CTR_DRBG Key (256 bits) and V (128 bits); R372; reset DESIGN CHOICE 0. -/
  drbg : BitVec 384
  /-- Output queue, at most 1,024 words; R373; reset empty. -/
  queue : List Word
  /-- First delivery done since reset; R374; reset false. -/
  delivered : Bool
  /-- Moment of the last reseed and the release moment of the older of its blocks; R372; reset 0. -/
  reseedBlocks : Nat
  /-- Moments: allocations, command starts and block releases are ranked by it; R372; the model's own; reset 0. -/
  moment : Nat
  /-- Erase line driven: only blocks released after this moment instantiate; R368; reset 0. -/
  eraseMoment : Nat
  /-- Test pattern in force; R376; reset false. -/
  pattern : Bool
deriving DecidableEq, Repr

/-- A register an instruction writes after a distance (R440). -/
inductive Target
  | g (n : Fin 16)
  | cy | mh
  | ls (s : Fin 2) | le (s : Fin 2) | lc (s : Fin 2) | setLevel (s : Fin 2)
  | ml
deriving DecidableEq, Repr

/-- A write in flight (R440, R441): it takes effect after `left` more instructions. -/
structure InFlight where
  /-- The register; R440. -/
  target : Target
  /-- The level whose g15 it is, for g15; R421. -/
  level : Level
  /-- The value. -/
  value : Word
  /-- Instructions still to be executed before it is read; R440. -/
  left : Nat
deriving DecidableEq, Repr

/-- A branch whose delay slot has yet to commit (R443, R476). -/
structure Branch where
  /-- Its instruction pointer; R476. -/
  pointer : BitVec 26
  /-- Where execution goes after the slot, none for fall-through; R443. -/
  target : Option Word
  /-- It pushes a call entry when the slot commits; R444, R476. -/
  push : Bool
  /-- It pops the return stack when the slot commits; R444, R476. -/
  pop : Bool
deriving DecidableEq, Repr

/-- One Onotte pair (spec/13, spec/14). -/
structure Pair where
  /-- g0 to g14 as stored (g0 is read as zero); R420; reset DESIGN CHOICE 0. -/
  g : Vector Word 15
  /-- g15 of User, Supervisor and Monitor; R421; reset DESIGN CHOICE 0. -/
  g15 : Vector Word 3
  /-- Carry flag; R420; reset DESIGN CHOICE 0. -/
  cy : Bool
  /-- MH; R420; reset DESIGN CHOICE 0. -/
  mh : Word
  /-- LS0, LS1; R420; reset DESIGN CHOICE 0. -/
  ls : Vector Word 2
  /-- LE0, LE1; R420; reset DESIGN CHOICE 0. -/
  le : Vector Word 2
  /-- LC0, LC1; R420; reset DESIGN CHOICE 0. -/
  lc : Vector Word 2
  /-- Set levels; R424; reset DESIGN CHOICE User. -/
  setLevel : Vector Level 2
  /-- ML, 3 bits; R420; reset DESIGN CHOICE 7. -/
  ml : BitVec 3
  /-- Current level; R460; reset Monitor (R460). -/
  level : Level
  /-- Instruction pointer of the next instruction, 48 bits (a JR target may leave the map); R427, R460; reset 0 until the
  pair is brought up, then the running image's entry parcel (R102). -/
  ip : Word
  /-- On-die return-stack entries per level, oldest first, at most 16; R454; reset empty. -/
  stack : Vector (List Word) 3
  /-- DSL0–DSL2; R423; reset DESIGN CHOICE 0. -/
  dsl : Vector Word 3
  /-- RSP0–RSP2; R423; reset DESIGN CHOICE 0. -/
  rsp : Vector Word 3
  /-- RSB0–RSB2; R423; reset DESIGN CHOICE 0. -/
  rsb : Vector Word 3
  /-- RSL0–RSL2; R423; reset DESIGN CHOICE 0. -/
  rsl : Vector Word 3
  /-- Writes in flight, oldest first; R440; reset empty. -/
  inFlight : List InFlight
  /-- Branch awaiting its slot; R443; reset none. -/
  branch : Option Branch
  /-- Interrupts pending, IPEND; R462; reset DESIGN CHOICE 0. -/
  ipend : BitVec 16
  /-- IENABLE; R462; reset DESIGN CHOICE 0. -/
  ienable : BitVec 16
  /-- IPRIO, 3 bits per source; R462, R474; reset the default priorities of R474. -/
  iprio : Word
  /-- VBASE1; R462; reset DESIGN CHOICE 0. -/
  vbase1 : Word
  /-- VBASE2; R462; reset DESIGN CHOICE 0. -/
  vbase2 : Word
  /-- GTBASE; R462; reset DESIGN CHOICE 0. -/
  gtbase : Word
  /-- GTCOUNT; R462; reset DESIGN CHOICE 0. -/
  gtcount : Word
  /-- TIMER1 and TIMER2, U24; R462; reset DESIGN CHOICE 0. -/
  timers : Vector Nat 2
  /-- DFSTAT bit 0; R470; reset 0. -/
  doubleFault : Bool
  /-- WAIT: issue stopped until an interrupt is admitted; R436, R475; reset false. -/
  waiting : Bool
  /-- A load of ENT_TAKE waits on the empty entropy queue; R373; reset false. -/
  entropyWait : Bool
  /-- Running (in service), or halted and in reset; R32; reset false until pair bring-up. -/
  inService : Bool
  /-- PCINS, U48; R487; reset 0 (since pair reset). -/
  pcins : Word
  /-- PCCYC, U48; R487; reset 0 (since pair reset). -/
  pccyc : Word
  /-- PC0–PC3, U48; R487; reset DESIGN CHOICE 0. -/
  pc : Vector Word 4
  /-- PCSEL; R487; reset DESIGN CHOICE 0. -/
  pcsel : Word
  /-- PCOVF, 4 bits; R487; reset DESIGN CHOICE 0. -/
  pcovf : BitVec 4
  /-- Instruction and data memory, word addresses 0 to 0x3FFFF, as octet cells; R24. -/
  mem : List Host.Cell
  /-- Parcels fetched ahead are discarded only by IFENCE: the octet cells that fetch sees; R438. -/
  fetched : List Host.Cell
deriving DecidableEq, Repr

/-- The Gauntlet (R480 to R485). -/
structure Gauntlet where
  /-- Rules, gate × 32 + rule × 2 + word; an unlisted word is zero; R480; reset 0. -/
  rules : KMap Word
  /-- Staged word 0 of each rule, gate × 16 + rule; R480; reset empty. -/
  staged : KMap Word
  /-- Rule epochs of gates 0 to 13, U8; R484; reset 0. -/
  epochs : Vector (BitVec 8) 14
deriving DecidableEq, Repr

/-- A flash word that does not read erased (R493): programmed with a value, or torn. -/
inductive FlashCell
  | programmed (w : Word)
  | torn
deriving DecidableEq, Repr

/-- The commands of R497. -/
inductive FlashCmd
  | wordProgram | rowProgram | sectorErase | eraseSuspend | eraseResume | retireWord | marginRead
  | counterIncrement | counterSet | optionRewrite | lifecycleAdvance
deriving DecidableEq, Repr

/-- Who asked for a flash operation and is told of its end (R495, R498). -/
inductive FlashFor
  /-- The direct path. -/
  | direct
  /-- A descriptor of the queue, by ring index. -/
  | queue (index : Nat)
  /-- The controller or another unit of the N4812. -/
  | internal
deriving DecidableEq, Repr

/-- A flash operation, waiting or running (R497 to R501). -/
structure FlashOp where
  /-- Command; R497. -/
  cmd : FlashCmd
  /-- Bank 0 or 1; R491. -/
  bank : Nat
  /-- Word offset in the bank (sector number × 2,048 for an erase, counter number for 0x08, 0x09); R495. -/
  addr : Nat
  /-- Words to program, in order; R494. -/
  words : List Word
  /-- FC_DATA; R495. -/
  data : Word
  /-- Class 0 to 4; R499. -/
  cls : Nat
  /-- Requester; R498. -/
  requester : FlashFor
  /-- Words programmed so far of a row program that has yielded; R499. -/
  progress : Nat
  /-- Arrival rank; R499. -/
  order : Nat
deriving DecidableEq, Repr

/-- One flash bank (R491 to R504). -/
structure FlashBank where
  /-- Words that do not read erased, by word offset; an unlisted word reads erased; R491, R493. -/
  cells : KMap FlashCell
  /-- Running operation; R499; reset none. -/
  running : Option FlashOp
  /-- Suspended erase; R503; reset none. -/
  suspended : Option FlashOp
  /-- The running erase has run 1 ms since its start or last resumption; R503; reset false. -/
  ranMinimum : Bool
  /-- Waiting operations; R499; reset empty. -/
  waiting : List FlashOp
  /-- Erase-open sectors of this bank; R501, R504; reset empty. -/
  eraseOpen : List Nat
  /-- Remapped sectors with their spares; R504; reset empty. -/
  remaps : KMap Nat
  /-- Refresh copies held: sector and spare; R510; reset empty. -/
  held : KMap Nat
  /-- Journal: sector 0 to 3 in use; R500; reset 0. -/
  journalSector : Nat
  /-- Journal: next word of that sector; R500; reset 0. -/
  journalWord : Nat
  /-- Journal generation; R500; reset 0. -/
  journalGen : Nat
deriving DecidableEq, Repr

/-- The flash controller (spec/15_embedded_flash.md). -/
structure FlashCtl where
  /-- The two banks; R491. -/
  banks : Vector FlashBank 2
  /-- Key writes accepted in order, 0 to 2; R496; reset 0. -/
  keyStage : Nat
  /-- Consecutive KEY_SEQUENCE outcomes; R496; reset 0. -/
  keyFails : Nat
  /-- Direct path locked, 0x7300:0B; R496; reset false. -/
  locked : Bool
  /-- FC_ADDR; R495; reset DESIGN CHOICE 0. -/
  fcAddr : Word
  /-- FC_DATA; R495; reset DESIGN CHOICE 0. -/
  fcData : Word
  /-- FC_SRC; R495; reset DESIGN CHOICE 0. -/
  fcSrc : Word
  /-- FC_STAT [47:40]: 0 idle, 1 busy, 2 done, 3 failed, 4 aborted; R495; reset DESIGN CHOICE 0. -/
  fcState : Nat
  /-- FC_STAT [23:0]; R495; reset DESIGN CHOICE 0. -/
  fcCode : Nat
  /-- FC_RESULT; R495; reset DESIGN CHOICE 0. -/
  fcResult : Word
  /-- FQ_BASE; R495; reset DESIGN CHOICE 0. -/
  fqBase : Word
  /-- FQ_SIZE; R495; reset DESIGN CHOICE 0. -/
  fqSize : Word
  /-- FQ_TAIL; R495; reset DESIGN CHOICE 0. -/
  fqTail : Nat
  /-- FQ_HEAD; R495; reset DESIGN CHOICE 0. -/
  fqHead : Nat
  /-- FQ_CTRL; R495; reset DESIGN CHOICE 0. -/
  fqCtrl : Word
  /-- Ring indexes of submitted descriptors not yet finished; R498, R499; reset empty. -/
  fqOpen : List Nat
  /-- Arrivals so far; R499; the model's own. -/
  order : Nat
  /-- Waiting operations of classes 1 to 4 are held by a power fail; R513; reset false. -/
  powerFail : Bool
  /-- Next sector of the margin pass, 0 to 4,095; R511; reset 0. -/
  marginNext : Nat
  /-- A commanded margin pass is in progress, with the sectors still to read; R511; reset none. -/
  marginPass : Option Nat
  /-- Sectors queued for refresh (bank × 2,048 + sector); R493, R510; reset empty. -/
  refreshDue : List Nat
deriving DecidableEq, Repr

/-- An entry of a keeper label's image directory (R549). -/
structure CardImage where
  /-- Image number; R549. -/
  number : Nat
  /-- Kind: 0 empty, 1 region image, 2 firmware image; R549. -/
  kind : Nat
  /-- Start block; R549. -/
  start : Nat
  /-- Length in octets; R549. -/
  length : Nat
  /-- SHA-384 of the image; R549. -/
  digest : List Byte
deriving DecidableEq, Repr

/-- A keeper label (R549). -/
structure Label where
  /-- Role: 1 archive, 2 image; R549. -/
  role : Nat
  /-- Generation; R549. -/
  generation : Nat
  /-- Device serial; R549. -/
  serial : List Byte
  /-- Last stored sequence; R549. -/
  lastSequence : Nat
  /-- Next block; R549. -/
  nextBlock : Nat
  /-- Split block; R549. -/
  split : Nat
  /-- Image directory; R549. -/
  images : List CardImage
deriving DecidableEq, Repr

/-- A card in the card table (R546 to R549). -/
structure Card where
  /-- CID digest, 12 octets; R548. -/
  cid : List Byte
  /-- Capacity in blocks; R559. -/
  capacity : Nat
  /-- Mode: 1 1-bit, 2 4-bit 26 MHz, 3 4-bit 52 MHz; R544, R559. -/
  mode : Nat
  /-- The two label copies as read, none when not valid; R549. -/
  labels : Vector (Option Label) 2
deriving DecidableEq, Repr

/-- Operations on a card (R554). -/
inductive CardOpKind | archive | stage | prepare
deriving DecidableEq, Repr

/-- A journal entry not yet resolved (R554). -/
structure JournalEntry where
  /-- Operation; R554. -/
  op : CardOpKind
  /-- CID digest; R554. -/
  cid : List Byte
  /-- First data block; R554. -/
  first : Nat
  /-- Block count; R554. -/
  blocks : Nat
  /-- Record count, archive only; R554. -/
  records : Nat
  /-- Label block written at step 4; R554. -/
  labelBlock : Nat
  /-- New generation; R554. -/
  generation : Nat
  /-- Item: last sequence, or image number and length; R554. -/
  item : Nat
  /-- Content digest; R554. -/
  digest : List Byte
  /-- Word offset of the entry in bank 0; R554. -/
  at_ : Nat
  /-- In doubt (R552). -/
  inDoubt : Bool
deriving DecidableEq, Repr

/-- A card operation in progress (R551). -/
structure CardOp where
  /-- Its journal entry; R551. -/
  entry : JournalEntry
  /-- Card index; R546. -/
  index : Fin 4
  /-- Step in progress: 2 or 3 (data), 4 or 5 (label); R551. -/
  step : Nat
  /-- Busy on KC_DAT0; R552. -/
  busy : Bool
  /-- CMD13 responses missed; R552. -/
  missed : Nat
  /-- The label written at step 4; R551. -/
  label : Label
  /-- Label copies still to write after this one (prepare writes both); R559. -/
  more : Nat
  /-- The CMD object served, if any; R551. -/
  cmd : Option Nat
deriving DecidableEq, Repr

/-- The keeper card bus (spec/17_keeper_cards.md). -/
structure Cards where
  /-- Cards by card index 0 to 3; R546. -/
  table : Vector (Option Card) 4
  /-- Card-detect lines low, after debounce; R545; reset false. -/
  detect : Vector Bool 4
  /-- Switchable function; R559; reset ON. -/
  fn : Switchable
  /-- Operation in progress; R551, R557; reset none. -/
  op : Option CardOp
  /-- Prepare and stage CMDs that wait for the bus, with their payloads, in order; R557; reset empty. -/
  waiting : List (Nat × List Byte)
  /-- Unresolved journal entries, at most four; R554; reset empty. -/
  unresolved : List JournalEntry
  /-- Next journal word, as entry number in the ring of sectors 1,044 to 1,051; R554; reset 0. -/
  journalNext : Nat
  /-- Staged image numbers per card (0x8200:05); R551; reset zero. -/
  staged : Vector (List Nat) 4
  /-- Archive state, 0x8200:08; R556; reset 0x00. -/
  archive : Nat
deriving DecidableEq, Repr

/-- One power island (R561 to R565). -/
structure Island where
  /-- Level 0 to 4; R562; reset 0 (PW0, R564). -/
  level : Nat
  /-- Target of a change in progress; R565; reset none. -/
  changing : Option Nat
deriving DecidableEq, Repr

/-- Why the device froze (R585). -/
inductive FreezeCause | pin | command
deriving DecidableEq, Repr

/-- Power levels, clocks, freeze and readout (spec/18_power_clocks_freeze.md). -/
structure Power where
  /-- The 26 islands; R561. -/
  islands : Vector Island 26
  /-- PLL state, 0x9000:0B: 0 locked, 1 holdover, 2 relocking; R569; reset 0x00. -/
  pll : Nat
  /-- REF25_IN present; R569; reset true. -/
  ref25 : Bool
  /-- PE_REFCLK present; R570; reset true. -/
  peRefclk : Bool
  /-- PCIe link up; R568; reset false. -/
  link : Bool
  /-- PCIe link in L1; R561; reset false. -/
  l1 : Bool
  /-- LTR Mechanism Enable as the host set it; R568; reset DESIGN CHOICE false. -/
  ltrEnable : Bool
  /-- Frozen, with its cause and vigil time; R582, R585; reset none. -/
  frozen : Option (FreezeCause × Nat)
  /-- A freeze by command awaits its 100 µs; R582; reset false. -/
  freezeScheduled : Bool
  /-- Vigil time of the last ignored-freeze event; R582; reset none. -/
  ignoredEventAt : Option Nat
  /-- A clock source was raised in the window; R574; reset false. -/
  windowSpoiled : Bool
  /-- VPEA within range; R600; reset false. -/
  vpea : Bool
deriving DecidableEq, Repr

/-- A vigil record (R396). -/
structure VigilRecord where
  /-- Word 0; R396. -/
  word0 : Word
  /-- Word 1, vigil time of the raising; R396. -/
  time : Nat
deriving DecidableEq, Repr

/-- A record that arose in the current vigil tick and has no number yet (R392). -/
structure NewRecord where
  /-- Source; R380. -/
  source : Nat
  /-- Response, 0 to 4; R382. -/
  response : Nat
  /-- Raised (true) or cleared; R405. -/
  raised : Bool
  /-- Mode when it arose; R405. -/
  mode : Mode
  /-- Detail word; R405, R611. -/
  detail : Word
deriving DecidableEq, Repr

/-- A record issued and not yet programmed (R408). -/
structure LogRecord where
  /-- Full number; R406. -/
  number : Nat
  /-- Word 0; R405. -/
  word0 : Word
  /-- Word 1, vigil time; R405. -/
  time : Nat
  /-- Word 2, detail; R405. -/
  detail : Word
  /-- It carries a vigil record of this index, freed when it is committed (R398). -/
  vigil : Option Nat
deriving DecidableEq, Repr

/-- One alarm source (R388, R391). -/
structure Source where
  /-- Raised; R391; reset false. -/
  raised : Bool
  /-- Consecutive samples beyond the threshold; R388; reset 0. -/
  beyond : Nat
  /-- Consecutive samples inside the clearing band; R388; reset 0. -/
  inside : Nat
  /-- Vigil time of the last record of a momentary source; R391; reset none. -/
  recordedAt : Option Nat
  /-- Occurrences not recorded since; R391; reset 0. -/
  unrecorded : Nat
deriving DecidableEq, Repr

/-- A glove-pair presentation or enrolment open at the reader (R52, R402, R537). -/
structure Presentation where
  /-- What it serves: the CMD object written; R537. -/
  cmd : Nat
  /-- The session that opened it; R537. -/
  session : Option Word
  /-- Vigil time of its opening; R537. -/
  since : Nat
  /-- Roster entries accepted so far; R536. -/
  accepted : List Nat
  /-- For an enrolment: tokens presented, as (public-key digest, label, presence of the enrolling pair); R537. -/
  tokens : List (List Byte)
  /-- Octets of the write that opened it; R537. -/
  argument : List Byte
deriving DecidableEq, Repr

/-- The vigil domain: what the cell retains (R395 to R400, R573). -/
structure Vigil where
  /-- Supply in use; R15, R603; reset none. -/
  supply : VigilSupply
  /-- VAUX above its switchover threshold; R603; reset false. -/
  vaux : Bool
  /-- Canary, 48 bits; R400; reset 0xA5C3E1_5A3C1E. -/
  canary : Word
  /-- Sticky flags, U24; R399; reset 0. -/
  sticky : BitVec 24
  /-- Vigil records, at most 16; R397; reset empty. -/
  records : List VigilRecord
  /-- Copy of the last full number issued, kept from the fall of PFAIL_N; R409; reset none. -/
  lastIssued : Option Nat
  /-- Copy of the configured responses of sources 0x10 to 0x2F; R395; reset the defaults of R381. -/
  responses : List Nat
  /-- Raw thresholds for A6, A7 and A8: T_lo, clear lo, T_hi, clear hi, each none when unused; R389; reset none. -/
  rawThresholds : List (Option Nat)
  /-- Mirror of the effective hold-enable mask; R94; reset 0xFFFF. -/
  holdMirror : BitVec 16
  /-- Cell-change window: vigil time of opening; R404; reset none. -/
  windowSince : Option Nat
  /-- Consecutive watchdog resets; R98; reset 0. -/
  watchdogs : Nat
  /-- Vigil time, TIME48, in 2^-15 s; R572; reset DESIGN CHOICE 0. -/
  time : Nat
  /-- Phase accumulator P, units of 2^-24 tick; R573; reset 0. -/
  phase : Int
  /-- Trim τ in force, S24, 0x9000:04; R573, R574; reset 0. -/
  trim : Int
  /-- Slew still to be applied, in ticks, signed; R576; reset 0. -/
  slew : Int
  /-- A tick that a slew withholds from the next edges; R576; reset false. -/
  withhold : Bool
  /-- Restored flag; R577; reset false. -/
  restored : Bool
  /-- The FCLK copy of vigil time; R572; reset DESIGN CHOICE 0. -/
  copy : Nat
  /-- XT32 stopped: ticks come from the RC oscillator; R570; reset false. -/
  crystalStopped : Bool
  /-- Boundaries of bands 1 to 7 as raw A7 codes, which the runtime writes; R575; reset empty. -/
  bandCodes : List Nat
  /-- Raw A7 code last sampled on the cell; R575; reset none. -/
  temperatureCode : Option Nat
  /-- Doff deadline in vigil time; R525; reset none. -/
  doff : Option Nat
deriving DecidableEq, Repr

/-- The tamper watch and the event log (spec/12_tamper_and_evidence.md); counts are objects of the store. -/
structure Tamper where
  /-- Sources 0x10 to 0x2F by number; an unlisted source is at rest; R381. -/
  sources : KMap Source
  /-- The sides of the analog sensors, keyed 2k lower and 2k + 1 upper: raised, and their counts; R388; reset empty. -/
  sides : KMap Source
  /-- Records that arose in this vigil tick, in arrival order; R392; reset empty. -/
  arising : List NewRecord
  /-- Most severe response raised in this vigil tick; R392; reset 0. -/
  tickResponse : Nat
  /-- The source of that response; R401; reset 0. -/
  tickSource : Nat
  /-- Event buffer, oldest first, at most 128; R408; reset empty. -/
  buffer : List LogRecord
  /-- Records discarded since the last record buffered; R408; reset 0. -/
  discards : Nat
  /-- Full number last issued; R406; reset 0. -/
  issued : Nat
  /-- Full number last committed, 0x6200:01; R410; reset 0. -/
  head : Nat
  /-- Oldest retained full number, 0x6200:02; R411, R412; reset 0. -/
  tail : Nat
  /-- Committed records in the ring: full number, ring slot 0 to 65,535, and the slot of the record committed before it;
  R407, R410; reset empty. -/
  index : List (Nat × Nat × Option Nat)
  /-- Ring slot of the last record committed; R407; reset none. -/
  lastSlot : Option Nat
  /-- Ring slot of the next record; R410; reset 0. -/
  nextSlot : Nat
  /-- Chain MAC of the last committed record; R407; reset 0. -/
  lastMac : Word
  /-- Segment of the last number issued; none before the first; R406; reset none. -/
  segment : Option Nat
  /-- Vigil time at which the oldest unflushed record arose; R408; reset none. -/
  oldest : Option Nat
  /-- Failed flush attempts of the row in hand; R410; reset 0. -/
  flushFailures : Nat
  /-- An accepted unlock awaits its device reset; R403; reset false. -/
  unlockAccepted : Bool
  /-- Intrusion-switch ball levels as last seen; R385, R405; reset DESIGN CHOICE false each. -/
  switchLevels : Vector Bool 4
  /-- Calibration held by an out-of-bounds recalibration, by sensor; R387, R416; reset false. -/
  calHeld : Vector Bool 9
  /-- A flush trigger of R408 holds and the buffer has not been flushed since; R408; reset false. -/
  flushDue : Bool
deriving DecidableEq, Repr

/-- One copy of a tag record (R528). -/
structure TagCopy where
  /-- Generation, U24; R528; reset DESIGN CHOICE 0. -/
  generation : Nat
  /-- Commit flag octet, committed when 0xC3; R528; reset DESIGN CHOICE 0x00 (uncommitted). -/
  flag : Byte
  /-- Data, its length being the length field; R528; reset DESIGN CHOICE empty. -/
  data : List Byte
deriving DecidableEq, Repr

/-- Tag states of ISO/IEC 14443-3 and -4 (R521, R525). -/
inductive TagState | powerOff | idle | ready1 | ready2 | active | halt | ready1Star | ready2Star | activeStar | protocol
deriving DecidableEq, Repr

/-- The tag island (spec/16_contactless.md). -/
structure TagIsland where
  /-- Two copies of each of 32 records; R528. -/
  records : Vector (Vector TagCopy 2) 32
  /-- Tag side state; R521, R525; reset power off. -/
  st : TagState
  /-- An external field is present; R520; reset false. -/
  field : Bool
  /-- The device application is selected; R524; reset false. -/
  selected : Bool
  /-- Switchable function; R532; reset ON (R541). -/
  fn : Switchable
  /-- It was ON when main power fell; R532; reset true (its default ON). -/
  onAtFall : Bool
  /-- Chained octets of a WRITE RECORD received so far; R529; reset empty. -/
  chained : List Byte
  /-- Block number of ISO/IEC 14443-4 and its last response; R521; reset DESIGN CHOICE 0. -/
  blockNumber : Bool
  /-- Last response, for retransmission on an R-block; R521; reset DESIGN CHOICE empty. -/
  lastReply : List Byte
  /-- Presentation open at the reader; R534; reset none. -/
  presentation : Option Presentation
  /-- Presentation purpose, 0x8000:11; R534; reset 0x00. -/
  purpose : Nat
  /-- Presentation nonce, 32 octets; R534; reset DESIGN CHOICE empty. -/
  nonce : List Byte
  /-- UIDs of tokens rejected in this presentation; R536; reset empty. -/
  rejected : List (List Byte)
  /-- Tokens resolved by the last poll and awaiting authentication; R535; reset empty. -/
  selectedTokens : List (List Byte)
  /-- A wired record write waits for the field command on another record to end; R531; reset empty. -/
  waitingWrites : List (Nat × List Byte)
deriving DecidableEq, Repr

/-- What the N4812 sends to the world outside it (the model's own record of it; the spec names each transfer). -/
inductive Output
  /-- A Dexrek frame: a response, or a PUBLISHED frame (R57, R71). -/
  | frame (f : Frame)
  /-- MSI-X vector k (R66, R255). -/
  | msix (k : Nat)
  /-- Octets driven on a host port's data lines (R145, R158). -/
  | host (n : Fin 12) (cs : Fin 2) (octets : List Byte)
  /-- DQ and DQS left in high impedance for a late read (R147). -/
  | hostFloat (n : Fin 12) (cs : Fin 2)
  /-- A command sent to a flash of a channel (R158, R159). -/
  | flash (n : Fin 12) (cs : Fin 2) (octets : List Byte)
  /-- An SPDM request to the device of a responder slot (R203). -/
  | spdmRequest (slot : Fin 64) (octets : List Byte)
  /-- An SPDM response of the N4812 (R217 to R219). -/
  | spdmResponse (port : SpdmPort) (octets : List Byte)
  /-- An MCTP control message (R201, R202). -/
  | mctp (octets : List Byte)
  /-- A PCI DOE discovery response (R196). -/
  | doe (octets : List Byte)
  /-- A field-network packet that is no Dexrek frame (R69). -/
  | net (octets : List Byte)
  /-- An answer of the contactless tag (R521 to R531). -/
  | tag (octets : List Byte)
  /-- A command of the contactless reader (R534 to R536). -/
  | reader (octets : List Byte)
  /-- A command or data block on the keeper card bus (R544 to R557). -/
  | card (index : Fin 4) (octets : List Byte)
  /-- An entry written by DMA into an export ring (R256, R413). -/
  | ring (r : Fin 2) (position : Nat) (octets : List Byte)
  /-- An answer on the readout port (R584 to R588). -/
  | readout (octets : List Byte)
  /-- A latency tolerance message, in microseconds (R568). -/
  | ltr (micros : Nat)
  /-- The value that a pair's read of a register delivered to it (R270, R364). -/
  | readData (p : Fin 4) (w : Word)
  /-- The boundary-scan output (R587). -/
  | tdo (b : Bool)
deriving DecidableEq, Repr

/-- A machine of this model stops with no fault: the spec gives every command of the table an effect. The one constructor
is raised by no meaning (safe); it stands so that the type is not empty. -/
inductive Fault
  | none
deriving DecidableEq, Repr

/-- Refusals. -/
inductive Refusal
  /-- Raised by an arm of exec whose command has no meaning yet; safe. -/
  | notModelled (mnemonic : String)
deriving DecidableEq, Repr

/-- The state of the N4812. -/
structure State where
  /-- The dictionary, sessions and transports (spec/02_dexrek_dictionary.md). -/
  dict : Dictionary
  /-- Outages and saved counters (spec/01_architecture.md). -/
  integ : Integrity
  /-- Modes, start and restart (spec/03_modes_and_startup.md). -/
  modes : Modes
  /-- The measurement channels (spec/04_measurement_channels.md). -/
  chans : Vector Channel 12
  /-- Read-consistency checking (spec/05_read_consistency.md). -/
  cons : Consistency
  /-- Attestation collection (spec/06_device_attestation.md). -/
  att : Attestation
  /-- The boot ledger (spec/07_boot_ledger.md). -/
  ledger : Ledger
  /-- The Job Hub (spec/08_job_hub.md). -/
  hub : JobHub
  /-- Lanes, public-key units, context sealer (spec/09, spec/10). -/
  eng : Engines
  /-- The key unit (spec/11_keys_and_entropy.md). -/
  keys : KeyUnit
  /-- The entropy unit (spec/11_keys_and_entropy.md). -/
  ent : Entropy
  /-- The vigil domain (spec/12, spec/18). -/
  vigil : Vigil
  /-- Tamper watch and event log (spec/12_tamper_and_evidence.md). -/
  tamper : Tamper
  /-- The four Onotte pairs (spec/13, spec/14). -/
  pairs : Vector Pair 4
  /-- The Gauntlet (spec/14_privilege_exceptions_gauntlet.md). -/
  gaunt : Gauntlet
  /-- The flash controller and banks (spec/15_embedded_flash.md). -/
  flash : FlashCtl
  /-- Contactless tag and reader (spec/16_contactless.md). -/
  tag : TagIsland
  /-- Keeper cards (spec/17_keeper_cards.md). -/
  cards : Cards
  /-- Power, clocks, freeze (spec/18_power_clocks_freeze.md). -/
  power : Power
  /-- Commons, word addresses 0x100000 onward, as octet cells keyed by octet pointer; an unlisted octet reads 0; R24, R588. -/
  commons : List Host.Cell
  /-- Free values drawn so far: the model's own counter; reset DESIGN CHOICE 0, notes/assumptions/3.md; no statement rests on it. -/
  free : Nat
  /-- What was sent to the outside, newest first: the model's own record (notes/assumptions/2.md); reset empty. -/
  out : List Output
  /-- Commands waiting, first in first out: the model's own (notes/assumptions/2.md); reset empty. -/
  pending : List Instr
deriving DecidableEq, Repr

/-! ## Reset values (the part as it leaves manufacture's erased state, before main power) -/

/-- Default responses of sources 0x10 to 0x2F (R381). -/
def defaultResponses : List Nat :=
  [4, 3, 3, 3, 3, 3, 3, 3, 3, 2, 3, 3, 4, 3, 2, 2] ++ [1, 2, 3, 2, 1, 2, 2, 1, 2, 1, 3, 1, 2, 0, 0, 0]

/-- Factory minimum responses of sources 0x10 to 0x2F (R381). -/
def minimumResponses : List Nat :=
  [3, 2, 2, 2, 2, 1, 1, 1, 1, 1, 2, 1, 3, 2, 1, 1] ++ [1, 1, 2, 1, 1, 1, 1, 1, 1, 1, 1, 1, 1, 0, 0, 0]

/-- Values of R609 at their defaults (R75, R219, R263, R416). -/
def Holder.initial : Holder :=
  { subscription := List.replicate 96 0, period := 1000, destination := 0, attestSlot := 0, ledgerCursor := 1,
    ledgerOffset := 0, eventCursor := 1 }

/-- A mailbox slot at device reset (R66, R111). -/
def Mailbox.initial : Mailbox := { stat := .free, reqLen := 0, reqBuf := [], respLen := 0, respBuf := [] }

def Dictionary.initial : Dictionary :=
  { objs := [], atTick := [], tick := 0, tickWrites := [], touched := [], boardBoot := none, commits := [],
    segments := [], sessions := [], sessionless := Vector.replicate 5 Holder.initial, setups := [],
    mailbox := Vector.replicate 4 Mailbox.initial, telemetryCount := 0, telemetry := [], i3cSwapped := false,
    restarting := false, perst := false, draws := 0 }

def Integrity.initial : Integrity :=
  { saved := [], outage := none, primaryLate := false, countedTo := 0, busKeysFromDrbg := false, savedAt := 0 }

def Switchable.initial : Switchable := { st := .on, queued := false }

/-- No valid option-area copy: the built-in defaults of R91. -/
def OptionInForce.none : OptionInForce := { copy := Option.none, validA := false, validB := false, words := [] }

def Modes.initial : Modes :=
  { mode := .vigil, startPending := none, starting := false, mainPower := false, vio33 := false, pfail := false,
    options := OptionInForce.none, holdMask := 0, holds := Vector.replicate 16 .hiZ,
    releaseQueue := [], lastReset := .powerOn, running := none, imageDigest := List.replicate 48 0,
    policyDigest := List.replicate 48 0, limitExpired := false, hotRestart := none, hotRestartWaiting := none, retiring := false,
    stagedPrograms := [], programs := [] }

/-- Emulated state with the built-in start values of R124 (R157). -/
def EmuDevice.initial : EmuDevice :=
  { protocol := 0, addr4 := false, writeEnable := false, busy := false, deepDown := false, resetArmed := false }

def FlashSide.initial : FlashSide :=
  { ready := false, fault := false, id := List.replicate 3 0, sfdp := [], density := 0, delay := 0, window := 0 }

def Region.initial : Region :=
  { verdict := 0, digest := [], scanned := [], retries := 0, hashed := false, unreadable := false, pinned := [], recovering := none, complete := false,
    fromCommons := false, reloading := false, reloadFailed := false }

def Channel.initial : Channel :=
  { phase := 0, port := Switchable.initial, emu := Vector.replicate 2 EmuDevice.initial,
    flash := Vector.replicate 2 FlashSide.initial, forwarded := Vector.replicate 2 none, regions := [],
    manifestsDecided := false, status := [], manifests := [], anchors := [], entrySeq := [], outage := false, refusedSince := 0, refusedEventAt := none,
    timeouts := [], trainedAt := 0, trainedTemp := 0, mismatchSince := 0,
    mismatchEventAt := none }

def FpEntry.free : FpEntry :=
  { reference := 0, accumulator := 0, mask := 0, rounds := 0, channel := 0, st := .free, aged := false,
    prescanned := 0, sweepClosed := false }

def FpUnit.initial : FpUnit :=
  { key := none, failed := false, ranges := [], nexts := [], fillIns := [], firstMismatch := none }

def Consistency.initial : Consistency :=
  { units := Vector.replicate 12 FpUnit.initial, entries := [], bases := [], allocated := 0, sweeping := false,
    sweepLost := false }

def Responder.initial : Responder :=
  { outcome := 0, eid := none, found := false, await := none, waiting := none, resends := 0, busyWaits := 0,
    notReady := 0, resyncs := 0, request := [], version := 0, ctExponent := 0, asym := 0, hash := 0, digest := [], chain := [],
    cached := false, blocks := 0, transcript := [], deferred := false, overridden := false, snapshot := 0, since := 0 }

def SpdmConnection.initial : SpdmConnection :=
  { versioned := false, capable := false, negotiated := false, transcript := [] }

def Attestation.initial : Attestation :=
  { slots := [], table := [], caches := [], phase := 0, ownEid := 0, discovered := false, serveSince := 0,
    gateEnded := false, recorded := false, connections := Vector.replicate 2 SpdmConnection.initial }

def ExportRing.initial : ExportRing :=
  { baseLo := 0, baseHi := 0, size := 0, ctrl := 0, prod := 0, cons := 0, waiting := false, error := false,
    skipped := false, nextSeq := 0, frameEnds := [] }

def Ledger.initial : Ledger :=
  { mirror := none, last := 0, lastHash := List.replicate 48 0, records := [], tail := 0, head := 1, append := none,
    queue := [], pendingItems := [], pendingSince := none, appendedAt := 0, dropped := 0, startFlags := 0,
    hashFlags := 0, unsavedStats := false, statsSaved := false, suppBodies := [], prevBodies := [], keyBlob := none, freshKey := none, publicKeys := [], rolloverDue := none,
    full := false, fault := false, highLogged := false, primary := none, lastPrimary := none,
    rings := Vector.replicate 2 ExportRing.initial, summaryDue := false, summaryRetry := false, gateEntry := 0, lastRegion := 0,
    startCause := 1, eventAtGate := 0, primaryAsked := false }

def HubWindow.initial : HubWindow :=
  { desc := Vector.replicate 6 0, result := (0, 0), popped := none, query := 0, queue := [] }

def JobHub.initial : JobHub :=
  { slots := [], allocs := [], pointer := 0, windows := Vector.replicate 12 HubWindow.initial,
    current := Vector.replicate 4 0, placed := Vector.replicate 4 [], outOfService := [], allocOrder := 0,
    startOrder := 0, highWater := 0 }

def EngineHealth.initial : EngineHealth := { testing := false, untested := true, faultTimes := [], testedAt := 0 }

def Engines.initial : Engines :=
  { health := [], contextKey := none, sealNumber := 0, laneRun := none, unitRun := none,
    hashing := Vector.ofFn (fun i : Fin 12 => i.val), curveFailed := [] }

def KeyWindow.initial : KeyWindow := { arg0 := 0, arg1 := 0, st := .idle, code := 0, waits := none }

def KeyUnit.initial : KeyUnit :=
  { slots := [], windows := Vector.replicate 12 KeyWindow.initial, uds := Config.uniqueDeviceSecret, udsOpen := false, vigilRoot := none,
    binding := none, iwk := none, cdi1 := none, ownerRoot := none, eventKey := none,
    identityBlob := Vector.replicate 2 [], staging := [], provisioning := false }

def NoiseCell.initial : NoiseCell :=
  { inService := true, startBlocks := 0, lastBit := false, run := 0, failing := 0, compressor := 0, credit := 0,
    block := none }

def Entropy.initial : Entropy :=
  { cells := Vector.replicate 4 NoiseCell.initial, st := 0, drbg := 0, queue := [], delivered := false,
    reseedBlocks := 0, moment := 0, eraseMoment := 0, pattern := false }

/-- The vigil store as initialised, with its canary (R400); V absent is the key unit's. -/
def Vigil.initial : Vigil :=
  { supply := .none, vaux := false, canary := 0xA5C3E15A3C1E, sticky := 0, records := [], lastIssued := none,
    responses := defaultResponses, rawThresholds := List.replicate 12 none, holdMirror := 0xFFFF, windowSince := none,
    watchdogs := 0, time := 0, phase := 0, trim := 0, slew := 0, withhold := false, bandCodes := [], temperatureCode := none, restored := false, copy := 0,
    crystalStopped := false, doff := none }

def Source.initial : Source := { raised := false, beyond := 0, inside := 0, recordedAt := none, unrecorded := 0 }

def Tamper.initial : Tamper :=
  { sources := [], sides := [], arising := [], tickResponse := 0, tickSource := 0, buffer := [], discards := 0, issued := 0,
    head := 0, tail := 0, index := [], lastSlot := none, nextSlot := 0, lastMac := 0, segment := none, oldest := none,
    flushFailures := 0, unlockAccepted := false, switchLevels := Vector.replicate 4 false,
    calHeld := Vector.replicate 9 false, flushDue := false }

/-- IPRIO with the default priorities of R474, source 0 in bits [2:0]. -/
def defaultPriorities : Word :=
  BitVec.ofNat 48 ([2, 3, 5, 5, 4, 6, 4, 6, 5, 4, 4, 2, 6, 0, 0, 0].foldr (fun p acc => acc * 8 + p) 0)

/-- A pair in reset (R32, R460): Monitor level, halted until it is brought up. -/
def Pair.initial : Pair :=
  { g := Vector.replicate 15 0, g15 := Vector.replicate 3 0, cy := false, mh := 0, ls := Vector.replicate 2 0,
    le := Vector.replicate 2 0, lc := Vector.replicate 2 0, setLevel := Vector.replicate 2 .user, ml := 7,
    level := .monitor, ip := 0, stack := Vector.replicate 3 [], dsl := Vector.replicate 3 0,
    rsp := Vector.replicate 3 0, rsb := Vector.replicate 3 0, rsl := Vector.replicate 3 0, inFlight := [],
    branch := none, ipend := 0, ienable := 0, iprio := defaultPriorities, vbase1 := 0, vbase2 := 0,
    gtbase := 0, gtcount := 0, timers := Vector.replicate 2 0, doubleFault := false, waiting := false, entropyWait := false,
    inService := false, pcins := 0, pccyc := 0, pc := Vector.replicate 4 0, pcsel := 0, pcovf := 0, mem := [],
    fetched := [] }

def Gauntlet.initial : Gauntlet := { rules := [], staged := [], epochs := Vector.replicate 14 0 }

def FlashBank.initial : FlashBank :=
  { cells := [], running := none, suspended := none, ranMinimum := false, waiting := [], eraseOpen := [],
    remaps := [], held := [], journalSector := 0, journalWord := 0, journalGen := 0 }

def FlashCtl.initial : FlashCtl :=
  { banks := Vector.replicate 2 FlashBank.initial, keyStage := 0, keyFails := 0, locked := false, fcAddr := 0,
    fcData := 0, fcSrc := 0, fcState := 0, fcCode := 0, fcResult := 0, fqBase := 0, fqSize := 0, fqTail := 0,
    fqHead := 0, fqCtrl := 0, fqOpen := [], order := 0, powerFail := false, marginNext := 0, marginPass := none,
    refreshDue := [] }

def TagCopy.initial : TagCopy := { generation := 0, flag := 0, data := [] }

def TagIsland.initial : TagIsland :=
  { records := Vector.replicate 32 (Vector.replicate 2 TagCopy.initial), st := .powerOff, field := false,
    selected := false, fn := Switchable.initial, onAtFall := true, chained := [], blockNumber := false,
    lastReply := [], presentation := none, purpose := 0, nonce := [], rejected := [], selectedTokens := [],
    waitingWrites := [] }

def Cards.initial : Cards :=
  { table := Vector.replicate 4 none, detect := Vector.replicate 4 false, fn := Switchable.initial, op := none, waiting := [],
    unresolved := [], journalNext := 0, staged := Vector.replicate 4 (List.replicate 6 0), archive := 0 }

def Island.initial : Island := { level := 0, changing := none }

def Power.initial : Power :=
  { islands := Vector.replicate 26 Island.initial, pll := 0, ref25 := true, peRefclk := true, link := false,
    l1 := false, ltrEnable := false, frozen := none, freezeScheduled := false, ignoredEventAt := none,
    windowSpoiled := false, vpea := false }

/-- The machine right after reset: a part in lifecycle BLANK (its flash erased), its vigil store initialised, no main
power, no command waiting. MAIN_POWER_ARRIVES starts it. -/
def State.reset : State :=
  { dict := Dictionary.initial, integ := Integrity.initial, modes := Modes.initial,
    chans := Vector.replicate 12 Channel.initial, cons := Consistency.initial, att := Attestation.initial,
    ledger := Ledger.initial, hub := JobHub.initial, eng := Engines.initial, keys := KeyUnit.initial,
    ent := Entropy.initial, vigil := Vigil.initial, tamper := Tamper.initial,
    pairs := Vector.replicate 4 Pair.initial, gaunt := Gauntlet.initial, flash := FlashCtl.initial,
    tag := TagIsland.initial, cards := Cards.initial, power := Power.initial, commons := [], free := 0, out := [],
    pending := [] }


end Sys2Proof.Machine
end

