-- ==== Sys2Proof/Machine/Ops.lean ====
section
/-! DEFINITION. Named operations over maps, octets, memories, the object store and the state's parts. -/

namespace Sys2Proof.Machine

/-! ## Sparse maps -/

/-- The value of a key. -/
def kget {α : Type} : KMap α → Nat → Option α
  | [], _ => none
  | (k, v) :: rest, q => if k = q then some v else kget rest q

/-- Sets a key, keeping the keys rising. -/
def kset {α : Type} : KMap α → Nat → α → KMap α
  | [], q, x => [(q, x)]
  | (k, v) :: rest, q, x =>
    if q < k then (q, x) :: (k, v) :: rest
    else if q = k then (q, x) :: rest
    else (k, v) :: kset rest q x

/-- Removes a key. -/
def kdel {α : Type} (m : KMap α) (q : Nat) : KMap α := m.filter (fun e => e.1 != q)

/-- Updates the value of a key from its present value or a default. -/
def kupd {α : Type} (m : KMap α) (q : Nat) (d : α) (f : α → α) : KMap α := kset m q (f ((kget m q).getD d))

/-- Keys strictly rise. -/
def krising {α : Type} : KMap α → Bool
  | [] => true
  | [_] => true
  | (k, _) :: (k', v') :: rest => k < k' && krising ((k', v') :: rest)

/-! ## Octet memories

A memory lists (octet pointer, octet) with pointers strictly rising and no octet 0: an unlisted octet reads 0. -/

/-- The octet at a pointer. -/
def memGet (m : List Host.Cell) (a : Nat) : Byte := (kget m a).getD 0

/-- Writes an octet, keeping the canonical form. -/
def memSet (m : List Host.Cell) (a : Nat) (b : Byte) : List Host.Cell :=
  if b = 0 then kdel m a else kset m a b

/-- The canonical form. -/
def memWf (m : List Host.Cell) : Bool := krising m && m.all (fun c => c.2 != 0)

/-- R8: the octet pointer after this one; index 5 is followed by index 0 of the next word. -/
def octNext (p : Nat) : Nat := if p % 8 = 5 then p + 3 else p + 1

/-- R8: an octet pointer (index 0 to 5) moved by a signed count of octets. -/
def octMove (p : Nat) (n : Int) : Int :=
  let linear : Int := ((p / 8) * 6 + p % 8 : Nat) + n
  (linear / 6) * 8 + linear % 6

/-- n octets from an octet pointer in ascending octet-pointer order. -/
def memOctets (m : List Host.Cell) (p : Nat) : Nat → List Byte
  | 0 => []
  | n + 1 => memGet m p :: memOctets m (octNext p) n

/-- Writes octets from an octet pointer in ascending octet-pointer order. -/
def memStore (m : List Host.Cell) (p : Nat) : List Byte → List Host.Cell
  | [] => m
  | b :: rest => memStore (memSet m p b) (octNext p) rest

/-! ## Octets and words -/

/-- An unsigned number as n big-endian octets (R5, R42). -/
def beOctets (n v : Nat) : List Byte :=
  match n with
  | 0 => []
  | n + 1 => BitVec.ofNat 8 (v / 256 ^ n) :: beOctets n v

/-- The number that big-endian octets write. -/
def beNat (b : List Byte) : Nat := b.foldl (fun a o => a * 256 + o.toNat) 0

/-- R5: a word exported as six octets, most significant first. -/
def wordBe (w : Word) : List Byte := beOctets 6 w.toNat

/-- R4: the octets of a word in order of their index. -/
def wordOctets (w : Word) : List Byte := (wordBe w).reverse

/-- R4: the word whose octet indexes 0 to 5 hold these octets. -/
def octetsWord (b : List Byte) : Word := BitVec.ofNat 48 (beNat (b.take 6).reverse)

/-- Words from octets packed six per word (R4); the last word is filled with zero octets. -/
def packWords : Nat → List Byte → List Word
  | 0, _ => []
  | n + 1, b => octetsWord b :: packWords n (b.drop 6)

/-- All octets packed six per word. -/
def packAll (b : List Byte) : List Word := packWords ((b.length + 5) / 6) b

/-- R5: words exported most significant octet first. -/
def wordsBe (w : List Word) : List Byte := w.flatMap wordBe

/-- The words that six-octet groups export under R5. -/
def beWords : Nat → List Byte → List Word
  | 0, _ => []
  | n + 1, b => BitVec.ofNat 48 (beNat (b.take 6)) :: beWords n (b.drop 6)

/-- Octets cut or filled with a byte to a length. -/
def padTo (n : Nat) (fill : Byte) (b : List Byte) : List Byte :=
  (b ++ List.replicate (n - b.length) fill).take n

/-- The text of an ASCII string as octets. -/
def ascii (s : String) : List Byte := s.toList.map (fun c => BitVec.ofNat 8 c.toNat)

/-- SHA-384 as 48 octets. -/
def sha384 (b : List Byte) : List Byte := beOctets 48 (Config.sha384 b).toNat

/-- KMAC256 with an output of the given bits, as octets. -/
def kmac (key data : List Byte) (custom : String) (bits : Nat) : List Byte :=
  beOctets (bits / 8) (Config.kmac256 key data (ascii custom) bits)

/-- AES-256-GCM in the direction of encryption: ciphertext and 16-octet tag. -/
def gcmSeal (key : BitVec 256) (nonce aad plain : List Byte) : List Byte × List Byte :=
  let ct := plain.mapIdx (fun i b => b ^^^ Config.gcmStream key nonce i)
  (ct, beOctets 16 (Config.gcmTag key nonce aad ct).toNat)

/-- AES-256-GCM in the direction of decryption; none when the tag fails. -/
def gcmOpen (key : BitVec 256) (nonce aad ct tag : List Byte) : Option (List Byte) :=
  if tag = beOctets 16 (Config.gcmTag key nonce aad ct).toNat then
    some (ct.mapIdx (fun i b => b ^^^ Config.gcmStream key nonce i))
  else none

/-- Two's complement reading of n bits. -/
def signed (bits v : Nat) : Int := if v < 2 ^ (bits - 1) then (v : Int) else (v : Int) - 2 ^ bits

/-- Two's complement writing in n bits. -/
def unsigned (bits : Nat) (v : Int) : Nat := (v % 2 ^ bits).toNat

/-- A quotient rounded half to even (R10). -/
def roundHalfEven (n : Int) (d : Nat) : Int :=
  let q := n / d
  let r := n % d
  if 2 * r < d then q else if 2 * r > d then q + 1 else if q % 2 = 0 then q else q + 1

/-- A value held between two bounds (a saturating result). -/
def clampInt (lo hi v : Int) : Int := if v < lo then lo else if v > hi then hi else v

/-! ## Parts of the state -/

def State.onDict (f : Dictionary → Dictionary) (s : State) : State := { s with dict := f s.dict }
def State.onInteg (f : Integrity → Integrity) (s : State) : State := { s with integ := f s.integ }
def State.onModes (f : Modes → Modes) (s : State) : State := { s with modes := f s.modes }
def State.onChan (n : Fin 12) (f : Channel → Channel) (s : State) : State :=
  { s with chans := s.chans.set n (f s.chans[n]) }
def State.onChans (f : Vector Channel 12 → Vector Channel 12) (s : State) : State := { s with chans := f s.chans }
def State.onCons (f : Consistency → Consistency) (s : State) : State := { s with cons := f s.cons }
def State.onAtt (f : Attestation → Attestation) (s : State) : State := { s with att := f s.att }
def State.onLedger (f : Ledger → Ledger) (s : State) : State := { s with ledger := f s.ledger }
def State.onHub (f : JobHub → JobHub) (s : State) : State := { s with hub := f s.hub }
def State.onEng (f : Engines → Engines) (s : State) : State := { s with eng := f s.eng }
def State.onKeys (f : KeyUnit → KeyUnit) (s : State) : State := { s with keys := f s.keys }
def State.onEnt (f : Entropy → Entropy) (s : State) : State := { s with ent := f s.ent }
def State.onVigil (f : Vigil → Vigil) (s : State) : State := { s with vigil := f s.vigil }
def State.onTamper (f : Tamper → Tamper) (s : State) : State := { s with tamper := f s.tamper }
def State.onPair (p : Fin 4) (f : Pair → Pair) (s : State) : State := { s with pairs := s.pairs.set p (f s.pairs[p]) }
def State.onPairs (f : Vector Pair 4 → Vector Pair 4) (s : State) : State := { s with pairs := f s.pairs }
def State.onGaunt (f : Gauntlet → Gauntlet) (s : State) : State := { s with gaunt := f s.gaunt }
def State.onFlash (f : FlashCtl → FlashCtl) (s : State) : State := { s with flash := f s.flash }
def State.onTag (f : TagIsland → TagIsland) (s : State) : State := { s with tag := f s.tag }
def State.onCards (f : Cards → Cards) (s : State) : State := { s with cards := f s.cards }
def State.onPower (f : Power → Power) (s : State) : State := { s with power := f s.power }
def State.onCommons (f : List Host.Cell → List Host.Cell) (s : State) : State := { s with commons := f s.commons }

/-- Sends something to the outside. -/
def State.send (o : Output) (s : State) : State := { s with out := o :: s.out }

/-- Draws a free value (DESIGN CHOICE, notes/assumptions/3.md: no statement rests on the counter). -/
def State.drawFree (s : State) : Word × State := (Config.freeWord s.free, { s with free := s.free + 1 })

/-- Repeats an update for every number of a list, in order. -/
def State.forAll {α : Type} (l : List α) (f : α → State → State) (s : State) : State := l.foldl (fun a x => f x a) s

/-- All twelve channels in order. -/
def channels : List (Fin 12) := List.ofFn (fun i : Fin 12 => i)

/-- All four pairs in order. -/
def pairIndexes : List (Fin 4) := [0, 1, 2, 3]

/-! ## Vigil time -/

/-- Vigil time in units of 2^-15 s, as the FCLK copy shows it (R572). -/
def State.now (s : State) : Nat := s.vigil.time

/-- One second of vigil time (R572). -/
def second : Nat := 32768

/-! ## The object store -/

/-- The key of Index:Sub. -/
def okey (index sub : Nat) : Nat := index * 256 + sub

/-- A stored number; an unlisted object reads as the default handed over. -/
def State.numD (s : State) (key d : Nat) : Nat :=
  match kget s.dict.objs key with
  | some (.num n) => n
  | _ => d

/-- A stored number whose default is 0. -/
def State.num (s : State) (key : Nat) : Nat := s.numD key 0

/-- Stored octets, with their default. -/
def State.octetsD (s : State) (key : Nat) (d : List Byte) : List Byte :=
  match kget s.dict.objs key with
  | some (.octets b) => b
  | _ => d

/-- Stored words, with their default. -/
def State.wordsD (s : State) (key : Nat) (d : List Word) : List Word :=
  match kget s.dict.objs key with
  | some (.words w) => w
  | _ => d

/-- Status and completion code of a CMD object; Idle by default (R46). -/
def State.cmd (s : State) (key : Nat) : Nat × Nat :=
  match kget s.dict.objs key with
  | some (.cmd st c) => (st, c)
  | _ => (0, 0)

/-- Stores a value. -/
def State.put (key : Nat) (v : Val) (s : State) : State := s.onDict (fun d => { d with objs := kset d.objs key v })

/-- Stores a number. -/
def State.putNum (key n : Nat) (s : State) : State := s.put key (.num n)

/-- Adds to a counter that saturates at the largest value of its bits. -/
def State.bumpBy (key bits n : Nat) (s : State) : State := s.putNum key (min (s.num key + n) (2 ^ bits - 1))

/-- Adds 1 to a saturating U48. -/
def State.bump (key : Nat) (s : State) : State := s.bumpBy key 48 1

/-- Adds to a counter that wraps at 48 bits. -/
def State.wrapBy (key n : Nat) (s : State) : State := s.putNum key ((s.num key + n) % 2 ^ 48)

/-- Word i of a WORDS(n) counter. -/
def State.countOf (s : State) (key n i : Nat) : Nat := ((s.wordsD key (List.replicate n 0)).getD i 0).toNat

/-- Adds to word i of a WORDS(n) counter that saturates. -/
def State.bumpWord (key n i : Nat) (s : State) (by_ : Nat := 1) : State :=
  let w := s.wordsD key (List.replicate n 0)
  s.put key (.words (w.set i (BitVec.ofNat 48 (min ((w.getD i 0).toNat + by_) (2 ^ 48 - 1)))))

/-- Adds to word i of a WORDS(n) counter that wraps. -/
def State.wrapWord (key n i : Nat) (s : State) (by_ : Nat := 1) : State :=
  let w := s.wordsD key (List.replicate n 0)
  s.put key (.words (w.set i (w.getD i 0 + BitVec.ofNat 48 by_)))

/-- Status codes of R46. -/
def cmdIdle : Nat := 0
def cmdBusy : Nat := 1
def cmdDone : Nat := 2
def cmdFailed : Nat := 3
def cmdAborted : Nat := 4

/-- Sets the status and completion code of a CMD object. -/
def State.setCmd (key status code : Nat) (s : State) : State := s.put key (.cmd status code)

/-- The CMD object is Busy. -/
def State.busy (s : State) (key : Nat) : Bool := (s.cmd key).1 == cmdBusy

/-- Ends a Busy action with a status and code; an object that is not Busy stays. -/
def State.endCmd (key status code : Nat) (s : State) : State := if s.busy key then s.setCmd key status code else s

/-- Ends a Busy action Done (code 0x000000). -/
def State.doneCmd (key : Nat) (s : State) : State := s.endCmd key cmdDone 0

/-- Ends a Busy action Failed. -/
def State.failCmd (key code : Nat) (s : State) : State := s.endCmd key cmdFailed code

/-- Ends a Busy action Aborted. -/
def State.abortCmd (key code : Nat) (s : State) : State := s.endCmd key cmdAborted code

/-! ## Modes (R79) -/

/-- The code of a mode. -/
def Mode.code : Mode → Nat
  | .blank => 0 | .factory => 1 | .provision => 2 | .gate => 3 | .serve => 4 | .maintain => 5 | .ceremony => 6
  | .recover => 7 | .locked => 8 | .forensic => 9 | .vigil => 10 | .retired => 11

/-- The mode of a code. -/
def Mode.ofCode : Nat → Option Mode
  | 0 => some .blank | 1 => some .factory | 2 => some .provision | 3 => some .gate | 4 => some .serve
  | 5 => some .maintain | 6 => some .ceremony | 7 => some .recover | 8 => some .locked | 9 => some .forensic
  | 10 => some .vigil | 11 => some .retired | _ => none

/-- Serve, Maintain and Ceremony: the modes in which host ports serve (R80). -/
def Mode.serving : Mode → Bool
  | .serve | .maintain | .ceremony => true
  | _ => false

/-- Blank, Factory and Provision: host ports pass through to the flash (R79). -/
def Mode.passThrough : Mode → Bool
  | .blank | .factory | .provision => true
  | _ => false

/-- Locked, Forensic and Retired (R84). -/
def Mode.closed : Mode → Bool
  | .locked | .forensic | .retired => true
  | _ => false

/-- The mode is a powered one and its start has ended. -/
def State.powered (s : State) : Bool := s.modes.mainPower

end Sys2Proof.Machine
end

