-- ==== Sys2Proof/Machine/Directory.lean ====
section
/-! DEFINITION. The object directory: for every object its type, role sets, mode mask, persistence and default (R41), its
reach (R49), and the encoding of its value on the wire (R42). -/

namespace Sys2Proof.Machine

/-- The Dexrek types (R42). -/
inductive DType
  | bool
  | uint (octets : Nat)
  | sint (octets : Nat)
  | uq (m n : Nat)
  | time
  | octets (n : Nat)
  | words (n : Nat)
  | string
  | cmd
  | domain (max : Nat)
deriving DecidableEq, Repr

/-- One object of the directory (R41). `writeModes` is the mode mask for writes: where an object table's Meaning says
"X only" of a value object, it limits its writes (DEDUCED, notes/assumptions/6.md). -/
structure Desc where
  key : Nat
  ty : DType
  readers : Nat
  writers : Nat
  pers : Bool
  modes : Nat
  writeModes : Nat
  dflt : Val
deriving DecidableEq, Repr

/-- Builds a directory entry. -/
def obj (key : Nat) (ty : DType) (readers writers : Nat) (pers : Bool) (modes writeModes : Nat) (dflt : Val) : Desc :=
  { key, ty, readers, writers, pers, modes, writeModes, dflt }

/-- The built-in descriptor of R124 in the fields of R126. -/
def builtInDescriptor : List Word :=
  [BitVec.ofNat 48 (8 * 2 ^ 23 + 8 * 2 ^ 18 + 10 * 2 ^ 12 + 3 * 2 ^ 4 + 2 ^ 2),
   BitVec.ofNat 48 (0x3C * 2 ^ 16 + 4 * 2 ^ 12 + 2 ^ 6)]

/-- Default thresholds of R388: T_lo, H_lo, T_hi, H_hi of A0 to A8. -/
def defaultThresholds : List Byte :=
  ([0xD300, 0x0500, 0x7800, 0x0500, 0x0B85, 0x0029, 0x0E66, 0x0029, 0x19EC, 0x0052, 0x1FAE, 0x0052] ++
   [0x2F85, 0x007B, 0x3A14, 0x007B, 0x2400, 0x0066, 0x2C00, 0x0066, 0x0CF6, 0x0029, 0x0FD7, 0x0029] ++
   [0x8000, 0x0000, 0x07D0, 0x00C8, 0xD800, 0x0500, 0x6400, 0x0500, 0x2666, 0x00CD, 0x7FFF, 0x0000]).flatMap
    (beOctets 2)

/-- Deepest level of each island by R561, which is also the default floor (0x1300:03). -/
def islandFloorDefaults : List Byte :=
  [1, 1, 4, 4, 4, 4, 4, 4, 4, 4, 4, 4, 4, 4, 4, 4, 4, 4, 3, 3, 2, 2, 2, 3, 4, 4]

/-- Objects of spec/01_architecture.md, part 1. -/
def objects01_1 : List Desc := [
  obj (okey 0x1200 0x30) (.uint 3) 31 0 true 0xFE 0xFE (.num 0),  -- Outage count
  obj (okey 0x1200 0x31) (.time) 31 0 true 0xFE 0xFE (.num 0),  -- Outage time
  obj (okey 0x1200 0x32) (.time) 31 0 true 0xFE 0xFE (.num 0),  -- Counted time
  obj (okey 0x1200 0x33) (.uint 1) 31 0 true 0xFE 0xFE (.num 0),  -- Last outage cause
  obj (okey 0x1200 0x34) (.time) 31 0 true 0xFE 0xFE (.num 0),  -- Last outage start
  obj (okey 0x7100 0x40) (.words 6) 31 0 true 0xFE 0xFE (.words (List.replicate 6 0)),  -- Corrected errors
  obj (okey 0x7100 0x41) (.words 6) 31 0 true 0xFE 0xFE (.words (List.replicate 6 0)),  -- Uncorrectable errors
  obj (okey 0x7100 0x42) (.words 6) 31 0 true 0xFE 0xFE (.words (List.replicate 6 0)),  -- Address faults
  obj (okey 0x7100 0x43) (.words 4) 31 0 true 0xFE 0xFE (.words (List.replicate 4 0)),  -- Lockstep mismatches
  obj (okey 0x7100 0x44) (.uint 6) 31 0 true 0xFE 0xFE (.num 0)  -- Bus parity failures
]

/-- Objects of spec/02_dexrek_dictionary.md, part 1. -/
def objects02_1 : List Desc := [
  obj (okey 0x1000 0x01) (.string) 31 0 true 0xFE 0xFE (.octets (ascii "Smihastad Devices")),  -- Vendor name
  obj (okey 0x1000 0x02) (.string) 31 0 true 0xFE 0xFE (.octets (ascii "N4812")),  -- Part name
  obj (okey 0x1000 0x03) (.uint 1) 31 0 true 0xFE 0xFE (.num (if Config.revisionB1 then 0xB1 else 0xB0)),  -- Silicon revision
  obj (okey 0x1000 0x04) (.octets 12) 31 0 true 0xFE 0xFE (.octets (beOctets 12 Config.deviceSerial.toNat)),  -- Device serial
  obj (okey 0x1000 0x05) (.octets 6) 31 0 true 0xFE 0xFE (.octets (beOctets 6 Config.macAddress.toNat)),  -- MAC address
  obj (okey 0x1000 0x06) (.uint 6) 31 0 true 0xFE 0xFE (.num Config.enterpriseNumber.toNat),  -- Enterprise number
  obj (okey 0x1000 0x08) (.uint 6) 31 0 true 0xFE 0xFE (.num 0),  -- Vendor command counter
  obj (okey 0x1100 0x01) (.uint 6) 31 0 false 0xFE 0xFE (.num 0),  -- Tick count
  obj (okey 0x1100 0x02) (.domain 16777215) 31 0 false 0xFE 0xFE (.octets []),  -- Object directory
  obj (okey 0x1100 0x03) (.uint 6) 31 0 true 0xFE 0xFE (.num 0),  -- Contended writes
  obj (okey 0x1100 0x04) (.uint 6) 31 0 true 0xFE 0xFE (.num 0),  -- Dropped frames
  obj (okey 0x1100 0x05) (.uint 6) 31 0 true 0xFE 0xFE (.num 0),  -- Replayed frames
  obj (okey 0x1100 0x10) (.bool) 31 10 true 0xFE 0xFE (.num 0),  -- I3C port roles
  obj (okey 0x1100 0x11) (.uint 1) 31 10 true 0xFE 0xFE (.num 90),  -- I3C target address
  obj (okey 0x1100 0x18) (.bool) 31 8 true 0xFE 0xFE (.num 1),  -- PCIe sessionless
  obj (okey 0x1100 0x20) (.cmd) 7 6 false 0xFE 0xFE (.cmd 0 0),  -- Officer elevation
  obj (okey 0x1100 0x21) (.cmd) 15 15 false 0xFE 0xFE (.cmd 0 0),  -- Close session
  obj (okey 0x1100 0x22) (.uint 1) 31 0 false 0xFE 0xFE (.num 0),  -- Active sessions
  obj (okey 0x1100 0x23) (.uint 3) 31 10 true 0xFE 0xFE (.num 300),  -- Session idle limit
  obj (okey 0x1100 0x28) (.octets 48) 31 8 true 0xFE 0x04 (.octets (List.replicate 48 0)),  -- Owner root digest
  obj (okey 0x1100 0x31) (.uint 1) 31 10 true 0xFE 0xFE (.num 255),  -- PLCA node ID
  obj (okey 0x1100 0x32) (.uint 1) 31 10 true 0xFE 0xFE (.num 8),  -- PLCA node count
  obj (okey 0x1100 0x33) (.uint 2) 31 10 true 0xFE 0xFE (.num 48120),  -- UDP port
  obj (okey 0x1100 0x34) (.octets 16) 31 10 true 0xFE 0xFE (.octets (List.replicate 16 0))  -- Static address
]

/-- Objects of spec/02_dexrek_dictionary.md, part 2. -/
def objects02_2 : List Desc := [
  obj (okey 0x1100 0x35) (.uint 1) 31 10 true 0xFE 0xFE (.num 64),  -- Static prefix length
  obj (okey 0x1100 0x40) (.octets 96) 15 15 false 0xFE 0xFE (.octets (List.replicate 96 0)),  -- Subscription list
  obj (okey 0x1100 0x41) (.uint 3) 15 15 false 0xFE 0xFE (.num 1000),  -- Publish period
  obj (okey 0x1100 0x42) (.uint 1) 15 15 false 0xFE 0xFE (.num 0)  -- Publish destination
]

/-- Objects of spec/03_modes_and_startup.md, part 1. -/
def objects03_1 : List Desc := [
  obj (okey 0x1200 0x01) (.uint 1) 31 0 false 0xFE 0xFE (.num 0),  -- Current mode
  obj (okey 0x1200 0x02) (.uint 1) 31 0 true 0xFE 0xFE (.num 0),  -- Lifecycle
  obj (okey 0x1200 0x03) (.cmd) 31 10 false 0xFE 0xFE (.cmd 0 0),  -- Mode request
  obj (okey 0x1200 0x04) (.cmd) 31 16 false 0xFE 0xFE (.cmd 0 0),  -- Lifecycle advance
  obj (okey 0x1200 0x05) (.cmd) 31 8 false 0x04 0x04 (.cmd 0 0),  -- Commit provisioning
  obj (okey 0x1200 0x06) (.cmd) 31 10 false 0xFE 0xFE (.cmd 0 0),  -- Device reset
  obj (okey 0x1200 0x07) (.cmd) 31 10 false 0x30 0x30 (.cmd 0 0),  -- Hot restart
  obj (okey 0x1200 0x08) (.cmd) 31 10 false 0xFE 0xFE (.cmd 0 0),  -- Board boot
  obj (okey 0x1200 0x09) (.cmd) 31 8 false 0x70 0x70 (.cmd 0 0),  -- Retire
  obj (okey 0x1200 0x10) (.uint 1) 31 0 false 0xFE 0xFE (.num 0),  -- Last reset kind
  obj (okey 0x1200 0x11) (.uint 6) 31 0 true 0xFE 0xFE (.num 0),  -- Start count
  obj (okey 0x1200 0x12) (.uint 3) 31 0 true 0xFE 0xFE (.num 0),  -- Hot restart count
  obj (okey 0x1200 0x13) (.uint 1) 31 0 false 0xFE 0xFE (.num 0),  -- Running image
  obj (okey 0x1200 0x14) (.octets 48) 31 0 false 0xFE 0xFE (.octets (List.replicate 48 0)),  -- Image digest
  obj (okey 0x1200 0x15) (.octets 48) 31 0 false 0xFE 0xFE (.octets (List.replicate 48 0)),  -- Policy digest
  obj (okey 0x1200 0x16) (.uint 1) 31 0 false 0xFE 0xFE (.num 0),  -- Option-area status
  obj (okey 0x1200 0x17) (.uint 3) 31 0 true 0xFE 0xFE (.num 0),  -- Ignored board boots
  obj (okey 0x1200 0x18) (.uint 6) 31 0 false 0xFE 0xFE (.num 0),  -- Option-area generation
  obj (okey 0x1200 0x19) (.uint 3) 31 0 false 0xFE 0xFE (.num 0),  -- Minimum security version
  obj (okey 0x1200 0x20) (.uint 3) 31 10 true 0xFE 0xFE (.num 14400),  -- Maintain limit
  obj (okey 0x1200 0x21) (.uint 3) 31 8 true 0xFE 0xFE (.num 1800),  -- Ceremony limit
  obj (okey 0x1200 0x22) (.bool) 31 8 true 0xFE 0xFE (.num 1),  -- Board boot on PE_PERST_N
  obj (okey 0x1200 0x40) (.uint 2) 31 8 true 0xFE 0x24 (.num 0),  -- Hold-enable mask
  obj (okey 0x1200 0x41) (.words 16) 31 8 true 0xFE 0x24 (.words (List.replicate 16 0))  -- Hold release entries
]

/-- Objects of spec/03_modes_and_startup.md, part 2. -/
def objects03_2 : List Desc := [
  obj (okey 0x7000 0x01) (.octets 2) 31 0 false 0xA0 0xA0 (.octets (List.replicate 2 0)),  -- Image status
  obj (okey 0x7000 0x02) (.octets 6) 31 0 false 0xA0 0xA0 (.octets (List.replicate 6 0)),  -- Image versions
  obj (okey 0x7000 0x03) (.domain 3145728) 0 10 false 0xA0 0xA0 (.octets []),  -- Image staging
  obj (okey 0x7000 0x04) (.cmd) 31 10 false 0xA0 0xA0 (.cmd 0 0),  -- Install image
  obj (okey 0x7000 0x05) (.cmd) 31 10 false 0xA0 0xA0 (.cmd 0 0),  -- Install from card
  obj (okey 0x7000 0x06) (.uint 1) 31 10 true 0xA0 0xA0 (.num 3)  -- Trial starts
]

/-- Objects of channel n (spec/04_measurement_channels.md), part 1. -/
def channelObjects1(n : Nat) : List Desc := [
  obj (okey (0x2000 + 0x100 * n + 0x00) 0x01) (.words 2) 31 8 true 0xFE 0x24 (.words builtInDescriptor),  -- Channel descriptor
  obj (okey (0x2000 + 0x100 * n + 0x00) 0x02) (.uint 1) 31 8 true 0xFE 0x24 (.num 0),  -- Region count
  obj (okey (0x2000 + 0x100 * n + 0x00) 0x03) (.words 128) 31 8 true 0xFE 0x24 (.words (List.replicate 128 0)),  -- Region table
  obj (okey (0x2000 + 0x100 * n + 0x00) 0x04) (.octets 192) 31 8 true 0xFE 0x44 (.octets (List.replicate 192 0)),  -- Manifest anchors
  obj (okey (0x2000 + 0x100 * n + 0x00) 0x05) (.octets 32) 31 8 true 0xFE 0x24 (.octets (List.replicate 32 0)),  -- Flash entry sequence
  obj (okey (0x2000 + 0x100 * n + 0x01) 0x01) (.domain 32768) 31 10 true 0xFE 0xFE (.octets []),  -- Manifest slot 0–7
  obj (okey (0x2000 + 0x100 * n + 0x01) 0x02) (.domain 32768) 31 10 true 0xFE 0xFE (.octets []),  -- Manifest slot 0–7
  obj (okey (0x2000 + 0x100 * n + 0x01) 0x03) (.domain 32768) 31 10 true 0xFE 0xFE (.octets []),  -- Manifest slot 0–7
  obj (okey (0x2000 + 0x100 * n + 0x01) 0x04) (.domain 32768) 31 10 true 0xFE 0xFE (.octets []),  -- Manifest slot 0–7
  obj (okey (0x2000 + 0x100 * n + 0x01) 0x05) (.domain 32768) 31 10 true 0xFE 0xFE (.octets []),  -- Manifest slot 0–7
  obj (okey (0x2000 + 0x100 * n + 0x01) 0x06) (.domain 32768) 31 10 true 0xFE 0xFE (.octets []),  -- Manifest slot 0–7
  obj (okey (0x2000 + 0x100 * n + 0x01) 0x07) (.domain 32768) 31 10 true 0xFE 0xFE (.octets []),  -- Manifest slot 0–7
  obj (okey (0x2000 + 0x100 * n + 0x01) 0x08) (.domain 32768) 31 10 true 0xFE 0xFE (.octets []),  -- Manifest slot 0–7
  obj (okey (0x2000 + 0x100 * n + 0x01) 0x11) (.uint 6) 31 0 true 0xFE 0xFE (.num 0),  -- Slot minimum version
  obj (okey (0x2000 + 0x100 * n + 0x01) 0x12) (.uint 6) 31 0 true 0xFE 0xFE (.num 0),  -- Slot minimum version
  obj (okey (0x2000 + 0x100 * n + 0x01) 0x13) (.uint 6) 31 0 true 0xFE 0xFE (.num 0),  -- Slot minimum version
  obj (okey (0x2000 + 0x100 * n + 0x01) 0x14) (.uint 6) 31 0 true 0xFE 0xFE (.num 0),  -- Slot minimum version
  obj (okey (0x2000 + 0x100 * n + 0x01) 0x15) (.uint 6) 31 0 true 0xFE 0xFE (.num 0),  -- Slot minimum version
  obj (okey (0x2000 + 0x100 * n + 0x01) 0x16) (.uint 6) 31 0 true 0xFE 0xFE (.num 0),  -- Slot minimum version
  obj (okey (0x2000 + 0x100 * n + 0x01) 0x17) (.uint 6) 31 0 true 0xFE 0xFE (.num 0),  -- Slot minimum version
  obj (okey (0x2000 + 0x100 * n + 0x01) 0x18) (.uint 6) 31 0 true 0xFE 0xFE (.num 0),  -- Slot minimum version
  obj (okey (0x2000 + 0x100 * n + 0x02) 0x01) (.uint 1) 31 0 false 0xFE 0xFE (.num 0),  -- Channel phase
  obj (okey (0x2000 + 0x100 * n + 0x02) 0x02) (.cmd) 31 10 false 0x70 0x70 (.cmd 0 0),  -- Host port Enable
  obj (okey (0x2000 + 0x100 * n + 0x02) 0x03) (.cmd) 31 10 false 0x70 0x70 (.cmd 0 0)  -- Host port Disable
]

/-- Objects of channel n (spec/04_measurement_channels.md), part 2. -/
def channelObjects2(n : Nat) : List Desc := [
  obj (okey (0x2000 + 0x100 * n + 0x02) 0x04) (.uint 1) 31 0 false 0xFE 0xFE (.num 2),  -- Host port state
  obj (okey (0x2000 + 0x100 * n + 0x02) 0x05) (.cmd) 31 8 false 0x10 0x10 (.cmd 0 0),  -- Halt override
  obj (okey (0x2000 + 0x100 * n + 0x02) 0x06) (.uint 1) 31 0 false 0xFE 0xFE (.num 0),  -- Host protocol in use
  obj (okey (0x2000 + 0x100 * n + 0x02) 0x07) (.uint 2) 31 0 false 0xFE 0xFE (.num 0),  -- Announced dummy counts
  obj (okey (0x2000 + 0x100 * n + 0x02) 0x08) (.uint 3) 31 0 true 0xFE 0xFE (.num 0),  -- Restart count
  obj (okey (0x2000 + 0x100 * n + 0x02) 0x09) (.uint 3) 31 0 false 0xFE 0xFE (.num 0),  -- 1-1-1 clock limit
  obj (okey (0x2000 + 0x100 * n + 0x02) 0x0A) (.uint 3) 31 0 false 0xFE 0xFE (.num 0),  -- Commons reserved
  obj (okey (0x2000 + 0x100 * n + 0x03) 0x01) (.octets 64) 31 0 false 0xFE 0xFE (.octets (List.replicate 64 0)),  -- Region verdicts
  obj (okey (0x2000 + 0x100 * n + 0x03) 0x02) (.domain 4096) 31 0 false 0xFE 0xFE (.octets []),  -- Region digests
  obj (okey (0x2000 + 0x100 * n + 0x04) 0x01) (.uint 6) 31 0 false 0xFE 0xFE (.num 0),  -- Host reads
  obj (okey (0x2000 + 0x100 * n + 0x04) 0x02) (.uint 6) 31 0 false 0xFE 0xFE (.num 0),  -- Octets served from flash
  obj (okey (0x2000 + 0x100 * n + 0x04) 0x03) (.uint 6) 31 0 false 0xFE 0xFE (.num 0),  -- Octets served from commons
  obj (okey (0x2000 + 0x100 * n + 0x04) 0x04) (.uint 6) 31 0 false 0xFE 0xFE (.num 0),  -- Commands forwarded
  obj (okey (0x2000 + 0x100 * n + 0x04) 0x05) (.uint 6) 31 0 false 0xFE 0xFE (.num 0),  -- Commands refused
  obj (okey (0x2000 + 0x100 * n + 0x04) 0x06) (.uint 6) 31 0 false 0xFE 0xFE (.num 0),  -- Protocol errors and unknown commands
  obj (okey (0x2000 + 0x100 * n + 0x04) 0x07) (.uint 6) 31 0 false 0xFE 0xFE (.num 0),  -- Flash timeouts
  obj (okey (0x2000 + 0x100 * n + 0x04) 0x08) (.uint 6) 31 0 true 0xFE 0xFE (.num 0),  -- Late reads
  obj (okey (0x2000 + 0x100 * n + 0x04) 0x09) (.uint 6) 31 0 false 0xFE 0xFE (.num 0),  -- Background preemptions
  obj (okey (0x2000 + 0x100 * n + 0x05) 0x01) (.uq 8 8) 31 0 false 0xFE 0xFE (.num 0),  -- Tap size
  obj (okey (0x2000 + 0x100 * n + 0x05) 0x02) (.uint 1) 31 0 false 0xFE 0xFE (.num 0),  -- Delay setting
  obj (okey (0x2000 + 0x100 * n + 0x05) 0x03) (.uint 1) 31 0 false 0xFE 0xFE (.num 0),  -- Window width
  obj (okey (0x2000 + 0x100 * n + 0x05) 0x04) (.uint 6) 31 0 false 0xFE 0xFE (.num 0),  -- Trainings
  obj (okey (0x2000 + 0x100 * n + 0x06) 0x01) (.octets 176) 31 0 false 0xFE 0xFE (.octets (List.replicate 176 0)),  -- Presented SFDP, CS0
  obj (okey (0x2000 + 0x100 * n + 0x06) 0x02) (.octets 176) 31 0 false 0xFE 0xFE (.octets (List.replicate 176 0))  -- Presented SFDP, CS1
]

/-- Objects of spec/05_read_consistency.md, part 1. -/
def objects05_1 : List Desc := [
  obj (okey 0x2C00 0x01) (.uint 3) 31 10 true 0xFE 0xFE (.num 10000),  -- Round age limit
  obj (okey 0x2C00 0x02) (.words 12) 31 0 false 0xFE 0xFE (.words (List.replicate 12 0)),  -- Rounds compared
  obj (okey 0x2C00 0x03) (.words 12) 31 0 false 0xFE 0xFE (.words (List.replicate 12 0)),  -- Rounds completed by fill-in
  obj (okey 0x2C00 0x04) (.words 12) 31 0 false 0xFE 0xFE (.words (List.replicate 12 0)),  -- Mismatches
  obj (okey 0x2C00 0x05) (.words 12) 31 0 false 0xFE 0xFE (.words (List.replicate 12 0)),  -- Unchecked octets
  obj (okey 0x2C00 0x06) (.words 12) 31 0 false 0xFE 0xFE (.words (List.replicate 12 0)),  -- Excluded pages
  obj (okey 0x2C00 0x07) (.words 12) 31 0 false 0xFE 0xFE (.words (List.replicate 12 0)),  -- Abandoned rounds
  obj (okey 0x2C00 0x08) (.words 12) 31 0 false 0xFE 0xFE (.words (List.replicate 12 0)),  -- Fill-in octets
  obj (okey 0x2C00 0x09) (.words 12) 31 0 false 0xFE 0xFE (.words (List.replicate 12 0)),  -- Pages armed
  obj (okey 0x2C00 0x0A) (.uint 3) 31 0 false 0xFE 0xFE (.num 0),  -- Entries allocated
  obj (okey 0x2C00 0x0B) (.octets 16) 31 0 false 0xFE 0xFE (.octets (List.replicate 16 0)),  -- Last mismatch
  obj (okey 0x2C00 0x0C) (.domain 576) 31 0 true 0xFE 0xFE (.octets []),  -- Previous-boot statistics
  obj (okey 0x2C00 0x20) (.cmd) 31 10 false 0x70 0x70 (.cmd 0 0)  -- Sweep
]

/-- Objects of spec/06_device_attestation.md, part 1. -/
def objects06_1 : List Desc := [
  obj (okey 0x3000 0x01) (.words 128) 31 8 true 0xFE 0x24 (.words (List.replicate 128 0)),  -- Responder slot table
  obj (okey 0x3000 0x02) (.domain 3072) 31 8 true 0xFE 0x24 (.octets (List.replicate 3072 0)),  -- Expected measurement digests
  obj (okey 0x3000 0x03) (.octets 384) 31 8 true 0xFE 0x44 (.octets (List.replicate 384 0)),  -- Certificate anchors
  obj (okey 0x3000 0x04) (.uint 3) 31 10 true 0xFE 0xFE (.num 600),  -- Serve collection window
  obj (okey 0x3000 0x10) (.octets 64) 31 0 false 0xFE 0xFE (.octets (List.replicate 64 0)),  -- Slot outcomes
  obj (okey 0x3000 0x11) (.uint 1) 31 0 false 0xFE 0xFE (.num 0),  -- Collection phase
  obj (okey 0x3000 0x12) (.uint 1) 15 15 false 0xFE 0xFE (.num 0),  -- Transcript selector
  obj (okey 0x3000 0x13) (.domain 16777215) 15 0 false 0xFE 0xFE (.octets []),  -- Transcript
  obj (okey 0x3000 0x14) (.domain 3072) 31 0 true 0xFE 0xFE (.octets (List.replicate 3072 0)),  -- Cached chain digests
  obj (okey 0x3000 0x15) (.uint 1) 31 0 false 0xFE 0xFE (.num 0),  -- Own PCIe endpoint ID
  obj (okey 0x3000 0x20) (.cmd) 31 8 false 0x10 0x10 (.cmd 0 0),  -- Attestation hold override
  obj (okey 0x3000 0x21) (.cmd) 31 10 false 0xFE 0xFE (.cmd 0 0),  -- Close serve collection
  obj (okey 0x3000 0x30) (.uint 6) 31 0 true 0xFE 0xFE (.num 0)  -- Requests answered as responder
]

/-- Objects of spec/07_boot_ledger.md, part 1. -/
def objects07_1 : List Desc := [
  obj (okey 0x3100 0x01) (.uint 6) 31 0 false 0xFE 0xFE (.num 0),  -- Last committed sequence
  obj (okey 0x3100 0x02) (.uint 6) 31 0 true 0xFE 0xFE (.num 0),  -- Export-through sequence
  obj (okey 0x3100 0x03) (.uint 6) 31 0 false 0xFE 0xFE (.num 0),  -- Tail sequence
  obj (okey 0x3100 0x04) (.uint 6) 31 0 true 0xFE 0xFE (.num 0),  -- Gate count
  obj (okey 0x3100 0x05) (.uint 2) 31 0 true 0xFE 0xFE (.num 0),  -- Key generation
  obj (okey 0x3100 0x06) (.octets 2689) 31 0 false 0xFE 0xFE (.octets (List.replicate 2689 0)),  -- Ledger public keys
  obj (okey 0x3100 0x07) (.uint 1) 31 8 true 0xFE 0x44 (.num 0),  -- Fill policy
  obj (okey 0x3100 0x08) (.uint 1) 31 10 true 0xFE 0xFE (.num 75),  -- High-water threshold
  obj (okey 0x3100 0x09) (.uint 6) 31 0 false 0xFE 0xFE (.num 0),  -- Unexported octets
  obj (okey 0x3100 0x0A) (.uint 3) 31 10 true 0xFE 0xFE (.num 3600),  -- Supplement period
  obj (okey 0x3100 0x0B) (.uint 1) 31 8 true 0xFE 0xFE (.num 7),  -- Archival paths
  obj (okey 0x3100 0x0C) (.uint 6) 31 0 true 0xFE 0xFE (.num 0),  -- Dropped unexported
  obj (okey 0x3100 0x0D) (.uint 6) 31 0 true 0xFE 0xFE (.num 0),  -- Voided records
  obj (okey 0x3100 0x0E) (.uint 1) 31 0 false 0xFE 0xFE (.num 0),  -- Ledger state
  obj (okey 0x3100 0x0F) (.octets 48) 31 0 false 0xFE 0xFE (.octets (List.replicate 48 0)),  -- Last record hash
  obj (okey 0x3100 0x10) (.uint 6) 31 31 false 0xFE 0xFE (.num 1),  -- Window cursor
  obj (okey 0x3100 0x11) (.domain 65536) 31 0 false 0xFE 0xFE (.octets []),  -- Window record
  obj (okey 0x3100 0x13) (.cmd) 31 14 false 0xFE 0xFE (.cmd 0 0),  -- Acknowledge export
  obj (okey 0x3100 0x20) (.cmd) 31 10 false 0x70 0x70 (.cmd 0 0),  -- Supplement request
  obj (okey 0x3100 0x21) (.cmd) 31 8 false 0x40 0x40 (.cmd 0 0),  -- Ledger-key rollover
  obj (okey 0x3100 0x22) (.bool) 31 10 true 0xFE 0xFE (.num 0),  -- Card archive
  obj (okey 0x3100 0x30) (.octets 208) 31 0 false 0xFE 0xFE (.octets (List.replicate 208 0))  -- Tag summary
]

/-- Objects of spec/08_job_hub.md, part 1. -/
def objects08_1 : List Desc := [
  obj (okey 0x4000 0x01) (.uint 3) 31 0 false 0xFE 0xFE (.num 0),  -- Slots in use
  obj (okey 0x4000 0x02) (.uint 3) 31 0 false 0xFE 0xFE (.num 0),  -- Slots high-water
  obj (okey 0x4000 0x03) (.uint 6) 31 0 true 0xFE 0xFE (.num 0),  -- JH_STALE_COUNT
  obj (okey 0x4000 0x04) (.uint 6) 31 0 true 0xFE 0xFE (.num 0),  -- Re-placements
  obj (okey 0x4000 0x05) (.uint 6) 31 0 false 0xFE 0xFE (.num 0),  -- Suspensions
  obj (okey 0x4000 0x06) (.uint 6) 31 0 false 0xFE 0xFE (.num 0),  -- Full refusals
  obj (okey 0x4000 0x07) (.uint 6) 31 0 true 0xFE 0xFE (.num 0),  -- Migration-limit failures
  obj (okey 0x4000 0x08) (.words 6) 31 0 false 0xFE 0xFE (.words (List.replicate 6 0)),  -- Ready jobs per class
  obj (okey 0x4000 0x09) (.uint 6) 31 0 false 0xFE 0xFE (.num 0),  -- Instances in service
  obj (okey 0x4000 0x10) (.uint 3) 31 10 true 0xFE 0xFE (.num 1000),  -- Aging period
  obj (okey 0x4000 0x11) (.octets 6) 31 8 true 0xFE 0x24 (.octets [2, 0, 1, 0, 0, 0x80]),  -- Window quotas
  obj (okey 0x4000 0x12) (.bool) 31 8 true 0xFE 0xFE (.num 1)  -- Bound-lane sharing
]

/-- Objects of spec/09_hash_and_cipher_lanes.md, part 1. -/
def objects09_1 : List Desc := [
  obj (okey 0x4100 0x01) (.words 18) 31 0 true 0xFE 0xFE (.words (List.replicate 18 0)),  -- Lane faults
  obj (okey 0x4100 0x02) (.words 18) 31 0 true 0xFE 0xFE (.words (List.replicate 18 0)),  -- Self-test failures
  obj (okey 0x4100 0x03) (.uint 3) 31 10 true 0xFE 0xFE (.num 3600),  -- Self-test period
  obj (okey 0x4100 0x04) (.cmd) 31 10 false 0x70 0x70 (.cmd 0 0),  -- Run self-test
  obj (okey 0x4100 0x05) (.words 18) 31 0 false 0xFE 0xFE (.words (List.replicate 18 0)),  -- Octets processed
  obj (okey 0x4100 0x06) (.uint 6) 31 0 true 0xFE 0xFE (.num 0),  -- Bound-stream jobs
  obj (okey 0x4100 0x07) (.octets 12) 31 0 false 0xFE 0xFE (.octets [0, 1, 2, 3, 4, 5, 6, 7, 8, 9, 10, 11]),  -- Channel hashing lanes
  obj (okey 0x4100 0x08) (.uint 6) 31 0 false 0xFE 0xFE (.num 0),  -- Context seals
  obj (okey 0x4100 0x09) (.uint 6) 31 0 true 0xFE 0xFE (.num 0)  -- Context failures
]

/-- Objects of spec/10_public_key_and_lattice.md, part 1. -/
def objects10_1 : List Desc := [
  obj (okey 0x4200 0x01) (.octets 16) 31 0 false 0xFE 0xFE (.octets [1, 1, 1, 1, 1, 0, 0, 0, 0, 0, 0, 0, 0, 0, 0, 0]),  -- Curve slot status
  obj (okey 0x4200 0x02) (.words 3) 31 0 false 0xFE 0xFE (.words (List.replicate 3 0)),  -- Operations completed
  obj (okey 0x4200 0x03) (.uint 3) 31 10 true 0xFE 0xFE (.num 3600),  -- Self-test period
  obj (okey 0x4200 0x04) (.cmd) 31 10 false 0x70 0x70 (.cmd 0 0),  -- Run self-test
  obj (okey 0x4200 0x05) (.words 3) 31 0 true 0xFE 0xFE (.words (List.replicate 3 0)),  -- Detected faults
  obj (okey 0x4200 0x06) (.uint 6) 31 0 false 0xFE 0xFE (.num 0),  -- ML-DSA iterations
  obj (okey 0x4200 0x07) (.uint 6) 31 0 true 0xFE 0xFE (.num 0),  -- Iteration-limit failures
  obj (okey 0x4200 0x10) (.domain 404) 31 8 true 0xFE 0x44 (.octets []),  -- Loadable curve 8–15
  obj (okey 0x4200 0x11) (.domain 404) 31 8 true 0xFE 0x44 (.octets []),  -- Loadable curve 8–15
  obj (okey 0x4200 0x12) (.domain 404) 31 8 true 0xFE 0x44 (.octets []),  -- Loadable curve 8–15
  obj (okey 0x4200 0x13) (.domain 404) 31 8 true 0xFE 0x44 (.octets []),  -- Loadable curve 8–15
  obj (okey 0x4200 0x14) (.domain 404) 31 8 true 0xFE 0x44 (.octets []),  -- Loadable curve 8–15
  obj (okey 0x4200 0x15) (.domain 404) 31 8 true 0xFE 0x44 (.octets []),  -- Loadable curve 8–15
  obj (okey 0x4200 0x16) (.domain 404) 31 8 true 0xFE 0x44 (.octets []),  -- Loadable curve 8–15
  obj (okey 0x4200 0x17) (.domain 404) 31 8 true 0xFE 0x44 (.octets []),  -- Loadable curve 8–15
  obj (okey 0x4200 0x18) (.octets 768) 31 0 true 0xFE 0xFE (.octets (List.replicate 768 0)),  -- Curve digests
  obj (okey 0x4200 0x1F) (.uint 1) 31 0 false 0xFE 0xFE (.num 0)  -- Last failed curve check
]

/-- Objects of spec/11_keys_and_entropy.md, part 1. -/
def objects11_1 : List Desc := [
  obj (okey 0x5000 0x01) (.uint 2) 31 0 false 0xFE 0xFE (.num 0),  -- Slots in use
  obj (okey 0x5000 0x02) (.octets 32) 31 0 false 0xFE 0xFE (.octets (List.replicate 32 0)),  -- Slot map
  obj (okey 0x5000 0x03) (.uint 2) 31 0 true 0xFE 0xFE (.num 1),  -- Blob generation
  obj (okey 0x5000 0x04) (.uint 2) 31 0 true 0xFE 0xFE (.num 1),  -- Minimum blob generation
  obj (okey 0x5000 0x05) (.bool) 31 0 false 0xFE 0xFE (.num 0),  -- Vigil root present
  obj (okey 0x5000 0x06) (.octets 2689) 31 0 false 0x06 0x06 (.octets (List.replicate 2689 0)),  -- Manufacture public keys
  obj (okey 0x5000 0x07) (.domain 16777215) 31 0 true 0xFE 0xFE (.octets []),  -- Device identity certificate
  obj (okey 0x5000 0x08) (.domain 16777215) 31 16 true 0xFE 0x02 (.octets []),  -- Manufacture certificate
  obj (okey 0x5000 0x09) (.domain 16777215) 31 0 true 0xFE 0xFE (.octets []),  -- First-layer certificate
  obj (okey 0x5000 0x0A) (.uint 6) 31 0 true 0xFE 0xFE (.num 0),  -- Wraps in generation
  obj (okey 0x5000 0x0B) (.uint 6) 31 0 true 0xFE 0xFE (.num 0),  -- Unwrap failures
  obj (okey 0x5000 0x0C) (.uint 3) 31 0 true 0xFE 0xFE (.num 0),  -- Erase-line events
  obj (okey 0x5000 0x20) (.cmd) 31 8 false 0x40 0x40 (.cmd 0 0),  -- Advance blob generation
  obj (okey 0x5000 0x21) (.cmd) 31 8 false 0x40 0x40 (.cmd 0 0),  -- Raise minimum generation
  obj (okey 0x5000 0x22) (.cmd) 31 8 false 0x70 0x70 (.cmd 0 0),  -- Zeroise
  obj (okey 0x5100 0x01) (.uint 1) 31 0 false 0xFE 0xFE (.num 0),  -- DRBG state
  obj (okey 0x5100 0x02) (.uint 1) 31 0 false 0xFE 0xFE (.num 0),  -- Cells in service
  obj (okey 0x5100 0x03) (.octets 8) 31 16 true 0xFE 0x02 (.octets (beOctets 8 Config.assessedEntropy.toNat)),  -- Vendor assessed entropy
  obj (okey 0x5100 0x04) (.octets 8) 31 24 true 0xFE 0x44 (.octets (beOctets 8 Config.assessedEntropy.toNat)),  -- In-use assessed entropy
  obj (okey 0x5100 0x05) (.octets 8) 31 16 true 0xFE 0x02 (.octets (beOctets 8 Config.proportionCutoffs.toNat)),  -- Proportion-test cutoffs
  obj (okey 0x5100 0x06) (.words 4) 31 0 true 0xFE 0xFE (.words (List.replicate 4 0)),  -- Health-test failures
  obj (okey 0x5100 0x07) (.words 4) 31 0 false 0xFE 0xFE (.words (List.replicate 4 0)),  -- Blocks released
  obj (okey 0x5100 0x08) (.uint 3) 31 0 false 0xFE 0xFE (.num 0),  -- Calls since reseed
  obj (okey 0x5100 0x09) (.uint 3) 31 10 true 0xFE 0xFE (.num 65536)  -- Reseed interval
]

/-- Objects of spec/11_keys_and_entropy.md, part 2. -/
def objects11_2 : List Desc := [
  obj (okey 0x5100 0x0A) (.uint 6) 31 0 false 0xFE 0xFE (.num 0),  -- Reseeds
  obj (okey 0x5100 0x0B) (.uint 2) 31 0 false 0xFE 0xFE (.num 0),  -- Queue level
  obj (okey 0x5100 0x10) (.uint 6) 31 16 false 0xFE 0xFE (.num 0),  -- Test pattern
  obj (okey 0x5100 0x11) (.bool) 31 16 false 0xFE 0x02 (.num 0),  -- Test pattern enable
  obj (okey 0x5100 0x12) (.domain 131072) 31 0 false 0x02 0x02 (.octets []),  -- Raw capture
  obj (okey 0x5100 0x13) (.uint 1) 31 16 false 0xFE 0x02 (.num 0)  -- Raw capture cell
]

/-- Objects of spec/12_tamper_and_evidence.md, part 1. -/
def objects12_1 : List Desc := [
  obj (okey 0x6000 0x01) (.octets 18) 31 0 false 0xFE 0xFE (.octets (List.replicate 18 0)),  -- Readings
  obj (okey 0x6000 0x02) (.octets 18) 31 0 false 0xFE 0xFE (.octets (List.replicate 18 0)),  -- Raw codes
  obj (okey 0x6000 0x03) (.words 9) 31 0 true 0xFE 0xFE (.words (beWords 9 (beOctets 54 Config.factoryCalibration.toNat))),  -- Calibration
  obj (okey 0x6000 0x04) (.words 9) 31 0 true 0xFE 0xFE (.words (beWords 9 (beOctets 54 Config.factoryCalibration.toNat))),  -- Factory calibration
  obj (okey 0x6000 0x05) (.octets 36) 31 0 true 0xFE 0xFE (.octets (beOctets 36 Config.referenceValues.toNat)),  -- Reference values
  obj (okey 0x6000 0x06) (.octets 72) 31 8 true 0xFE 0x44 (.octets defaultThresholds),  -- Thresholds
  obj (okey 0x6000 0x07) (.uint 1) 31 8 true 0xFE 0x44 (.num 3),  -- Confirmation count
  obj (okey 0x6000 0x08) (.uint 3) 31 10 true 0xFE 0xFE (.num 600),  -- Recalibration period
  obj (okey 0x6000 0x09) (.uint 1) 31 8 true 0xFE 0x44 (.num 0),  -- Meshes fitted
  obj (okey 0x6000 0x0A) (.uint 1) 31 8 true 0xFE 0x44 (.num 0),  -- Switches fitted
  obj (okey 0x6000 0x0B) (.uint 1) 31 8 true 0xFE 0x44 (.num 0),  -- Switch polarity
  obj (okey 0x6000 0x0C) (.octets 32) 31 0 false 0xFE 0xFE (.octets (List.replicate 32 0)),  -- Source states
  obj (okey 0x6100 0x01) (.octets 32) 31 8 true 0xFE 0x70 (.octets (defaultResponses.map (BitVec.ofNat 8))),  -- Responses
  obj (okey 0x6100 0x02) (.octets 32) 31 0 true 0xFE 0xFE (.octets (minimumResponses.map (BitVec.ofNat 8))),  -- Minimum responses
  obj (okey 0x6100 0x03) (.octets 32) 31 0 true 0xFE 0xFE (.octets (defaultResponses.map (BitVec.ofNat 8))),  -- Default responses
  obj (okey 0x6100 0x04) (.uint 1) 31 0 false 0xFE 0xFE (.num 0),  -- Applied response
  obj (okey 0x6100 0x05) (.uint 3) 31 0 false 0xFE 0xFE (.num 0),  -- Sticky flags
  obj (okey 0x6100 0x06) (.octets 2) 31 0 true 0xFE 0xFE (.octets (List.replicate 2 0)),  -- Lock cause
  obj (okey 0x6100 0x07) (.words 32) 31 0 true 0xFE 0xFE (.words (List.replicate 32 0)),  -- Raisings
  obj (okey 0x6100 0x20) (.cmd) 31 8 false 0xFE 0xFE (.cmd 0 0),  -- Clear restraint
  obj (okey 0x6100 0x30) (.cmd) 31 10 false 0x00 0x00 (.cmd 0 0),  -- Unlock
  obj (okey 0x6100 0x31) (.uint 3) 31 0 true 0xFE 0xFE (.num 0),  -- Failed unlocks
  obj (okey 0x6100 0x40) (.cmd) 31 8 false 0x30 0x30 (.cmd 0 0),  -- Cell-change window
  obj (okey 0x6100 0x41) (.uint 3) 31 0 false 0xFE 0xFE (.num 0)  -- Window remaining
]

/-- Objects of spec/12_tamper_and_evidence.md, part 2. -/
def objects12_2 : List Desc := [
  obj (okey 0x6200 0x01) (.uint 6) 31 0 false 0xFE 0xFE (.num 0),  -- Head
  obj (okey 0x6200 0x02) (.uint 6) 31 0 false 0xFE 0xFE (.num 0),  -- Tail
  obj (okey 0x6200 0x03) (.uint 6) 31 31 false 0xFE 0xFE (.num 1),  -- Cursor
  obj (okey 0x6200 0x04) (.domain 1014) 31 0 false 0xFE 0xFE (.octets []),  -- Window
  obj (okey 0x6200 0x05) (.cmd) 31 10 false 0xFE 0xFE (.cmd 0 0),  -- Flush
  obj (okey 0x6200 0x06) (.cmd) 31 14 false 0xFE 0xFE (.cmd 0 0),  -- Acknowledge export
  obj (okey 0x6200 0x07) (.uint 6) 31 0 true 0xFE 0xFE (.num 0),  -- Export-through
  obj (okey 0x6200 0x08) (.uint 6) 31 0 true 0xFE 0xFE (.num 0),  -- Overwritten unexported
  obj (okey 0x6200 0x09) (.uint 6) 31 0 true 0xFE 0xFE (.num 0),  -- Lost at power fail
  obj (okey 0x6200 0x0A) (.uint 6) 31 0 true 0xFE 0xFE (.num 0),  -- Discarded records
  obj (okey 0x6200 0x0B) (.cmd) 31 14 false 0xFE 0xFE (.cmd 0 0),  -- Verify chain
  obj (okey 0x6200 0x0C) (.uint 6) 31 0 false 0xFE 0xFE (.num 0)  -- First broken
]

/-- Objects of spec/14_privilege_exceptions_gauntlet.md, part 1. -/
def objects14_1 : List Desc := [
  obj (okey 0x7000 0x20) (.words 4) 31 0 true 0xFE 0xFE (.words (List.replicate 4 0)),  -- Double faults
  obj (okey 0x7000 0x21) (.words 4) 31 0 true 0xFE 0xFE (.words (List.replicate 4 0)),  -- Pair resets by fault
  obj (okey 0x7200 0x01) (.words 14) 31 0 true 0xFE 0xFE (.words (List.replicate 14 0)),  -- Refusals
  obj (okey 0x7200 0x02) (.octets 14) 31 0 false 0xFE 0xFE (.octets (List.replicate 14 0)),  -- Rule epochs
  obj (okey 0x7200 0x03) (.domain 2688) 31 0 false 0xFE 0xFE (.octets []),  -- Rules in force
  obj (okey 0x7200 0x10) (.cmd) 31 10 false 0xFE 0xFE (.cmd 0 0)  -- GATE_FENCE
]

/-- Objects of spec/15_embedded_flash.md, part 1. -/
def objects15_1 : List Desc := [
  obj (okey 0x7300 0x01) (.uint 1) 31 0 false 0xFE 0xFE (.num 0),  -- Bank states
  obj (okey 0x7300 0x02) (.uint 3) 31 0 false 0xFE 0xFE (.num 0),  -- Erase-open sectors
  obj (okey 0x7300 0x03) (.domain 8192) 31 0 true 0xFE 0xFE (.octets (List.replicate 8192 0)),  -- Erase counts
  obj (okey 0x7300 0x04) (.octets 128) 31 0 true 0xFE 0xFE (.octets (List.replicate 128 0)),  -- Remapped sectors
  obj (okey 0x7300 0x05) (.uint 1) 31 0 false 0xFE 0xFE (.num 32),  -- Free spares
  obj (okey 0x7300 0x06) (.uint 6) 31 0 true 0xFE 0xFE (.num 0),  -- Refreshes
  obj (okey 0x7300 0x07) (.uint 6) 31 0 true 0xFE 0xFE (.num 0),  -- Margin failures
  obj (okey 0x7300 0x08) (.time) 31 0 true 0xFE 0xFE (.num 0),  -- Last pass completed
  obj (okey 0x7300 0x09) (.domain 24576) 31 0 true 0xFE 0xFE (.octets (List.replicate 24576 0)),  -- Last margin times
  obj (okey 0x7300 0x0B) (.uint 1) 31 0 false 0xFE 0xFE (.num 0),  -- Direct path state
  obj (okey 0x7300 0x0C) (.uint 3) 31 0 true 0xFE 0xFE (.num 0),  -- Key sequence failures
  obj (okey 0x7300 0x0D) (.words 8) 31 0 false 0xFE 0xFE (.words (List.replicate 8 0)),  -- Counter values
  obj (okey 0x7300 0x10) (.cmd) 31 10 false 0x70 0x70 (.cmd 0 0),  -- Margin pass
  obj (okey 0x7300 0x11) (.uint 3) 31 8 true 0xFE 0xFE (.num 18000)  -- Wear warning
]

/-- Objects of spec/16_contactless.md, part 1. -/
def objects16_1 : List Desc := [
  obj (okey 0x8000 0x01) (.octets 7) 31 0 true 0xFE 0xFE (.octets (beOctets 7 Config.tagUid.toNat)),  -- UID
  obj (okey 0x8000 0x02) (.octets 96) 31 16 true 0xFE 0x02 (.octets (beOctets 96 Config.originSignature.toNat)),  -- Origin signature
  obj (okey 0x8000 0x03) (.cmd) 31 10 false 0xFE 0xFE (.cmd 0 0),  -- Tag Enable
  obj (okey 0x8000 0x04) (.cmd) 31 10 false 0xFE 0xFE (.cmd 0 0),  -- Tag Disable
  obj (okey 0x8000 0x05) (.uint 1) 31 0 false 0xFE 0xFE (.num 2),  -- Tag state
  obj (okey 0x8000 0x06) (.bool) 31 8 true 0xFE 0xFE (.num 1),  -- Answer without main power
  obj (okey 0x8000 0x07) (.uint 1) 31 10 true 0xFE 0xFE (.num 10),  -- Doff period
  obj (okey 0x8000 0x08) (.uint 1) 31 0 false 0xFE 0xFE (.num 0),  -- Doff remaining
  obj (okey 0x8000 0x09) (.cmd) 31 10 false 0xFE 0xFE (.cmd 0 0),  -- End Doff
  obj (okey 0x8000 0x0A) (.uint 6) 31 0 true 0xFE 0xFE (.num 0),  -- DOFF received
  obj (okey 0x8000 0x10) (.uint 1) 31 0 false 0xFE 0xFE (.num 0),  -- Presentation state
  obj (okey 0x8000 0x11) (.uint 1) 31 0 false 0xFE 0xFE (.num 0),  -- Presentation purpose
  obj (okey 0x8000 0x12) (.octets 2) 31 0 false 0xFE 0xFE (.octets [0xFF, 0xFF]),  -- Last glove pair
  obj (okey 0x8000 0x13) (.uint 3) 31 0 true 0xFE 0xFE (.num 0),  -- Token rejections
  obj (okey 0x8000 0x14) (.uint 6) 31 0 false 0xFE 0xFE (.num 0),  -- Polls skipped
  obj (okey 0x8000 0x20) (.octets 16) 31 0 true 0xFE 0xFE (.octets (List.replicate 16 0)),  -- Roster states
  obj (okey 0x8000 0x21) (.octets 768) 31 0 true 0xFE 0xFE (.octets (List.replicate 768 0)),  -- Roster key digests
  obj (okey 0x8000 0x22) (.domain 43024) 31 0 true 0xFE 0xFE (.octets []),  -- Roster keys
  obj (okey 0x8000 0x23) (.cmd) 31 8 false 0x40 0x40 (.cmd 0 0),  -- Roster add
  obj (okey 0x8000 0x24) (.cmd) 31 8 false 0x40 0x40 (.cmd 0 0),  -- Roster revoke
  obj (okey 0x8100 0x01) (.octets 32) 31 8 true 0xFE 0xFE (.octets (1 :: 1 :: List.replicate 30 5)),  -- Record attributes
  obj (okey 0x8100 0x02) (.uint 6) 31 0 false 0xFE 0xFE (.num 0),  -- Field-busy refusals
  obj (okey 0x8100 0x20) (.domain 1008) 31 0 false 0xFE 0xFE (.octets []),  -- Record 0
  obj (okey 0x8100 0x21) (.domain 1008) 31 0 false 0xFE 0xFE (.octets [])  -- Record 1
]

/-- Objects of spec/16_contactless.md, part 2. -/
def objects16_2 : List Desc := [
  obj (okey 0x8100 0x22) (.domain 1008) 31 10 false 0xFE 0xFE (.octets []),  -- Records 2–31
  obj (okey 0x8100 0x23) (.domain 1008) 31 10 false 0xFE 0xFE (.octets []),  -- Records 2–31
  obj (okey 0x8100 0x24) (.domain 1008) 31 10 false 0xFE 0xFE (.octets []),  -- Records 2–31
  obj (okey 0x8100 0x25) (.domain 1008) 31 10 false 0xFE 0xFE (.octets []),  -- Records 2–31
  obj (okey 0x8100 0x26) (.domain 1008) 31 10 false 0xFE 0xFE (.octets []),  -- Records 2–31
  obj (okey 0x8100 0x27) (.domain 1008) 31 10 false 0xFE 0xFE (.octets []),  -- Records 2–31
  obj (okey 0x8100 0x28) (.domain 1008) 31 10 false 0xFE 0xFE (.octets []),  -- Records 2–31
  obj (okey 0x8100 0x29) (.domain 1008) 31 10 false 0xFE 0xFE (.octets []),  -- Records 2–31
  obj (okey 0x8100 0x2A) (.domain 1008) 31 10 false 0xFE 0xFE (.octets []),  -- Records 2–31
  obj (okey 0x8100 0x2B) (.domain 1008) 31 10 false 0xFE 0xFE (.octets []),  -- Records 2–31
  obj (okey 0x8100 0x2C) (.domain 1008) 31 10 false 0xFE 0xFE (.octets []),  -- Records 2–31
  obj (okey 0x8100 0x2D) (.domain 1008) 31 10 false 0xFE 0xFE (.octets []),  -- Records 2–31
  obj (okey 0x8100 0x2E) (.domain 1008) 31 10 false 0xFE 0xFE (.octets []),  -- Records 2–31
  obj (okey 0x8100 0x2F) (.domain 1008) 31 10 false 0xFE 0xFE (.octets []),  -- Records 2–31
  obj (okey 0x8100 0x30) (.domain 1008) 31 10 false 0xFE 0xFE (.octets []),  -- Records 2–31
  obj (okey 0x8100 0x31) (.domain 1008) 31 10 false 0xFE 0xFE (.octets []),  -- Records 2–31
  obj (okey 0x8100 0x32) (.domain 1008) 31 10 false 0xFE 0xFE (.octets []),  -- Records 2–31
  obj (okey 0x8100 0x33) (.domain 1008) 31 10 false 0xFE 0xFE (.octets []),  -- Records 2–31
  obj (okey 0x8100 0x34) (.domain 1008) 31 10 false 0xFE 0xFE (.octets []),  -- Records 2–31
  obj (okey 0x8100 0x35) (.domain 1008) 31 10 false 0xFE 0xFE (.octets []),  -- Records 2–31
  obj (okey 0x8100 0x36) (.domain 1008) 31 10 false 0xFE 0xFE (.octets []),  -- Records 2–31
  obj (okey 0x8100 0x37) (.domain 1008) 31 10 false 0xFE 0xFE (.octets []),  -- Records 2–31
  obj (okey 0x8100 0x38) (.domain 1008) 31 10 false 0xFE 0xFE (.octets []),  -- Records 2–31
  obj (okey 0x8100 0x39) (.domain 1008) 31 10 false 0xFE 0xFE (.octets [])  -- Records 2–31
]

/-- Objects of spec/16_contactless.md, part 3. -/
def objects16_3 : List Desc := [
  obj (okey 0x8100 0x3A) (.domain 1008) 31 10 false 0xFE 0xFE (.octets []),  -- Records 2–31
  obj (okey 0x8100 0x3B) (.domain 1008) 31 10 false 0xFE 0xFE (.octets []),  -- Records 2–31
  obj (okey 0x8100 0x3C) (.domain 1008) 31 10 false 0xFE 0xFE (.octets []),  -- Records 2–31
  obj (okey 0x8100 0x3D) (.domain 1008) 31 10 false 0xFE 0xFE (.octets []),  -- Records 2–31
  obj (okey 0x8100 0x3E) (.domain 1008) 31 10 false 0xFE 0xFE (.octets []),  -- Records 2–31
  obj (okey 0x8100 0x3F) (.domain 1008) 31 10 false 0xFE 0xFE (.octets [])  -- Records 2–31
]

/-- Objects of spec/17_keeper_cards.md, part 1. -/
def objects17_1 : List Desc := [
  obj (okey 0x8200 0x01) (.cmd) 31 10 false 0xFE 0xFE (.cmd 0 0),  -- Bus Enable
  obj (okey 0x8200 0x02) (.cmd) 31 10 false 0xFE 0xFE (.cmd 0 0),  -- Bus Disable
  obj (okey 0x8200 0x03) (.uint 1) 31 0 false 0xFE 0xFE (.num 2),  -- Bus state
  obj (okey 0x8200 0x04) (.octets 80) 31 0 false 0xFE 0xFE (.octets (List.replicate 80 0)),  -- Card table
  obj (okey 0x8200 0x05) (.octets 24) 31 0 false 0xFE 0xFE (.octets (List.replicate 24 0)),  -- Staged images
  obj (okey 0x8200 0x06) (.uint 1) 31 0 false 0xFE 0xFE (.num 0),  -- Unresolved entries
  obj (okey 0x8200 0x07) (.uint 3) 31 0 true 0xFE 0xFE (.num 0),  -- Rollbacks
  obj (okey 0x8200 0x08) (.uint 1) 31 0 false 0xFE 0xFE (.num 0),  -- Archive state
  obj (okey 0x8200 0x20) (.cmd) 31 8 false 0x20 0x20 (.cmd 0 0),  -- Prepare card
  obj (okey 0x8200 0x21) (.cmd) 31 10 false 0x20 0x20 (.cmd 0 0),  -- Stage image
  obj (okey 0x8200 0x22) (.domain 9437184) 0 10 false 0xFE 0xFE (.octets [])  -- Staging buffer
]

/-- Objects of spec/18_power_clocks_freeze.md, part 1. -/
def objects18_1 : List Desc := [
  obj (okey 0x1300 0x01) (.uint 3) 31 10 true 0xFE 0xFE (.num 100),  -- Host latency tolerance
  obj (okey 0x1300 0x02) (.octets 26) 31 0 false 0xFE 0xFE (.octets (List.replicate 26 0)),  -- Island levels
  obj (okey 0x1300 0x03) (.octets 26) 31 8 true 0xFE 0xFE (.octets islandFloorDefaults),  -- Island floors
  obj (okey 0x1300 0x04) (.uint 3) 31 10 true 0xFE 0xFE (.num 1000),  -- Reported LTR
  obj (okey 0x1300 0x05) (.words 26) 31 0 false 0xFE 0xFE (.words (List.replicate 26 0)),  -- Island wakes
  obj (okey 0x7100 0x01) (.cmd) 31 10 false 0xFE 0xFE (.cmd 0 0),  -- Snapshot
  obj (okey 0x7100 0x02) (.uint 3) 31 10 true 0xFE 0xFE (.num 0),  -- Dump period
  obj (okey 0x7100 0x03) (.uint 6) 31 10 true 0xFE 0xFE (.num 0),  -- Dump ring base
  obj (okey 0x7100 0x04) (.uint 2) 31 10 true 0xFE 0xFE (.num 64),  -- Dump ring records
  obj (okey 0x7100 0x05) (.uint 6) 31 0 false 0xFE 0xFE (.num 0),  -- Dump sequence
  obj (okey 0x7100 0x06) (.words 32) 31 0 false 0xFE 0xFE (.words (List.replicate 32 0)),  -- Last snapshot
  obj (okey 0x7100 0x07) (.uint 6) 31 0 false 0xFE 0xFE (.num 0),  -- Dumps refused
  obj (okey 0x9000 0x01) (.time) 31 0 false 0xFE 0xFE (.num 0),  -- Vigil time
  obj (okey 0x9000 0x02) (.cmd) 31 8 false 0x04 0x04 (.cmd 0 0),  -- Set vigil time
  obj (okey 0x9000 0x03) (.uint 1) 31 0 false 0xFE 0xFE (.num 0),  -- Time quality
  obj (okey 0x9000 0x04) (.sint 3) 31 0 false 0xFE 0xFE (.num 0),  -- Trim in force
  obj (okey 0x9000 0x05) (.octets 24) 31 0 true 0xFE 0xFE (.octets (List.replicate 24 0)),  -- Trim table
  obj (okey 0x9000 0x06) (.uint 1) 31 0 true 0xFE 0xFE (.num 0),  -- Bands measured
  obj (okey 0x9000 0x07) (.cmd) 31 8 false 0xFE 0xFE (.cmd 0 0),  -- Slew
  obj (okey 0x9000 0x08) (.sint 6) 31 0 false 0xFE 0xFE (.num 0),  -- Slew remaining
  obj (okey 0x9000 0x09) (.uint 3) 31 10 true 0xFE 0xFE (.num 3600),  -- Measurement period
  obj (okey 0x9000 0x0A) (.uint 6) 31 0 false 0xFE 0xFE (.num 0),  -- Last count
  obj (okey 0x9000 0x0B) (.uint 1) 31 0 false 0xFE 0xFE (.num 0),  -- PLL state
  obj (okey 0x9000 0x0C) (.uint 3) 31 0 true 0xFE 0xFE (.num 0)  -- Holdovers
]

/-- Objects of spec/18_power_clocks_freeze.md, part 2. -/
def objects18_2 : List Desc := [
  obj (okey 0x9000 0x0D) (.uint 3) 31 0 true 0xFE 0xFE (.num 0),  -- Relocks
  obj (okey 0x9000 0x20) (.cmd) 31 8 false 0x00 0x00 (.cmd 0 0),  -- Freeze
  obj (okey 0x9000 0x21) (.uint 3) 31 0 true 0xFE 0xFE (.num 0)  -- Ignored freezes
]

/-- All objects of channel n. -/
def channelObjects (n : Nat) : List Desc := channelObjects1 n ++ channelObjects2 n

/-- The objects outside the channels, by chapter. -/
def staticObjects : List Desc :=
  objects01_1 ++ objects02_1 ++ objects02_2 ++ objects03_1 ++ objects03_2 ++ objects05_1 ++ objects06_1 ++ objects07_1 ++ objects08_1 ++ objects09_1 ++ objects10_1 ++ objects11_1 ++ objects11_2 ++ objects12_1 ++ objects12_2 ++ objects14_1 ++ objects15_1 ++ objects16_1 ++ objects16_2 ++ objects16_3 ++ objects17_1 ++ objects18_1 ++ objects18_2

/-- The whole directory. -/
def directory : List Desc :=
  staticObjects ++
  (List.range 12).flatMap channelObjects

/-- The directory entry of an object. -/
def descOf (key : Nat) : Option Desc :=
  if 0x200000 ≤ key ∧ key < 0x2C0000 then (channelObjects ((key - 0x200000) / 0x10000)).find? (fun d => d.key == key)
  else (staticObjects).find? (fun d => d.key == key)

/-! ## Reach (R49) -/

/-- R49: what the row of a mode admits reading in Blank, Locked, Forensic and Retired. -/
def rowReads (m : Mode) (key : Nat) : Bool :=
  let index := key / 256
  match m with
  | .blank => index == 0x1000 || index == 0x1200 || index == 0x7000
  | .locked => index == 0x1000 || index == 0x1200 || (0x6000 ≤ index && index ≤ 0x62FF)
  | .forensic => true
  | .retired => index == 0x1000 || index == 0x1200 || index == 0x3100 || index == 0x6200
  | _ => false

/-- R49: what the row of a mode admits writing in Blank, Locked, Forensic and Retired. Vendor envelopes are writes of the
objects whose write-role set is Vendor alone. -/
def rowWrites (m : Mode) (d : Desc) : Bool :=
  match m with
  | .blank => d.writers.testBit 4 || (okey 0x7000 3 ≤ d.key && d.key ≤ okey 0x7000 5)
  | .locked => d.key == okey 0x6100 0x30 || d.key == okey 0x6200 0x03 || d.key == okey 0x1100 0x20 || d.key == okey 0x1100 0x21 ||
      d.key == okey 0x1200 0x03 || d.key == okey 0x1200 0x09
  | .forensic => d.key == okey 0x9000 0x20 || d.key == okey 0x1100 0x20 || d.key == okey 0x1100 0x21 ||
      d.key == okey 0x1200 0x06
  | _ => false

/-- The mode is one of those in which the mode mask decides (R49). -/
def Mode.byMask (m : Mode) : Bool := 1 ≤ m.code && m.code ≤ 7

/-- R49: the object may be read in the mode. -/
def readReach (m : Mode) (d : Desc) : Bool := if m.byMask then d.modes.testBit m.code else rowReads m d.key

/-- R49: the object may be written in the mode. Outside Locked, R402 itself refuses a write of 0x6100:30. -/
def writeReach (m : Mode) (d : Desc) : Bool :=
  d.key == okey 0x6100 0x30 || (if m.byMask then d.writeModes.testBit m.code else rowWrites m d)

/-! ## Type codes and encoding (R42, R43) -/

/-- R42: type code. -/
def DType.code : DType → Nat
  | .bool => 1
  | .uint n => if n = 1 then 2 else if n = 2 then 3 else if n = 3 then 4 else 5
  | .sint n => if n = 3 then 6 else 7
  | .uq _ _ => 8
  | .time => 0x0A
  | .octets _ => 0x0B
  | .words _ => 0x0C
  | .string => 0x0D
  | .cmd => 0x0E
  | .domain _ => 0x0F

/-- R43: size parameter. -/
def DType.param : DType → Nat
  | .octets n => n
  | .words n => n
  | .uq m n => m * 256 + n
  | .string => 255
  | .domain m => m
  | _ => 0

/-- R43: mode mask published, with the bits of Blank, Locked, Forensic and Retired by their rows. -/
def Desc.mask (d : Desc) : Nat :=
  d.modes + ([Mode.blank, .locked, .forensic, .retired].foldl
    (fun a m => if rowReads m d.key || rowWrites m d then a + 2 ^ m.code else a) 0)

/-- R43: one directory entry, 12 octets. -/
def Desc.entry (d : Desc) : List Byte :=
  beOctets 3 d.key ++ beOctets 1 d.ty.code ++ beOctets 3 d.ty.param ++ beOctets 1 d.readers ++ beOctets 1 d.writers ++
    [if d.pers then 1 else 0] ++ beOctets 2 d.mask

/-- Order of keys (for the ascending directory of R43). -/
def insertDesc (d : Desc) : List Desc → List Desc
  | [] => [d]
  | e :: rest => if d.key < e.key then d :: e :: rest else e :: insertDesc d rest

/-- 0x1100:02: all entries, ascending Index:Sub (R43). -/
def directoryOctets : List Byte := (directory.foldr insertDesc []).flatMap Desc.entry

/-- Octets of a value of a fixed-length type on the wire, for a read (R42). -/
def DType.size : DType → Option Nat
  | .bool => some 1
  | .uint n => some n
  | .sint n => some n
  | .uq m n => some ((m + n + 7) / 8)
  | .time => some 6
  | .octets n => some n
  | .words n => some (6 * n)
  | .string => none
  | .cmd => some 4
  | .domain _ => none

/-- R42: a value on the wire. -/
def encodeVal (t : DType) (v : Val) : List Byte :=
  match v with
  | .num n => beOctets (t.size.getD 0) n
  | .octets b => b
  | .words w => wordsBe w
  | .cmd st c => beOctets 1 st ++ beOctets 3 c

/-- Continuation octets of UTF-8. -/
def utf8Tail (b : Byte) : Bool := 0x80 ≤ b.toNat && b.toNat ≤ 0xBF

/-- R42: well-formed UTF-8 (the Unicode standard's table of well-formed sequences). -/
def utf8Ok : List Byte → Bool
  | [] => true
  | a :: rest =>
    if a.toNat ≤ 0x7F then utf8Ok rest
    else match rest with
      | b :: rest2 =>
        if 0xC2 ≤ a.toNat && a.toNat ≤ 0xDF then utf8Tail b && utf8Ok rest2
        else match rest2 with
          | c :: rest3 =>
            if 0xE0 ≤ a.toNat && a.toNat ≤ 0xEF then
              utf8Tail b && utf8Tail c && (a.toNat != 0xE0 || 0xA0 ≤ b.toNat) && (a.toNat != 0xED || b.toNat ≤ 0x9F) &&
                utf8Ok rest3
            else match rest3 with
              | d :: rest4 =>
                0xF0 ≤ a.toNat && a.toNat ≤ 0xF4 && utf8Tail b && utf8Tail c && utf8Tail d &&
                  (a.toNat != 0xF0 || 0x90 ≤ b.toNat) && (a.toNat != 0xF4 || b.toNat ≤ 0x8F) && utf8Ok rest4
              | [] => false
          | [] => false
      | [] => false

/-- R42: the length of a written value matches its type. -/
def lengthOk (t : DType) (b : List Byte) : Bool :=
  match t with
  | .string => b.length ≤ 255
  | .domain _ => b.length ≤ 16777215
  | .cmd => true
  | t => t.size == some b.length

/-- R42: the value that octets of the right length write. -/
def decodeVal (t : DType) (b : List Byte) : Val :=
  match t with
  | .octets _ => .octets b
  | .string => .octets b
  | .domain _ => .octets b
  | .words n => .words (beWords n b)
  | .cmd => .octets b
  | _ => .num (beNat b)

/-- The default of an object (R44). -/
def defaultOf (key : Nat) : Val :=
  match descOf key with
  | some d => d.dflt
  | none => .num 0

/-- The stored value of an object, its default when the store holds none. -/
def State.stored (s : State) (key : Nat) : Val := (kget s.dict.objs key).getD (defaultOf key)

/-- The stored value of an object of the directory as a number. -/
def State.objNum (s : State) (key : Nat) : Nat :=
  match s.stored key with
  | .num n => n
  | _ => 0

/-- The stored value of an object of the directory as octets. -/
def State.objOctets (s : State) (key : Nat) : List Byte :=
  match s.stored key with
  | .octets b => b
  | _ => []

/-- The stored value of an object of the directory as words. -/
def State.objWords (s : State) (key : Nat) : List Word :=
  match s.stored key with
  | .words w => w
  | _ => []

/-- R44: a Vol object takes its default at a device reset; the store keeps the Pers objects. -/
def keepPers (m : KMap Val) : KMap Val :=
  m.filter (fun e => match descOf e.1 with | some d => d.pers | none => false)

end Sys2Proof.Machine
end

