-- ==== Sys2Proof/Machine/Frames.lean ====
section
/-! DEFINITION. Dexrek frames: encoding, checks, sessions, responses, and the one path by which a write of a CMD object
starts its action (R46 to R63, R608). -/

namespace Sys2Proof.Machine

/-! ## Completion codes (R48) -/

def codeOk : Nat := 0x000000
def noSuchObject : Nat := 0x010001
def accessDenied : Nat := 0x010002
def modeRefused : Nat := 0x010003
def typeMismatch : Nat := 0x010004
def valueRange : Nat := 0x010005
def readOnly : Nat := 0x010006
def objectContended : Nat := 0x010007
def busyCode : Nat := 0x010008
def offsetRange : Nat := 0x010009
def frameMalformed : Nat := 0x01000A
def restartingCode : Nat := 0x01000B
def sessionRequired : Nat := 0x01000C
def sessionsFull : Nat := 0x01000D
def persistFailed : Nat := 0x01000E
def segmentTimeout : Nat := 0x01000F
def envelopeInvalid : Nat := 0x010010
def elevationFailed : Nat := 0x010011
def actionAborted : Nat := 0x010012

end Sys2Proof.Machine

namespace Sys2Proof

open Sys2Proof.Machine

/-! ## Frames (R57, R58) -/

/-- Frame kinds (R57). -/
def kindRead : BitVec 4 := 1
def kindWrite : BitVec 4 := 2
def kindResponse : BitVec 4 := 3
def kindPublished : BitVec 4 := 4
def kindSetup : BitVec 4 := 5
def kindError : BitVec 4 := 6
def kindElevate : BitVec 4 := 7

/-- The object a frame names. -/
def Frame.key (f : Frame) : Nat := okey f.index.toNat f.sub.toNat

/-- The 16 header octets (R57). -/
def Frame.header (f : Frame) : List Byte :=
  [BitVec.ofNat 8 (f.version.toNat * 16 + f.kind.toNat)] ++ beOctets 2 f.tag.toNat ++ beOctets 2 f.index.toNat ++
    [f.sub] ++ beOctets 3 f.code.toNat ++ beOctets 3 f.offset.toNat ++ beOctets 2 f.length.toNat ++
    [f.flags, f.reserved]

/-- The 12 prefix octets of a protected frame, which are its nonce (R59). -/
def Frame.prefixOctets (f : Frame) : List Byte :=
  match f.session with
  | none => []
  | some id => wordBe id ++ wordBe f.seq

/-- The whole frame on the wire. -/
def Frame.octets (f : Frame) : List Byte := f.prefixOctets ++ f.header ++ f.payload ++ f.check

/-- One bit of the reflected CRC-32. -/
def crcBit (c : BitVec 32) : BitVec 32 := if c.getLsbD 0 then (c >>> 1) ^^^ 0xEDB88320 else c >>> 1

/-- One octet of the reflected CRC-32. -/
def crcOctet (c : BitVec 32) (b : Byte) : BitVec 32 :=
  let x := c ^^^ (b.setWidth 32)
  crcBit (crcBit (crcBit (crcBit (crcBit (crcBit (crcBit (crcBit x)))))))

/-- R58: CRC-32 with polynomial 0x04C11DB7 reflected, initial value and final exclusive-or 0xFFFFFFFF. -/
def crc32 (b : List Byte) : BitVec 32 := (b.foldl crcOctet 0xFFFFFFFF) ^^^ 0xFFFFFFFF

/-- R58: the CRC of a sessionless frame, sent big-endian. -/
def Frame.crc (f : Frame) : List Byte := beOctets 4 (crc32 (f.header ++ f.payload)).toNat

/-- R57: the header keeps the form of a request: version 1, a kind that a peer sends, zero completion code, a payload as
long as its length field says (READ apart) and at most 1,024 octets, flag bit 0 as the frame is protected, other bits
and the reserved octet zero. The limit of 1,024 applies to payloads (DEDUCED, notes/assumptions/7.md). -/
def Frame.headerOk (f : Frame) : Bool :=
  f.version == 1 && (f.kind == kindRead || f.kind == kindWrite || f.kind == kindSetup || f.kind == kindElevate) &&
  f.code == 0 && f.reserved == 0 && f.flags.toNat < 4 && (f.flags.getLsbD 0 == f.session.isSome) &&
  (if f.kind == kindRead then f.payload.isEmpty && !f.flags.getLsbD 1
   else f.length.toNat == f.payload.length && f.payload.length ≤ 1024)

/-- Position of a transport in the order of R64 and R609. -/
def Transport.index : Transport → Fin 5
  | .pcie => 0 | .i3c0 => 1 | .i3c1 => 2 | .net => 3 | .tag => 4

end Sys2Proof

namespace Sys2Proof.Machine

/-! ## Sessions -/

/-- The session of an ID. -/
def State.session (s : State) (id : Word) : Option Session := s.dict.sessions.find? (fun x => x.id == id)

/-- Updates the session of an ID. -/
def State.onSession (id : Word) (f : Session → Session) (s : State) : State :=
  s.onDict (fun d => { d with sessions := d.sessions.map (fun x => if x.id = id then f x else x) })

/-- R54: the key of the peer-to-device direction. -/
def Session.rxKey (x : Session) : BitVec 256 := BitVec.ofNat 256 (x.secret.toNat / 2 ^ 256)

/-- R54: the key of the device-to-peer direction. -/
def Session.txKey (x : Session) : BitVec 256 := BitVec.ofNat 256 x.secret.toNat

/-- R60: the sequence is accepted: above the highest, or within the 64 below it and unseen. -/
def seqFresh (high : Nat) (seen : List Nat) (q : Nat) : Bool :=
  if q > high then true else high - q ≤ 64 && q < high && !seen.contains q

/-- R60: the window after an accepted sequence. -/
def seqAccept (high : Nat) (seen : List Nat) (q : Nat) : Nat × List Nat :=
  let h := max high q
  (h, ((high :: q :: seen).filter (fun x => x < h && h - x ≤ 64)).dedup)

/-- Who sent a request, as R50 to R53 know it. -/
structure Asker where
  transport : Transport
  session : Option Word
  role : Role
  glovePair : Bool
  officers : Option (Nat × Nat)
deriving DecidableEq, Repr

/-- R50: the asker of a frame. -/
def State.asker (s : State) (f : Frame) : Asker :=
  match f.session.bind s.session with
  | some x => { transport := f.transport, session := some x.id, role := x.role, glovePair := x.glovePair,
                officers := x.officers }
  | none => { transport := f.transport, session := none, role := .observer, glovePair := false, officers := none }

/-- R43: the bit of a role in a role mask. -/
def Role.bit : Role → Nat
  | .observer => 0 | .operator => 1 | .auditor => 2 | .officer => 3

/-- R609: the values of the session or, without one, of its transport. -/
def State.holder (s : State) (a : Asker) : Holder :=
  match a.session.bind s.session with
  | some x => x.holder
  | none => s.dict.sessionless[a.transport.index]

/-- Updates the values of R609. -/
def State.onHolder (a : Asker) (f : Holder → Holder) (s : State) : State :=
  match a.session with
  | some id => s.onSession id (fun x => { x with holder := f x.holder })
  | none => s.onDict (fun d =>
      { d with sessionless := d.sessionless.set a.transport.index (f d.sessionless[a.transport.index]) })

/-! ## Responses -/

/-- R66, R67: ends the busy slot with a response of the given octets and raises MSI-X vector k. -/
def State.slotReady (k : Fin 4) (b : List Byte) (s : State) : State :=
  (s.onDict (fun d =>
    { d with mailbox := d.mailbox.set k { d.mailbox[k] with stat := .ready, respLen := b.length, respBuf := b } })).send
    (.msix k.val)

/-- A frame that the N4812 sends under a session, with the next sequence of its direction (R59), or sessionless. -/
def State.sealFrame (s : State) (f : Frame) (id : Option Word) : Frame × State :=
  match id.bind (fun i => s.session i) with
  | none =>
    let g : Frame := { f with session := none, seq := 0, flags := f.flags &&& 2 }
    ({ g with check := g.crc }, s)
  | some x =>
    let g : Frame := { f with session := some x.id, seq := BitVec.ofNat 48 x.txNext, flags := (f.flags &&& 2) ||| 1 }
    let c := gcmSeal x.txKey g.prefixOctets g.header f.payload
    ({ g with payload := c.1, check := c.2 }, s.onSession x.id (fun y => { y with txNext := y.txNext + 1 }))

/-- Delivers a frame to the peer: on PCIe into the slot's response buffer, elsewhere on its transport. -/
def State.deliver (f : Frame) (s : State) : State :=
  match f.transport with
  | .pcie => (s.slotReady f.slot f.octets).send (.frame f)
  | _ => s.send (.frame f)

/-- A request whose session has closed meanwhile gets no frame; its PCIe slot reads response ready with length 0 (DEDUCED,
notes/assumptions/61.md). -/
def State.unanswered (f : Frame) (s : State) : State :=
  match f.transport with
  | .pcie => s.slotReady f.slot []
  | _ => s

/-- Answers a request with a frame of a kind, completion code and payload (R57); `more` says that segments follow. -/
def State.answerAs (kind : BitVec 4) (f : Frame) (code : Nat) (payload : List Byte) (more : Bool) (s : State) : State :=
  if f.session.isSome && (f.session.bind s.session).isNone then s.unanswered f
  else
    let g : Frame := { f with kind := kind, version := 1, code := BitVec.ofNat 24 code, payload := payload,
                              length := BitVec.ofNat 16 payload.length, flags := if more then 2 else 0, reserved := 0 }
    let r := s.sealFrame g f.session
    r.2.deliver r.1

/-- A RESPONSE frame. -/
def State.answer (f : Frame) (code : Nat) (payload : List Byte := []) (s : State) : State :=
  s.answerAs kindResponse f code payload false

/-- R58, R60, R67: drops a frame without response and counts it; a PCIe slot reads response ready with length 0. -/
def State.dropFrame (counter : Nat) (f : Frame) (s : State) : State :=
  let s := s.bump counter
  match f.transport with
  | .pcie => s.slotReady f.slot []
  | _ => s

/-! ## Receipt -/

/-- The frame has arrived: main power is present and the start has ended (DESIGN CHOICE, notes/assumptions/70.md), and a PCIe
frame stands in its busy slot's request buffer (R66), a tag frame comes over an activated tag (spec/16). -/
def State.arrives (s : State) (f : Frame) : Bool :=
  s.modes.mainPower && s.power.frozen.isNone && !s.modes.starting &&
  match f.transport with
  | .pcie =>
    let m := s.dict.mailbox[f.slot]
    m.stat == .busy && m.reqLen == f.octets.length &&
      (List.range m.reqLen).map (memGet m.reqBuf) == f.octets
  | .tag => s.tag.st == .protocol && s.tag.selected
  | _ => true

/-- What came of a frame's receipt. -/
inductive Receipt
  /-- The frame did not arrive, was dropped, or was answered with a refusal. -/
  | ended
  /-- A request with its payload in clear. -/
  | request (a : Asker) (payload : List Byte)
deriving DecidableEq, Repr

/-- R58 to R60: the frame's check. None: it fails; some none: a replay; some some: its payload in clear. -/
def State.openFrame (s : State) (f : Frame) : Option (Option (List Byte)) :=
  match f.session with
  | none => if f.check = f.crc then some (some f.payload) else none
  | some id =>
    match s.session id with
    | none => none
    | some x =>
      match gcmOpen x.rxKey f.prefixOctets f.header f.payload f.check with
      | none => none
      | some p => if seqFresh x.rxHigh x.rxSeen f.seq.toNat then some (some p) else some none

/-- R60 and R56: the session's window and its idle time after an accepted frame. -/
def State.accepted (f : Frame) (s : State) : State :=
  match f.session with
  | none => s
  | some id => s.onSession id (fun x =>
      let w := seqAccept x.rxHigh x.rxSeen f.seq.toNat
      { x with rxHigh := w.1, rxSeen := w.2, lastUsed := s.now })

/-- R50 with the exception of R101: the transport refuses a sessionless request. -/
def State.refusesSessionless (s : State) (f : Frame) : Bool :=
  f.session.isNone && f.kind != kindSetup &&
  match f.transport with
  | .net => s.modes.mode != .recover
  | .pcie => s.objNum (okey 0x1100 0x18) == 0
  | _ => false

/-- The first three rows of R608 and the drops before them. SETUP and ELEVATE share them. -/
def State.receive (f : Frame) (s : State) : State × Receipt :=
  if !s.arrives f then (s, .ended)
  else if f.kind == kindResponse || f.kind == kindPublished || f.kind == kindError then
    (s.dropFrame (okey 0x1100 4) f, .ended)
  else match s.openFrame f with
  | none => (s.dropFrame (okey 0x1100 4) f, .ended)
  | some none => (s.dropFrame (okey 0x1100 5) f, .ended)
  | some (some p) =>
    let s := s.accepted f
    if !f.headerOk then (s.answerAs kindError f frameMalformed [] false, .ended)
    else if s.refusesSessionless f then (s.answer f sessionRequired, .ended)
    else if s.dict.restarting then (s.answer f restartingCode, .ended)
    else (s, .request (s.asker f) p)

/-! ## Writes -/

/-- R107: in Recover, and in Blank under R49, sessionless requests may write the image-installation objects. -/
def loaderWrite (m : Mode) (key : Nat) : Bool :=
  (m == .recover || m == .blank) && okey 0x7000 3 ≤ key && key ≤ okey 0x7000 5

/-- Row 7 of R608: the asker's role may write the object. A Vendor-writable object leaves the decision to the envelope;
in Forensic an Officer alone writes 0x1200:06 (R118). -/
def State.mayWrite (s : State) (a : Asker) (d : Desc) : Bool :=
  if d.key == okey 0x1200 6 && s.modes.mode == .forensic then a.role == .officer
  else d.writers.testBit a.role.bit || d.writers.testBit 4 || loaderWrite s.modes.mode d.key

/-- Octets of a vendor envelope (R53): counter, ECDSA P-384 and ML-DSA-87 signatures. -/
def envelopeLength : Nat := 6 + 96 + 4627

/-- The write needs an envelope: the object is Vendor-writable and the asker's role is not in the set itself. -/
def needsEnvelope (a : Asker) (d : Desc) : Bool := d.writers.testBit 4 && !d.writers.testBit a.role.bit

/-- R53: value and counter of a value followed by an envelope whose signatures verify and whose counter is greater. -/
def State.envelope (s : State) (key : Nat) (b : List Byte) : Option (List Byte × Nat) :=
  let n := b.length - envelopeLength
  let value := b.take n
  let counter := (b.drop n).take 6
  let d := sha384 (s.objOctets (okey 0x1000 4) ++ beOctets 3 key ++ value ++ counter)
  if envelopeLength ≤ b.length ∧ Config.ecdsaVerify 1 Config.vendorEcdsaKey d ((b.drop (n + 6)).take 96) = true ∧
      Config.mldsaVerify 87 Config.vendorMldsaKey d [] (b.drop (n + 102)) = true ∧
      beNat counter > s.num (okey 0x1000 8) then
    some (value, beNat counter)
  else none

/-- The segmented write that holds an object (R63). -/
def State.segment (s : State) (key : Nat) : Option SegWrite := s.dict.segments.find? (fun x => x.key == key)

/-- Removes the segmented write of an object. -/
def State.endSegment (key : Nat) (s : State) : State :=
  s.onDict (fun d => { d with segments := d.segments.filter (fun x => x.key != key) })

/-- The asker is the writer of a segmented write. -/
def SegWrite.mine (w : SegWrite) (a : Asker) : Bool := w.writer == a.session && w.transport == a.transport

/-- Rows 4 to 8 of R608 for a write. -/
def State.writeAdmitted (s : State) (a : Asker) (key : Nat) : Except Nat Desc :=
  match descOf key with
  | none => .error noSuchObject
  | some d =>
    if !writeReach s.modes.mode d then .error modeRefused
    else if d.writers == 0 then .error readOnly
    else if !s.mayWrite a d then .error accessDenied
    else if a.session.isNone && key == okey 0x1100 0x21 then .error sessionRequired
    else .ok d

/-- What a frame's octets make of a write. -/
inductive Assembled
  /-- Refused for a row of R608; the flag says that an envelope had been accepted, with its counter. -/
  | refused (code : Nat) (counter : Option Nat)
  /-- A segment that others follow. -/
  | segment (b : List Byte)
  /-- The whole value. -/
  | whole (b : List Byte) (counter : Option Nat)
deriving DecidableEq, Repr

/-- Rows 9 to 14 of R608 for a write whose object is admitted: envelope, offset, length, value range, hold, gap. A write at
offset 0 begins a value anew (DEDUCED, notes/assumptions/79.md). -/
def State.assemble (s : State) (a : Asker) (d : Desc) (f : Frame) (p : List Byte) (argOk : List Byte → Nat) :
    Assembled :=
  let more := f.flags.getLsbD 1
  let envelope := needsEnvelope a d
  let isDomain := match d.ty with | .domain _ => true | _ => false
  let held := s.segment d.key
  let goesOn := f.offset != 0
  let mine := match held with | some w => w.mine a && !w.abandoned && goesOn | none => false
  let before := match held with | some w => if mine then w.octets else [] | none => []
  let all := before ++ p
  let opened := if envelope && !more then s.envelope d.key all else none
  let value := match opened with | some (v, _) => v | none => all
  let counter := opened.map (fun x => x.2)
  let foreign := match held with | some w => !w.mine a && !w.abandoned | none => false
  let gap := match held with | some w => w.mine a && w.abandoned && goesOn | none => false
  let code :=
    if envelope && !more && opened.isNone then envelopeInvalid
    else if f.offset.toNat != (if isDomain || envelope then (if gap then f.offset.toNat else before.length) else 0) then
      offsetRange
    else if !isDomain && !envelope && more then typeMismatch
    else if !more && !lengthOk d.ty value then typeMismatch
    else if more && !gap then
      (match d.ty with | .domain m => if !envelope && all.length > m then valueRange else 0 | _ => 0)
    else if !more && !gap && argOk value != 0 then argOk value
    else if foreign then objectContended
    else if gap then segmentTimeout
    else 0
  if code != 0 then .refused code counter
  else if more then .segment all
  else .whole value (if mine || !more then counter else none)

/-- R53: sets the vendor command counter of an accepted envelope at once. -/
def State.countEnvelope (c : Option Nat) (s : State) : State :=
  match c with
  | some n => s.putNum (okey 0x1000 8) n
  | none => s

/-- Keeps a segment for the writes that follow it (R63). -/
def State.keepSegment (a : Asker) (key : Nat) (b : List Byte) (s : State) : State :=
  (s.endSegment key).onDict (fun d =>
    { d with segments := { key, writer := a.session, transport := a.transport, octets := b, abandoned := false } ::
      d.segments })

/-- A refused write ends the segmented write it belongs to, except one that is refused because another writer holds the
object. -/
def State.dropSegment (a : Asker) (key : Nat) (s : State) : State :=
  match s.segment key with
  | some w => if w.mine a then s.endSegment key else s
  | none => s

/-! ## Command objects (R46) -/

/-- How an action ends in the step that starts it. `busy`: it goes on, or a device reset has cleared its status (R111). -/
inductive CmdEnd
  | done
  | busy
  | failed (code : Nat)
  | aborted (code : Nat)
deriving DecidableEq, Repr

/-- An action: what its chapter refuses before it starts (0 for nothing), and its effect. -/
structure Action where
  /-- Length and value checks of the write's payload: 0, or the code of rows 11 and 12 of R608. -/
  arg : List Byte → Nat
  /-- Function-specific refusal, which follows every check of R608: 0, or its code. -/
  guard : Asker → List Byte → State → Nat
  /-- Effect and end. -/
  act : Asker → List Byte → State → State × CmdEnd

/-- A payload of exactly n octets that meets a condition; 0 for no length asked. -/
def argOf (n : Nat) (ok : List Byte → Bool) (b : List Byte) : Nat :=
  if b.length != n then typeMismatch else if ok b then 0 else valueRange

/-- Any payload: the owning chapter defines none. -/
def anyArg (_ : List Byte) : Nat := 0

/-- No function-specific refusal. -/
def noGuard (_ : Asker) (_ : List Byte) (_ : State) : Nat := 0

/-- Writes that R64 compares: the same object, and for the values of R609 the same holder. -/
def State.alreadyWritten (s : State) (key : Nat) : Bool := s.dict.touched.any (fun t => t.1 == key)

/-- Marks an object as written in this tick. -/
def State.touch (a : Asker) (key : Nat) (s : State) : State :=
  s.onDict (fun d => { d with touched := (key, a.session, a.transport) :: d.touched })

/-- Records the end of an action whose status reads Busy. -/
def State.conclude (key : Nat) (r : State × CmdEnd) : State :=
  match r.2 with
  | .done => r.1.doneCmd key
  | .busy => r.1
  | .failed c => r.1.failCmd key c
  | .aborted c => r.1.abortCmd key c

/-- R46: an admitted write starts the action: the status becomes Busy, the response carries OK, the action runs. -/
def State.startAction (key : Nat) (f : Frame) (a : Asker) (v : List Byte) (x : Action) (s : State) : State :=
  State.conclude key (x.act a v (((s.setCmd key cmdBusy 0).touch a key).answer f codeOk))

/-- Rows 15 and 16 of R608 and the function-specific refusals, then the start. -/
def State.beginAction (key : Nat) (f : Frame) (a : Asker) (v : List Byte) (x : Action) (s : State) : State :=
  if s.busy key then s.answer f busyCode
  else if s.alreadyWritten key then (s.bump (okey 0x1100 3)).answer f objectContended
  else
    let g := x.guard a v s
    if g != 0 then s.answer f g
    else s.startAction key f a v x

/-- R49 and row 5 of R608: in Locked, the mode-request object 0x1200:03 is in reach with target Forensic (9) only. -/
def State.outOfTarget (s : State) (key : Nat) (p : List Byte) : Bool :=
  s.modes.mode == .locked && key == okey 0x1200 3 && p != [9]

/-- A write of a CMD object whose asker and payload are known. -/
def State.writeCmd (key : Nat) (f : Frame) (a : Asker) (p : List Byte) (x : Action) (s : State) : State :=
  if s.outOfTarget key p then s.answer f modeRefused
  else match s.writeAdmitted a key with
  | .error c => s.answer f c
  | .ok d =>
    match s.assemble a d f p x.arg with
    | .refused c n => ((s.countEnvelope n).dropSegment a key).answer f c
    | .segment b => (s.keepSegment a key b).answer f codeOk
    | .whole v n => ((s.countEnvelope n).endSegment key).beginAction key f a v x

/-- A command row that is a write of the CMD object `key`: the frame is received, checked and, when all checks pass,
starts the action. A frame that is no WRITE of that object is none of this command, and nothing happens. -/
def State.runCmd (key : Nat) (f : Frame) (x : Action) (s : State) : State :=
  if f.key != key || f.kind != kindWrite then s
  else match s.receive f with
  | (s, .ended) => s
  | (s, .request a p) => s.writeCmd key f a p x

end Sys2Proof.Machine
end

