-- ==== Sys2Proof/Machine/Events.lean ====
section
/-! DEFINITION. Alarm sources and event records as they arise (spec/12_tamper_and_evidence.md, R380 to R400, R611). -/

namespace Sys2Proof.Machine

/-- The device runs: main power is present and the clocks are not frozen (R582). -/
def State.live (s : State) : Bool := s.modes.mainPower && s.power.frozen.isNone

/-- R561: the duty pair. -/
def State.dutyPair (s : State) : Option (Fin 4) := pairIndexes.find? (fun p => s.pairs[p].inService)

/-- The pair executes: in service in a running device, and not halted. From the fall of PFAIL_N every pair except the duty pair
is halted (R601; DEDUCED, notes/assumptions/121.md). -/
def State.runs (s : State) (p : Fin 4) : Bool :=
  s.live && s.pairs[p].inService && (!s.modes.pfail || s.dutyPair == some p)

/-- An effect that needs a running device. -/
def State.whenLive (f : State → State) (s : State) : State := if s.live then f s else s

/-- R611: a detail word of the common form: event kind in bits [47:40] and the event's fields. -/
def detailOf (kind fields : Nat) : Word := BitVec.ofNat 48 (kind * 2 ^ 40 + fields)

/-- Adds a record to those of the current vigil tick (R392). -/
def State.arise (source response : Nat) (raised : Bool) (detail : Word) (s : State) : State :=
  s.onTamper (fun t =>
    { t with arising := t.arising ++ [{ source, response, raised, mode := s.modes.mode, detail }] })

/-- An event that another chapter logs: no response; flag bit 1 is set in every record but a clearing (R405; DEDUCED, notes/assumptions/113.md). -/
def State.event (source : Nat) (detail : Word) (s : State) : State := s.arise source 0 true detail

/-- The state of an alarm source. -/
def State.source (s : State) (n : Nat) : Source := (kget s.tamper.sources n).getD Source.initial

/-- Updates the state of an alarm source. -/
def State.onSource (n : Nat) (f : Source → Source) (s : State) : State :=
  s.onTamper (fun t => { t with sources := kupd t.sources n Source.initial f })

/-- R384, R404: the response of a source in force; Record at most for 0x29 and 0x2A while the cell-change window is
open. -/
def State.responseOf (s : State) (n : Nat) : Nat :=
  let r := ((s.objOctets (okey 0x6100 1)).getD (n - 0x10) 0).toNat
  if s.vigil.windowSince.isSome && (n == 0x29 || n == 0x2A) then min r 1 else r

/-- R393: the response that a raising uses: the one committed before the tick, which the record of a change in this tick
gives. -/
def State.raisingResponse (s : State) (n : Nat) : Nat :=
  match s.tamper.arising.find? (fun r => r.source == 0x07 && r.detail.toNat / 2 ^ 32 % 256 == n) with
  | none => s.responseOf n
  | some r =>
    let old := r.detail.toNat / 2 ^ 28 % 16
    if s.vigil.windowSince.isSome && (n == 0x29 || n == 0x2A) then min old 1 else old

/-- R392: the most severe response raised in this tick, and its source. -/
def State.respond (n r : Nat) (s : State) : State :=
  s.onTamper (fun t => if r > t.tickResponse then { t with tickResponse := r, tickSource := n } else t)

/-- R391: a raising counts, writes one record and has its response applied at the end of the tick; nothing more while
the source stays raised. A clock source spoils the crystal window in progress (R574). -/
def State.raiseSource (n : Nat) (detail : Word) (s : State) : State :=
  if (s.source n).raised then s
  else
    let r := s.raisingResponse n
    let s := if n = 0x1F ∨ n = 0x21 then s.onPower (fun p => { p with windowSpoiled := true }) else s
    (((s.onSource n (fun x => { x with raised := true })).bumpWord (okey 0x6100 7) 32 (n - 0x10)).arise n r true
      detail).respond n r

/-- R391: clearing writes a record with response 0x0. -/
def State.clearSource (n : Nat) (detail : Word) (s : State) : State :=
  if (s.source n).raised then (s.onSource n (fun x => { x with raised := false })).arise n 0 false detail else s

/-- R391: an occurrence of a momentary source. Its record carries in bits [15:0] the occurrences not recorded within the
second after the record before. -/
def State.occur (n kind fields : Nat) (s : State) : State :=
  let r := s.raisingResponse n
  let x := s.source n
  let s := (s.bumpWord (okey 0x6100 7) 32 (n - 0x10)).respond n r
  match x.recordedAt with
  | some t =>
    if s.now < t + second then s.onSource n (fun y => { y with unrecorded := y.unrecorded + 1 })
    else (s.onSource n (fun y => { y with recordedAt := some s.now, unrecorded := 0 })).arise n r true
      (detailOf kind (fields + min x.unrecorded 0xFFFF))
  | none =>
    (s.onSource n (fun y => { y with recordedAt := some s.now, unrecorded := 0 })).arise n r true (detailOf kind fields)

/-- A sticky flag (R399). -/
def State.flag (s : State) (i : Nat) : Bool := s.vigil.sticky.getLsbD i

/-- Sets or clears a sticky flag (R399). -/
def State.setFlag (i : Nat) (b : Bool) (s : State) : State :=
  s.onVigil (fun v =>
    { v with sticky := if b then v.sticky ||| (1#24 <<< i) else v.sticky &&& ~~~(1#24 <<< i) })

/-- Bits of the sticky flags (R399). -/
def flagLocked : Nat := 0
def flagRestrained : Nat := 1
def flagVPresent : Nat := 2
def flagErase : Nat := 3
def flagRecords : Nat := 4
def flagOverflow : Nat := 5
def flagWindow : Nat := 6
def flagCellAbsent : Nat := 7
def flagRetire : Nat := 8

/-- R383: the restrained flag is set. -/
def State.restrained (s : State) : Bool := s.flag flagRestrained

/-- R383, R402: some raised source whose configured response is at least r. -/
def State.someRaised (s : State) (r : Nat) : Bool :=
  s.tamper.sources.any (fun e => e.2.raised && decide (r ≤ s.responseOf e.1))

/-- R419: completion codes of class 0x0B. -/
def restrainedCode : Nat := 0x0B0001
def sourceActive : Nat := 0x0B0002
def responseBelowMinimum : Nat := 0x0B0003
def notLocked : Nat := 0x0B0004
def unlockPreempted : Nat := 0x0B0005
def cellWindowRefused : Nat := 0x0B0006
def chainBroken : Nat := 0x0B0007

/-- R117: completion codes of class 0x02. -/
def transitionRefused : Nat := 0x020001
def lifecycleRefused : Nat := 0x020002
def functionCancelled : Nat := 0x020003
def imageInvalid : Nat := 0x020004
def presenceRequired : Nat := 0x020005
def provisionIncomplete : Nat := 0x020006
def transitionPreempted : Nat := 0x020007
def optionWriteFailed : Nat := 0x020008
def imageRunning : Nat := 0x020009

/-- Interrupt source i of a pair becomes pending (R462, R474). -/
def Pair.interrupt (i : Nat) (p : Pair) : Pair := { p with ipend := p.ipend ||| (1#16 <<< i) }

/-- Interrupt source i becomes pending on every pair in service. -/
def State.interruptAll (i : Nat) (s : State) : State :=
  s.onPairs (fun v => v.map (fun p => if p.inService then p.interrupt i else p))

/-- R255: the size is a power of two from 131,072 to 67,108,864. -/
def ringSizeOk (v : BitVec 32) : Bool := (List.range 10).any (fun k => v.toNat == 131072 * 2 ^ k)

end Sys2Proof.Machine
end

