-- ==== Sys2Proof/Machine/Flash.lean ====
section
/-! DEFINITION. Embedded flash: words, areas, the controller's operations, counters, option area
(spec/15_embedded_flash.md). -/

namespace Sys2Proof.Machine

/-! ## Completion codes (R518) -/

def keySequence : Nat := 0x0C0001
def pathLocked : Nat := 0x0C0002
def addressRange : Nat := 0x0C0003
def areaProtected : Nat := 0x0C0004
def programTwice : Nat := 0x0C0005
def sectorEraseOpen : Nat := 0x0C0006
def programFailed : Nat := 0x0C0007
def eraseFailed : Nat := 0x0C0008
def counterBackward : Nat := 0x0C0009
def queueInvalid : Nat := 0x0C000A
def flashAborted : Nat := 0x0C000B
def sparesExhausted : Nat := 0x0C000C

/-! ## Words (R491, R493, R504) -/

/-- A bank of the two. -/
def State.bank (s : State) (b : Nat) : FlashBank := if b = 0 then s.flash.banks[0] else s.flash.banks[1]

/-- Updates a bank. -/
def State.onBank (b : Nat) (f : FlashBank → FlashBank) (s : State) : State :=
  s.onFlash (fun c =>
    { c with banks := if b = 0 then c.banks.set 0 (f c.banks[0]) else c.banks.set 1 (f c.banks[1]) })

/-- R504: where a word stands: a remapped sector's words stand in its spare, sectors 2,016 onward of bank 1. -/
def State.locate (s : State) (b off : Nat) : Nat × Nat :=
  match kget (s.bank b).remaps (off / 2048) with
  | some spare => (1, (2016 + spare) * 2048 + off % 2048)
  | none => (b, off)

/-- The cell of a word; none when it reads erased. -/
def State.cell (s : State) (b off : Nat) : Option FlashCell :=
  let l := s.locate b off
  kget (s.bank l.1).cells l.2

/-- The word stored for a cell. -/
def State.setCell (b off : Nat) (c : Option FlashCell) (s : State) : State :=
  let l := s.locate b off
  s.onBank l.1 (fun k => { k with cells := match c with | some x => kset k.cells l.2 x | none => kdel k.cells l.2 })

/-- R502: the sector of a word is erase-open. -/
def State.eraseOpen (s : State) (b off : Nat) : Bool := (s.bank b).eraseOpen.contains (off / 2048)

/-- What a read of a flash word comes to (R493, R502). -/
inductive FlashRead
  | erased
  | value (w : Word)
  | uncorrectable
  | eraseHit
deriving DecidableEq, Repr

/-- R491, R493, R502: a read of a word by a processor or unit. The reserved area of bank 1 reads all ones. -/
def State.flashRead (s : State) (b off : Nat) : FlashRead :=
  if s.eraseOpen b off then .eraseHit
  else match s.cell b off with
  | none => .erased
  | some (.programmed w) => .value w
  | some .torn => .uncorrectable

/-- The data of a read that delivers a word: erased words deliver all ones. -/
def FlashRead.word : FlashRead → Option Word
  | .erased => some 0xFFFFFFFFFFFF
  | .value w => some w
  | _ => none

/-- n words from an offset; none when one of them delivers no data. -/
def State.flashWords (s : State) (b off : Nat) : Nat → Option (List Word)
  | 0 => some []
  | n + 1 =>
    match (s.flashRead b off).word, s.flashWords b (off + 1) n with
    | some w, some l => some (w :: l)
    | _, _ => none

/-- Octets packed six per word under R4 from an offset. -/
def State.flashOctets (s : State) (b off n : Nat) : Option (List Byte) :=
  (s.flashWords b off ((n + 5) / 6)).map (fun l => (l.flatMap wordOctets).take n)

/-- Programs one word that reads erased, or retires any word with the all-zero pattern (R494); anything else leaves it. -/
def State.programWord (b off : Nat) (w : Word) (s : State) : State :=
  match s.cell b off with
  | none => s.setCell b off (some (.programmed w))
  | some _ => if w = 0 then s.setCell b off (some (.programmed 0)) else s

/-- Programs words from an offset on. -/
def State.programWords (b off : Nat) : List Word → State → State
  | [], s => s
  | w :: rest, s => State.programWords b (off + 1) rest (s.programWord b off w)

/-- R494: a word that may be programmed with a value. -/
def State.mayProgram (s : State) (b off : Nat) (w : Word) : Bool := (s.cell b off).isNone || w == 0

/-- R494 for words from an offset on. -/
def State.mayProgramAll (s : State) (b off : Nat) : List Word → Bool
  | [] => true
  | w :: rest => s.mayProgram b off w && s.mayProgramAll b (off + 1) rest

/-- What a word reads as that a program or its abort touched without verifying (R514: erased, programmed or torn; which
of them, and with what value, the spec leaves open: free values). -/
def State.spoilWord (b off : Nat) (w : Word) (s : State) : State :=
  let d := s.drawFree
  if d.1.getLsbD 0 then d.2.setCell b off (some .torn)
  else if d.1.getLsbD 1 then d.2.setCell b off (some (.programmed w))
  else d.2

/-- Spoils words from an offset on. -/
def State.spoilWords (b off : Nat) : List Word → State → State
  | [], s => s
  | w :: rest, s => State.spoilWords b (off + 1) rest (s.spoilWord b off w)

/-- Erases every word of a sector. -/
def State.clearSector (b sector : Nat) (s : State) : State :=
  let l := s.locate b (sector * 2048)
  s.onBank l.1 (fun k =>
    { k with cells := k.cells.filter (fun c => !(l.2 ≤ c.1 && c.1 < l.2 + 2048)) })

/-! ## Areas (R491, R497) -/

/-- The areas of R491. -/
inductive FlashArea
  | options | image | manifests | counters | cardJournal | eraseJournal | store | ledger | events | save | reserved
  | spares
deriving DecidableEq, Repr

/-- The area of a sector. -/
def areaOf (b sector : Nat) : FlashArea :=
  if b = 0 then
    if sector < 4 then .options else if sector < 516 then .image else if sector < 1028 then .manifests
    else if sector < 1044 then .counters else if sector < 1052 then .cardJournal
    else if sector < 1056 then .eraseJournal else .store
  else
    if sector < 1024 then .ledger else if sector < 1152 then .events else if sector < 1156 then .eraseJournal
    else if sector < 1220 then .save else if sector < 2016 then .reserved else .spares

/-- R497: the areas that programs and erases reach. -/
def FlashArea.programmable : FlashArea → Bool
  | .image | .manifests | .cardJournal | .store | .ledger | .events | .save => true
  | _ => false

/-- R497: code and areas of each command. -/
def FlashCmd.code : FlashCmd → Nat
  | .wordProgram => 1 | .rowProgram => 2 | .sectorErase => 3 | .eraseSuspend => 4 | .eraseResume => 5 | .retireWord => 6
  | .marginRead => 7 | .counterIncrement => 8 | .counterSet => 9 | .optionRewrite => 10 | .lifecycleAdvance => 11

/-- The command of a code. -/
def FlashCmd.ofCode : Nat → Option FlashCmd
  | 1 => some .wordProgram | 2 => some .rowProgram | 3 => some .sectorErase | 4 => some .eraseSuspend
  | 5 => some .eraseResume | 6 => some .retireWord | 7 => some .marginRead | 8 => some .counterIncrement
  | 9 => some .counterSet | 10 => some .optionRewrite | 11 => some .lifecycleAdvance | _ => none

/-- R497: 0, or ADDRESS_RANGE or AREA_PROTECTED. -/
def FlashOp.rangeCode (o : FlashOp) : Nat :=
  let a := areaOf o.bank (o.addr / 2048)
  let outside := o.addr ≥ 2 ^ 22 || a == .reserved
  match o.cmd with
  | .wordProgram | .sectorErase =>
    if outside then addressRange else if a.programmable then 0 else areaProtected
  | .rowProgram =>
    if outside || o.addr % 64 != 0 || o.addr + o.words.length > 2 ^ 22 ||
        areaOf o.bank ((o.addr + o.words.length - 1) / 2048) == .reserved then addressRange
    else if a.programmable && (areaOf o.bank ((o.addr + o.words.length - 1) / 2048)).programmable then 0
    else areaProtected
  | .retireWord => if outside then addressRange else if a.programmable || a == .options then 0 else areaProtected
  | .marginRead => if outside then addressRange else 0
  | _ => 0

/-! ## Erase journal (R500) and wear (R512) -/

/-- First sector of a bank's erase journal (R491). -/
def journalBase (b : Nat) : Nat := if b = 0 then 1052 else 1152

/-- R500: an entry or header. -/
def journalWordOf (kind sector spare serial : Nat) : Word :=
  BitVec.ofNat 48 (kind * 2 ^ 44 + sector * 2 ^ 32 + spare * 2 ^ 20 + serial)

/-- Programs the next journal word of a bank. -/
def State.journalPut (b : Nat) (w : Word) (s : State) : State :=
  let k := s.bank b
  (s.programWord b ((journalBase b + k.journalSector) * 2048 + k.journalWord) w).onBank b
    (fun k => { k with journalWord := k.journalWord + 1 })

/-- R500: when a journal sector is full or not yet begun, continues in the next one: header with generation plus 1,
every remap entry, every open or held entry that has no closing entry; the sector after it is erased. -/
def State.journalTurn (b : Nat) (s : State) : State :=
  let k := s.bank b
  if k.journalWord != 0 && k.journalWord < 2048 then s
  else
    let next := if k.journalWord = 0 then k.journalSector else (k.journalSector + 1) % 4
    let s := s.onBank b (fun k => { k with journalSector := next, journalWord := 0, journalGen := k.journalGen + 1 })
    let s := s.journalPut b (journalWordOf 6 0 0 (k.journalGen + 1))
    let s := s.forAll k.remaps (fun e => State.journalPut b (journalWordOf 5 e.1 e.2 0))
    let s := s.forAll k.held (fun e => State.journalPut b (journalWordOf 4 e.1 e.2 0))
    let s := s.forAll k.eraseOpen (fun e => State.journalPut b (journalWordOf 1 e 0 0))
    s.clearSector b (journalBase b + (next + 1) % 4)

/-- R500: records an entry. -/
def State.journal (b kind sector spare : Nat) (s : State) : State :=
  (s.journalTurn b).journalPut b (journalWordOf kind sector spare 0)

/-- Replaces n octets of an octet-string object from an offset. -/
def State.putOctetsAt (key off : Nat) (b : List Byte) (s : State) : State :=
  let v := s.objOctets key
  s.put key (.octets (v.take off ++ b ++ v.drop (off + b.length)))

/-- Erase count of a sector (0x7300:03). -/
def State.eraseCount (s : State) (b sector : Nat) : Nat :=
  beNat (((s.objOctets (okey 0x7300 3)).drop (2 * (b * 2048 + sector))).take 2)

/-- R501 step 4 and R512: adds 1 to the erase count; logs an event at the wear warning and at each further 1,000. -/
def State.countErase (b sector : Nat) (s : State) : State :=
  let n := min (s.eraseCount b sector + 1) 65535
  let s := s.putOctetsAt (okey 0x7300 3) (2 * (b * 2048 + sector)) (beOctets 2 n)
  let warn := s.objNum (okey 0x7300 0x11)
  if n ≥ warn && (n - warn) % 1000 == 0 then s.event 0x5A 0 else s

/-- R512: the last-margin time of a sector. -/
def State.marginTime (b sector : Nat) (s : State) : State :=
  s.putOctetsAt (okey 0x7300 9) (6 * (b * 2048 + sector)) (beOctets 6 s.now)

/-- Spares in use: remapped to, or holding a refresh copy (R504, R510). -/
def State.sparesUsed (s : State) : List Nat :=
  ((s.bank 0).remaps ++ (s.bank 1).remaps ++ (s.bank 0).held ++ (s.bank 1).held).map (fun e => e.2)

/-- Free spares of the 32. -/
def State.freeSpares (s : State) : List Nat := (List.range 32).filter (fun x => !s.sparesUsed.contains x)

/-- R510, R512: the least-erased free spare, the lowest of equals. -/
def State.leastErasedSpare (s : State) : Option Nat :=
  s.freeSpares.foldl (fun best x =>
    match best with
    | none => some x
    | some y => if s.eraseCount 1 (2016 + x) < s.eraseCount 1 (2016 + y) then some x else some y) none

/-- R501 steps 2 to 4 done: the sector is erased, closed and counted. -/
def State.finishErase (b sector : Nat) (s : State) : State :=
  (((s.clearSector b sector).onBank b (fun k => { k with eraseOpen := k.eraseOpen.filter (· != sector) })).journal b 2
    sector 0).countErase b sector

/-- R501 step 1: the sector is erase-open. -/
def State.openErase (b sector : Nat) (s : State) : State :=
  if (s.bank b).eraseOpen.contains sector then s
  else (s.journal b 1 sector 0).onBank b (fun k => { k with eraseOpen := sector :: k.eraseOpen })

/-- A whole erase within one step, for the N4812's own rewrites. -/
def State.eraseNow (b sector : Nat) (s : State) : State := (s.openErase b sector).finishErase b sector

/-- R504: a sector that fails erase is remapped while more than 4 spares would stay free; otherwise it stays erase-open
and an event is logged. -/
def State.remapSector (b sector : Nat) (s : State) : State × Nat :=
  match s.leastErasedSpare with
  | some spare =>
    if s.freeSpares.length > 4 then
      (((s.journal b 5 sector spare).onBank b
        (fun k => { k with remaps := kset k.remaps sector spare, eraseOpen := k.eraseOpen.filter (· != sector) })),
        eraseFailed)
    else (s.event 0x5A 0, sparesExhausted)
  | none => (s.event 0x5A 0, sparesExhausted)

/-! ## Counters (R505 to R507) -/

/-- First word of a page of a counter. -/
def counterPage (k page : Nat) : Nat := (1028 + 2 * k + page) * 2048

/-- R506: generation of a valid page. -/
def State.pageGeneration (s : State) (k page : Nat) : Option Nat :=
  match s.flashRead 0 (counterPage k page + 1) with
  | .value w => if w.toNat / 2 ^ 24 = 0x434E54 then some (w.toNat % 2 ^ 24) else none
  | _ => none

/-- R506: the valid page of higher generation. -/
def State.counterCurrent (s : State) (k : Nat) : Option Nat :=
  match s.pageGeneration k 0, s.pageGeneration k 1 with
  | none, none => none
  | some _, none => some 0
  | none, some _ => some 1
  | some a, some b => if a ≥ b then some 0 else some 1

/-- R506: words 2 to 2,047 of a page that do not read erased. -/
def State.pageCount (s : State) (k page : Nat) : Nat :=
  let l := s.locate 0 (counterPage k page)
  ((s.bank l.1).cells.filter (fun c => l.2 + 2 ≤ c.1 && c.1 < l.2 + 2048)).length

/-- R506: the counter's value; zero with no valid page (R507). -/
def State.counter (s : State) (k : Nat) : Nat :=
  match s.counterCurrent k with
  | none => 0
  | some p =>
    (match s.flashRead 0 (counterPage k p) with | .value w => w.toNat | _ => 0) + s.pageCount k p

/-- R507: switches to the other page with a new base; with no valid page, page 0 begins at generation 1. -/
def State.counterSwitch (k v : Nat) (s : State) : State :=
  let other := match s.counterCurrent k with | some p => 1 - p | none => 0
  let gen := match s.counterCurrent k with | some p => (s.pageGeneration k p).getD 0 + 1 | none => 1
  let s := s.eraseNow 0 (1028 + 2 * k + other)
  (s.programWord 0 (counterPage k other) (BitVec.ofNat 48 v)).programWord 0 (counterPage k other + 1)
    (BitVec.ofNat 48 (0x434E54 * 2 ^ 24 + gen % 2 ^ 24))

/-- R506, R507: one increment. -/
def State.counterInc (k : Nat) (s : State) : State :=
  match s.counterCurrent k with
  | none => (s.event 0x5A 0).counterSwitch k 1
  | some p =>
    match (List.range 2046).find? (fun i => (s.cell 0 (counterPage k p + 2 + i)).isNone) with
    | some i => s.programWord 0 (counterPage k p + 2 + i) 0
    | none => s.counterSwitch k (s.counter k + 1)

/-- R507: a set; below the current value it ends COUNTER_BACKWARD. -/
def State.counterSetTo (k v : Nat) (s : State) : State × Nat :=
  if v < s.counter k then (s, counterBackward)
  else ((if (s.counterCurrent k).isNone then s.event 0x5A 0 else s).counterSwitch k v, 0)

/-! ## Lifecycle and option area (R77, R78, R91, R93, R508, R509) -/

/-- R77: the value that the lifecycle words of a copy give; a copy with an erase-open sector gives 0. -/
def State.copyLifecycle (s : State) (c : Nat) : Nat :=
  if s.eraseOpen 0 (c * 4096) || s.eraseOpen 0 (c * 4096 + 2048) then 0
  else ((List.range 4).takeWhile (fun i => (s.cell 0 (c * 4096 + 16 + i)).isSome)).length

/-- R77: the lifecycle. -/
def State.lifecycle (s : State) : Nat := max (s.copyLifecycle 0) (s.copyLifecycle 1)

/-- R78: programs the next lifecycle word of both copies with the retire pattern. -/
def State.lifecycleNext (s : State) : State :=
  let n := s.lifecycle
  if n < 4 then (s.programWord 0 (16 + n) 0).programWord 0 (4096 + 16 + n) 0 else s

/-- The magic of a copy (R91). -/
def optionMagic : Word := 0x4F5054000001

/-- R91: the digest over words 0 to 2, 11 to 15 and 20 to the end, each under R5. -/
def optionDigest (w : List Word) : List Byte :=
  sha384 (wordsBe (w.take 3 ++ (w.drop 11).take 5 ++ w.drop 20))

/-- R93: the words 0 to body length − 1 of a copy when it is valid. The lifecycle words deliver what they read. -/
def State.optionCopy (s : State) (c : Nat) : Option (List Word) :=
  match s.flashRead 0 (c * 4096), s.flashRead 0 (c * 4096 + 2) with
  | .value m, .value n =>
    if m = optionMagic ∧ 64 ≤ n.toNat ∧ n.toNat ≤ 2048 then
      match s.flashWords 0 (c * 4096) n.toNat with
      | some w =>
        if ((w.drop 3).take 8).flatMap wordOctets = optionDigest w then some w else none
      | none => none
    else none
  | _, _ => none

/-- Erases the two sectors of a copy and programs it whole with a generation (R509 steps 1 to 5). -/
def State.writeCopy (c generation : Nat) (w : List Word) (s : State) : State :=
  let life := s.lifecycle
  let s := (s.eraseNow 0 (2 * c)).eraseNow 0 (2 * c + 1)
  let s := s.programWords 0 (c * 4096 + 16) (List.replicate life 0)
  let g : Word := BitVec.ofNat 48 generation
  let body := [optionMagic, g, w.getD 2 64] ++ (w.drop 3)
  let d := packAll (optionDigest body)
  let s := s.programWords 0 (c * 4096 + 1) [g, w.getD 2 64]
  let s := s.programWords 0 (c * 4096 + 11) ((w.drop 11).take 5)
  let s := s.programWords 0 (c * 4096 + 20) (w.drop 20)
  let s := s.programWords 0 (c * 4096 + 3) d
  s.programWord 0 (c * 4096) optionMagic

/-- The copy that R93 selects: its number and words. -/
def State.optionSelect (s : State) : Option (Nat × List Word) :=
  match s.optionCopy 0, s.optionCopy 1 with
  | none, none => none
  | some a, none => some (0, a)
  | none, some b => some (1, b)
  | some a, some b => if (a.getD 1 0).toNat ≥ (b.getD 1 0).toNat then some (0, a) else some (1, b)

/-- R509: the copy that a rewrite writes, and its generation: copy A when neither is valid, the invalid one when one is, else
the one not in use, with the generation of the copy in use (or of the valid one) plus 1. -/
def State.rewriteTarget (s : State) : Nat × Nat :=
  match s.optionCopy 0, s.optionCopy 1 with
  | none, none => (0, 1)
  | some a, none => (1, (a.getD 1 0).toNat + 1)
  | none, some b => (0, (b.getD 1 0).toNat + 1)
  | some a, some b =>
    let inB : Bool := match s.modes.options.copy with | some x => x | none => (s.optionSelect.map (fun e => e.1)) == some 1
    if inB then (0, (b.getD 1 0).toNat + 1) else (1, (a.getD 1 0).toNat + 1)

/-- R509: an option rewrite from source words, their count the body length; it succeeds. -/
def State.optionRewriteNow (w : List Word) (s : State) : State :=
  let t := s.rewriteTarget
  s.writeCopy t.1 t.2 w

/-- The copy that a rewrite was writing when it failed: its sectors are erased, so it lacks a valid magic. -/
def State.optionSpoil (s : State) : State :=
  let t := s.rewriteTarget
  (s.eraseNow 0 (2 * t.1)).eraseNow 0 (2 * t.1 + 1)

/-! ## Image areas (R102, R491) -/

/-- First word of an image area in bank 0: A in sectors 4 to 259, B in 260 to 515. -/
def imageWord (areaB : Bool) : Nat := (if areaB then 260 else 4) * 2048

/-- R102: the 64 header octets of an area; empty when they do not read. -/
def State.imageHeader (s : State) (areaB : Bool) : List Byte := (s.flashOctets 0 (imageWord areaB) 64).getD []

/-- R102: security version of the image in an area. -/
def State.imageVersion (s : State) (areaB : Bool) : Nat := beNat (((s.imageHeader areaB).drop 8).take 3)

/-! ## Operations of the two paths (R495 to R504, R510) -/

/-- Requester number of the flash queue's interrupt (R474). -/
def flashInterrupt : Nat := 10

/-- Octet pointer of word i of a queue descriptor. -/
def FlashCtl.descPtr (c : FlashCtl) (index i : Nat) : Nat :=
  (octMove c.fqBase.toNat (((index % (max 1 c.fqSize.toNat)) * 24 + 6 * i : Nat) : Int)).toNat

/-- A word of commons at an octet pointer of index 0 (R24, R4); commons begins at word 0x100000. -/
def State.commonsWord (s : State) (p : Nat) : Word := octetsWord (memOctets s.commons p 6)

/-- Writes a word of commons. -/
def State.setCommonsWord (p : Nat) (w : Word) (s : State) : State := s.onCommons (fun m => memStore m p (wordOctets w))

/-- Word i of the queue descriptor of an index (R498). -/
def State.descWord (s : State) (index i : Nat) : Word := s.commonsWord (s.flash.descPtr index i)

/-- A field of a word: bits [hi:lo]. -/
def bitsOf (w : Word) (hi lo : Nat) : Nat := w.toNat / 2 ^ lo % 2 ^ (hi - lo + 1)

/-- Words of commons from an octet pointer of index 0. -/
def State.commonsWords (s : State) (p n : Nat) : List Word := (List.range n).map (fun i => s.commonsWord (p + 8 * i))

/-- R498: status and completion code are written into the descriptor. -/
def State.descStatus (index status code : Nat) (s : State) : State :=
  let w0 := s.descWord index 0
  let w3 := s.descWord index 3
  let s := s.setCommonsWord (s.flash.descPtr index 0)
    (BitVec.ofNat 48 (bitsOf w0 47 40 * 2 ^ 40 + status * 2 ^ 32 + bitsOf w0 31 0))
  s.setCommonsWord (s.flash.descPtr index 3) (BitVec.ofNat 48 (code * 2 ^ 24 + bitsOf w3 23 0))

/-- FQ_HEAD passes every finished descriptor, oldest first (R495). -/
def FlashCtl.advanceHead (c : FlashCtl) : FlashCtl :=
  let size := max 1 c.fqSize.toNat
  { c with fqHead := ((List.range size).find? (fun i =>
      let h := (c.fqHead + i) % size
      h == c.fqTail % size || c.fqOpen.contains h)).elim c.fqHead (fun i => (c.fqHead + i) % size) }

/-- The end of an operation: its requester is told (R495, R498). -/
def State.reportFlash (r : FlashFor) (status code : Nat) (s : State) : State :=
  match r with
  | .direct =>
    (s.onFlash (fun c => { c with fcState := status, fcCode := code })).interruptAll flashInterrupt
  | .queue i =>
    let irq := bitsOf (s.descWord i 0) 27 27 = 1 && s.flash.fqCtrl.getLsbD 1
    let s := (s.descStatus i status code).onFlash (fun c =>
      { c with fqOpen := c.fqOpen.filter (· != i) }.advanceHead)
    if irq then s.interruptAll flashInterrupt else s
  | .internal => s

/-- Status codes of FC_STAT [47:40]. -/
def flashBusy : Nat := 1
def flashDone : Nat := 2
def flashFailed : Nat := 3
def flashStopped : Nat := 4

/-- The operation is a program, which an erase may have to make way for. -/
def FlashOp.isErase (o : FlashOp) : Bool := o.cmd == .sectorErase

/-- Checks at the start of an operation: 0 or the code with which it ends (R494, R497, R502, R507). -/
def State.startCode (s : State) (o : FlashOp) : Nat :=
  if o.rangeCode != 0 then o.rangeCode
  else match o.cmd with
  | .wordProgram | .rowProgram =>
    let rest := o.words.drop o.progress
    if s.eraseOpen o.bank (o.addr + o.progress) || s.eraseOpen o.bank (o.addr + o.words.length - 1) then sectorEraseOpen
    else if s.mayProgramAll o.bank (o.addr + o.progress) (if o.progress = 0 then rest else rest.take 64) then 0
    else programTwice
  | .retireWord => if s.eraseOpen o.bank o.addr then sectorEraseOpen else 0
  | .counterSet => if o.data.toNat < s.counter (o.addr % 8) then counterBackward else 0
  | _ => 0

/-- R510 step 1: the words of a sector as they stand go to a spare. -/
def State.copyToSpare (b sector spare : Nat) (s : State) : State :=
  let l := s.locate b (sector * 2048)
  let base := (2016 + spare) * 2048
  let copy := ((s.bank l.1).cells.filter (fun c => l.2 ≤ c.1 && c.1 < l.2 + 2048)).map (fun c => (base + c.1 % 2048, c.2))
  let s := s.onBank 1 (fun k => { k with cells := k.cells.filter (fun c => !(base ≤ c.1 && c.1 < base + 2048)) })
  s.forAll copy (fun e => State.onBank 1 (fun k => { k with cells := kset k.cells e.1 e.2 }))

/-- R510: the erase of a held sector is about to begin: its copy takes what has been programmed since. -/
def State.renewCopy (b sector : Nat) (s : State) : State :=
  match kget (s.bank b).held sector with
  | none => s
  | some spare => if (s.bank b).eraseOpen.contains sector then s else s.copyToSpare b sector spare

/-- Starts an operation on its idle bank; an erase programs its open entry (R501). -/
def State.startFlash (o : FlashOp) (s : State) : State :=
  let s := if o.isErase then (s.renewCopy o.bank (o.addr / 2048)).openErase o.bank (o.addr / 2048) else s
  s.onBank o.bank (fun k => { k with running := some o, ranMinimum := if o.isErase then false else k.ranMinimum })

/-- R499: of two waiting operations the lower class goes first, then the earlier arrival. -/
def FlashOp.before (a b : FlashOp) : Bool := a.cls < b.cls || (a.cls == b.cls && a.order < b.order)

/-- R499, R503, R513: the waiting operation that the idle bank takes: held classes wait during a power fail, an erase
waits while one is suspended. -/
def State.nextFlash (s : State) (b : Nat) : Option FlashOp :=
  let k := s.bank b
  (k.waiting.filter (fun o => (!s.flash.powerFail || o.cls == 0) && (!o.isErase || k.suspended.isNone))).foldl
    (fun best o => match best with
      | none => some o
      | some x => if o.before x then some o else some x) none

/-- R503: the suspended erase resumes when no program of a lower class waits. -/
def State.mayResume (s : State) (b : Nat) : Bool :=
  !s.flash.powerFail &&
  match (s.bank b).suspended with
  | some e => (s.bank b).waiting.all (fun o => o.isErase || !(o.cls < e.cls))
  | none => false

/-- Gives an idle bank its next work; an operation that its start checks end is reported and the next one is taken. -/
def State.pumpBank (b : Nat) : Nat → State → State
  | 0, s => s
  | fuel + 1, s =>
    if (s.bank b).running.isSome then s
    else if s.mayResume b then
      s.onBank b (fun k => { k with running := k.suspended, suspended := none, ranMinimum := false })
    else match s.nextFlash b with
    | none => s
    | some o =>
      let s := s.onBank b (fun k => { k with waiting := k.waiting.filter (· != o) })
      let c := s.startCode o
      if c = 0 then s.startFlash o
      else State.pumpBank b fuel (s.reportFlash o.requester flashFailed c)

/-- R503: the running erase is suspended when a waiting program of a lower class demands it: a class-0 program at once,
another once the erase has run 1 ms. -/
def State.preempt (b : Nat) (s : State) : State :=
  let k := s.bank b
  match k.running with
  | some e =>
    if e.isErase && k.suspended.isNone &&
        k.waiting.any (fun o => !o.isErase && ((o.cls == 0 && 0 < e.cls) || (o.cls < e.cls && k.ranMinimum))) then
      s.onBank b (fun k => { k with running := none, suspended := some e, ranMinimum := false })
    else s
  | none => s

/-- Preemption, then the bank's next work. -/
def State.pump (b : Nat) (s : State) : State :=
  let s := s.preempt b
  State.pumpBank b ((s.bank b).waiting.length + 1) s

/-- Adds an operation to those waiting for its bank and lets the bank go on. -/
def State.submitFlash (o : FlashOp) (s : State) : State :=
  let o := { o with order := s.flash.order }
  ((s.onFlash (fun c => { c with order := c.order + 1 })).onBank o.bank
    (fun k => { k with waiting := k.waiting ++ [o] })).pump o.bank

/-- A class-4 erase of the controller's own: completion of an erase-open sector (R504), a refresh (R510). -/
def backgroundErase (b sector : Nat) : FlashOp :=
  { cmd := .sectorErase, bank := b, addr := sector * 2048, words := [], data := 0, cls := 4, requester := .internal,
    progress := 0, order := 0 }

/-- R510 steps 1 to 3: the sector is copied to the least-erased free spare, held, and erased at class 4. -/
def State.refresh (b sector : Nat) (s : State) : State :=
  match s.leastErasedSpare with
  | none => s
  | some spare =>
    if (kget (s.bank b).held sector).isSome then s
    else
      let s := ((s.copyToSpare b sector spare).journal b 4 sector spare).onBank b (fun k => { k with held := kset k.held sector spare })
      s.submitFlash (backgroundErase b sector)

/-- R510 steps 4 to 6: the rows are copied back, the held copy is closed and the spare erased. -/
def State.refreshEnd (b sector : Nat) (s : State) : State :=
  match kget (s.bank b).held sector with
  | none => s
  | some spare =>
    let base := (2016 + spare) * 2048
    let copy := (s.bank 1).cells.filter (fun c => base ≤ c.1 && c.1 < base + 2048)
    let s := s.forAll copy (fun e => State.setCell b (sector * 2048 + e.1 % 2048) (some e.2))
    let s := (s.onBank b (fun k => { k with held := kdel k.held sector })).journal b 2 sector 0
    let s := s.eraseNow 1 (2016 + spare)
    (s.bump (okey 0x7300 6)).marginTime b sector

/-- R510: what a margin read finds: failing words are counted, and a sector that fails or needed a correction is
refreshed. -/
def State.marginResult (b sector failing : Nat) (corrected : Bool) (s : State) : State :=
  let s := (s.bumpBy (okey 0x7300 7) 48 failing).marginTime b sector
  let s := if corrected then s.bumpWord (okey 0x7100 0x40) 6 5 else s
  if failing > 0 || corrected then s.refresh b sector else s

/-- Ends the running operation of a bank: report, then the bank's next work. -/
def State.endFlash (b : Nat) (o : FlashOp) (status code : Nat) (s : State) : State :=
  ((s.onBank b (fun k => { k with running := none })).reportFlash o.requester status code).pump b

/-- R499: a row program of several rows yields to a waiter of a lower class between rows. -/
def State.yields (s : State) (o : FlashOp) : Bool :=
  o.cmd == .rowProgram && o.progress + 64 < o.words.length &&
    (s.bank o.bank).waiting.any (fun x => x.cls < o.cls && !x.isErase)

/-- The effect of a running operation whose every verify passed. -/
def State.flashVerified (b : Nat) (o : FlashOp) (s : State) : State :=
  match o.cmd with
  | .wordProgram | .rowProgram =>
    if s.yields o then
      let row := (o.words.drop o.progress).take 64
      let s := s.programWords b (o.addr + o.progress) row
      (s.onBank b (fun k =>
        { k with running := none, waiting := k.waiting ++ [{ o with progress := o.progress + 64 }] })).pump b
    else (s.programWords b (o.addr + o.progress) (o.words.drop o.progress)).endFlash b o flashDone 0
  | .sectorErase => ((s.finishErase b (o.addr / 2048)).refreshEnd b (o.addr / 2048)).endFlash b o flashDone 0
  | .retireWord => (s.programWord b o.addr 0).endFlash b o flashDone 0
  | .counterIncrement => (s.counterInc (o.addr % 8)).endFlash b o flashDone 0
  | .counterSet => (s.counterSetTo (o.addr % 8) o.data.toNat).1.endFlash b o flashDone 0
  | .optionRewrite => (s.optionRewriteNow o.words).endFlash b o flashDone 0
  | .lifecycleAdvance => s.lifecycleNext.endFlash b o flashDone 0
  | .marginRead => s.endFlash b o flashDone 0
  | .eraseSuspend | .eraseResume => s.endFlash b o flashDone 0

/-- The effect of a running operation that failed beyond its repeats. -/
def State.flashBroken (b : Nat) (o : FlashOp) (s : State) : State :=
  match o.cmd with
  | .wordProgram => (s.spoilWords b o.addr o.words).endFlash b o flashFailed programFailed
  | .rowProgram =>
    (s.spoilWords b (o.addr + o.progress) ((o.words.drop o.progress).take 64)).endFlash b o flashFailed programFailed
  | .retireWord => (s.spoilWord b o.addr 0).endFlash b o flashFailed programFailed
  | .sectorErase =>
    let r := s.remapSector b (o.addr / 2048)
    r.1.endFlash b o flashFailed r.2
  | .optionRewrite => s.optionSpoil.endFlash b o flashFailed optionWriteFailed
  | _ => s.endFlash b o flashFailed programFailed

/-- FLASH_OPERATION_COMPLETE: the running operation of a bank ends. -/
def State.flashComplete (b : Nat) (e : FlashEnd) (s : State) : State :=
  match (s.bank b).running with
  | none => s
  | some o =>
    match e with
    | .verified => s.flashVerified b o
    | .failed => s.flashBroken b o
    | .margin failing corrected =>
      if o.cmd == .marginRead then
        let s := if o.requester == .direct then
            s.onFlash (fun c => { c with fcResult := BitVec.ofNat 48 (min failing 4095 + if corrected then 4096 else 0) })
          else s
        (s.marginResult b (o.addr / 2048) failing corrected).endFlash b o flashDone 0
      else s

/-- R514: the running or waiting operation of a requester ends Aborted. A program's words of the row in hand are left
erased, programmed or torn; an erase is parked erase-open with its completion queued at class 4. -/
def State.abortFlash (r : FlashFor) (s : State) : State :=
  [0, 1].foldl (fun s b =>
    let k := s.bank b
    let hit : Option FlashOp → Bool := fun o => match o with | some x => x.requester == r | none => false
    if hit k.running then
      match k.running with
      | none => s
      | some o =>
        let s := match o.cmd with
          | .wordProgram | .rowProgram => s.spoilWords b (o.addr + o.progress) ((o.words.drop o.progress).take 64)
          | .retireWord => s.spoilWord b o.addr 0
          | _ => s
        let s := s.onBank b (fun k => { k with running := none })
        let s := s.reportFlash r flashStopped flashAborted
        if o.isErase then s.submitFlash (backgroundErase b (o.addr / 2048)) else s.pump b
    else if hit k.suspended then
      match k.suspended with
      | none => s
      | some o =>
        ((s.onBank b (fun k => { k with suspended := none })).reportFlash r flashStopped flashAborted).submitFlash
          (backgroundErase b (o.addr / 2048))
    else if k.waiting.any (fun x => x.requester == r) then
      ((s.onBank b (fun k => { k with waiting := k.waiting.filter (fun x => x.requester != r) })).reportFlash r
        flashStopped flashAborted).pump b
    else s) s

/-! ## The direct path (R495, R496) -/

/-- FC_KEY: the two key values in order. -/
def State.fcKeyWrite (w : Word) (s : State) : State :=
  s.onFlash (fun c =>
    { c with keyStage := if w = 0x6E2F41 then 1 else if w = 0x91D0BE && c.keyStage = 1 then 2 else 0 })

/-- R496: a KEY_SEQUENCE outcome, and the lock after three of them. -/
def State.keyFailure (s : State) : State :=
  let s := (s.bumpBy (okey 0x7300 0x0C) 24 1).onFlash (fun c =>
    { c with fcState := flashFailed, fcCode := keySequence, keyStage := 0, keyFails := c.keyFails + 1 })
  if s.flash.keyFails ≥ 3 then (s.onFlash (fun c => { c with locked := true })).event 0x5A 0 else s

/-- The operation of a direct-path command: class 2, its words from FC_DATA or from commons at FC_SRC. -/
def State.directOp (s : State) (cmd : FlashCmd) (bank : Nat) : FlashOp :=
  let c := s.flash
  let src := bitsOf c.fcSrc 27 0
  { cmd, bank, addr := bitsOf c.fcAddr 21 0,
    words := match cmd with
      | .wordProgram => [c.fcData]
      | .rowProgram => s.commonsWords src (64 * bitsOf c.fcSrc 47 40)
      | .optionRewrite => s.commonsWords src c.fcData.toNat
      | _ => [],
    data := c.fcData, cls := 2, requester := .direct, progress := 0, order := 0 }

/-- R503: command 0x04 suspends the running erase of a bank; 0x05 resumes the suspended one. -/
def State.eraseControl (cmd : FlashCmd) (b : Nat) (s : State) : State :=
  let k := s.bank b
  match cmd with
  | .eraseSuspend =>
    (match k.running with
    | some e => if e.isErase && k.suspended.isNone then
        let s := s.onBank b (fun k => { k with running := none, suspended := some e, ranMinimum := false })
        if (s.nextFlash b).isSome then s.pump b else s
      else s
    | none => s)
  | .eraseResume =>
    if k.running.isNone && k.suspended.isSome && !s.flash.powerFail then
      s.onBank b (fun k => { k with running := k.suspended, suspended := none, ranMinimum := false })
    else s
  | _ => s
/-- FC_CMD for a command of R497 on the direct path: key sequence, lock, then the operation. A write while the path is
busy carries no operation (DESIGN CHOICE, notes/assumptions/30.md). -/
def State.directFlash (cmd : FlashCmd) (bank : Nat) (inTime : Bool) (s : State) : State :=
  if s.flash.locked then s.onFlash (fun c => { c with fcState := flashFailed, fcCode := pathLocked, keyStage := 0 })
  else if s.flash.keyStage != 2 || !inTime then s.keyFailure
  else if s.flash.fcState = flashBusy then s.onFlash (fun c => { c with keyStage := 0 })
  else
    let s := s.onFlash (fun c => { c with fcState := flashBusy, fcCode := 0, keyStage := 0, keyFails := 0 })
    match cmd with
    | .eraseSuspend | .eraseResume => (s.eraseControl cmd bank).reportFlash .direct flashDone 0
    | _ => s.submitFlash (s.directOp cmd bank)

/-! ## The descriptor queue (R495, R498, R499) -/

/-- R498: the operation of a descriptor, none when its fields break the table. -/
def State.descOp (s : State) (index : Nat) : Option FlashOp :=
  let w0 := s.descWord index 0
  let w1 := s.descWord index 1
  let w2 := s.descWord index 2
  let cls := bitsOf w0 31 29
  let rows := bitsOf w2 47 40
  match FlashCmd.ofCode (bitsOf w0 47 40) with
  | none => none
  | some cmd =>
    if bitsOf w0 26 22 != 0 || bitsOf w2 39 28 != 0 || cls < 1 || cls > 3 ||
        (cmd == .rowProgram && (rows < 1 || rows > 32)) || ((cmd == .rowProgram || cmd == .optionRewrite) &&
          bitsOf w2 2 0 != 0) then none
    else some
      { cmd, bank := bitsOf w0 28 28, addr := bitsOf w0 21 0,
        words := match cmd with
          | .wordProgram => [w1]
          | .rowProgram => s.commonsWords (bitsOf w2 27 0) (64 * rows)
          | .optionRewrite => s.commonsWords (bitsOf w2 27 0) w1.toNat
          | _ => [],
        data := w1, cls, requester := .queue index, progress := 0, order := 0 }

/-- Takes one submitted descriptor into the controller. -/
def State.takeDesc (index : Nat) (s : State) : State :=
  match s.descOp index with
  | none => s.reportFlash (.queue index) flashFailed queueInvalid
  | some o =>
    let s := s.descStatus index flashBusy 0
    match o.cmd with
    | .eraseSuspend | .eraseResume => (s.eraseControl o.cmd o.bank).reportFlash (.queue index) flashDone 0
    | _ => s.submitFlash o

/-- Submitted descriptors not yet taken that stand among the 16 oldest unfinished ones (R499). -/
def State.takeable (s : State) : List Nat :=
  (s.flash.fqOpen.take 16).filter (fun i =>
    !([0, 1].any (fun b =>
      ((s.bank b).running.toList ++ (s.bank b).suspended.toList ++ (s.bank b).waiting).any
        (fun o => o.requester == .queue i))))

/-- FQ_TAIL: the descriptors up to the new tail are submitted; one whose fields break the table ends at once. -/
def State.fqTail (v : Nat) (s : State) : State :=
  let size := max 1 s.flash.fqSize.toNat
  let from_ := s.flash.fqTail
  let n := (v % size + size - from_ % size) % size
  let fresh := (List.range n).map (fun i => (from_ + i) % size)
  let s := s.onFlash (fun c => { c with fqTail := v % 512, fqOpen := c.fqOpen ++ fresh })
  s.forAll (fresh.filter (fun i => (s.descOp i).isNone))
    (fun i => State.reportFlash (.queue i) flashFailed queueInvalid)

/-- R513: PFAIL_N falls, or rises again. -/
def State.flashPowerFail (s : State) : State :=
  [0, 1].foldl (fun s b =>
    s.onBank b (fun k =>
      match k.running with
      | some e =>
        if e.isErase then
          { k with running := none, suspended := some e, ranMinimum := false,
                   waiting := k.suspended.toList ++ k.waiting }
        else k
      | none => k)) (s.onFlash (fun c => { c with powerFail := true }))

/-- The held operations and suspended erases go on. -/
def State.flashPowerBack (s : State) : State :=
  ((s.onFlash (fun c => { c with powerFail := false })).pump 0).pump 1

/-- R610: a device reset on the controller: a program in progress completes the row that it is programming, an erase
stays erase-open, everything else is discarded. -/
def State.flashReset (s : State) : State :=
  let s := [0, 1].foldl (fun s b =>
    let s := match (s.bank b).running with
      | some o =>
        (match o.cmd with
        | .wordProgram => s.programWords b o.addr o.words
        | .rowProgram => s.programWords b (o.addr + o.progress) ((o.words.drop o.progress).take 64)
        | .retireWord => s.programWord b o.addr 0
        | _ => s)
      | none => s
    s.onBank b (fun k => { k with running := none, suspended := none, waiting := [], ranMinimum := false })) s
  s.onFlash (fun c =>
    { c with keyStage := 0, keyFails := 0, locked := false, fcAddr := 0, fcData := 0, fcSrc := 0, fcState := 0,
             fcCode := 0, fcResult := 0, fqBase := 0, fqSize := 0, fqTail := 0, fqHead := 0, fqCtrl := 0, fqOpen := [],
             powerFail := false, marginPass := none })

/-- R504, R510: runtime start queues the completion of every erase-open sector, and of the refresh of every held one, at
class 4. -/
def State.completeErases (s : State) : State :=
  [0, 1].foldl (fun s b => s.forAll ((s.bank b).eraseOpen ++
    ((s.bank b).held.map (fun e => e.1)).filter (fun x => !(s.bank b).eraseOpen.contains x)) (fun x => State.submitFlash (backgroundErase b x))) s

/-- R511: the runtime start queues a margin read of every sector whose last margin read or refresh is older than
30 days; the model keeps those sectors in order. -/
def State.marginsDue (s : State) : List Nat :=
  let t := s.objOctets (okey 0x7300 9)
  (List.range 4096).filter (fun i => beNat ((t.drop (6 * i)).take 6) + 30 * 86400 * second < s.now)

end Sys2Proof.Machine
end

