-- ==== Sys2Proof/Machine/Curves.lean ====
section
/-! DEFINITION. Limbs, the Montgomery product, the lattice reduction, and curves
(spec/10_public_key_and_lattice.md, R323 to R334). -/

namespace Sys2Proof.Machine

/-! ## Numbers -/

/-- Bits of a number. -/
def bitsIn (n : Nat) : Nat := if n = 0 then 0 else n.log2 + 1

/-- base^e mod m, reading e bit by bit from its lowest. -/
def powModFrom (m : Nat) : Nat → Nat → Nat → Nat → Nat
  | 0, _, _, acc => acc % m
  | fuel + 1, base, e, acc =>
    powModFrom m fuel (base * base % m) (e / 2) (if e % 2 = 1 then acc * base % m else acc)

/-- base^e mod m. -/
def powMod (base e m : Nat) : Nat := powModFrom m (bitsIn e) (base % m) e 1

/-! ## Limbs and Montgomery arithmetic (R323 to R327) -/

/-- R323: B = 2^48. -/
def limbBase : Nat := 2 ^ 48

/-- R323: limb j of an integer. -/
def limb (x j : Nat) : Nat := x / limbBase ^ j % limbBase

/-- R324: limbs of a modulus. -/
def limbsOf (m : Nat) : Nat := (bitsIn m + 2 + 47) / 48

/-- One Newton step of the inverse of m modulo B. -/
def newtonStep (m x : Nat) : Nat := x * (2 * limbBase * limbBase + 2 - m * x % limbBase) % limbBase

/-- R325: m′ = −m⁻¹ mod B, by 4 Newton steps from m. -/
def montPrime (m : Nat) : Nat :=
  (limbBase - newtonStep m (newtonStep m (newtonStep m (newtonStep m (m % limbBase))))) % limbBase

/-- R326: the outer loop from limb i on, over the running value t. -/
def montLoop (m m' a b : Nat) : Nat → Nat → Nat → Nat
  | 0, _, t => t
  | fuel + 1, i, t =>
    let u := t + a * limb b i
    let q := u % limbBase * m' % limbBase
    montLoop m m' a b fuel (i + 1) ((u + q * m) / limbBase)

/-- R326: MontMul(a, b) = a·b·B^(−s) mod m, lazily reduced. -/
def montMul (m a b : Nat) : Nat := montLoop m (montPrime m) a b (limbsOf m) 0 0

/-- R327: modular addition on lazy values. -/
def lazyAdd (m a b : Nat) : Nat := if a + b < 2 * m then a + b else a + b - 2 * m

/-- R327: modular subtraction on lazy values. -/
def lazySub (m a b : Nat) : Nat := if a + 2 * m - b < 2 * m then a + 2 * m - b else a + 2 * m - b - 2 * m

/-- R328: canonical reduction of a value that has left Montgomery form. -/
def canonical (m x : Nat) : Nat := if x < m then x else x - m

/-- R334: the reduction of x < 2^48 for q: the estimate of the quotient, then one subtraction under a mask. -/
def latticeReduce (q x : Nat) : Nat :=
  let r := x - (x * (2 ^ 71 / q) / 2 ^ 71) * q
  if r < q then r else r - q

/-! ## Short Weierstrass curves (R329, R330) -/

/-- A curve definition. -/
structure CurveDef where
  p : Nat
  a : Nat
  b : Nat
  gx : Nat
  gy : Nat
  n : Nat
  h : Nat
  lp : Nat
  ln : Nat
deriving DecidableEq, Repr

/-- R330: the octets of a definition. -/
def CurveDef.octets (c : CurveDef) : List Byte :=
  [0x43, 0x52, 0x56, 0x31, BitVec.ofNat 8 c.lp, BitVec.ofNat 8 c.ln, BitVec.ofNat 8 c.h] ++
    beOctets c.lp c.p ++ beOctets c.lp c.a ++ beOctets c.lp c.b ++ beOctets c.lp c.gx ++ beOctets c.lp c.gy ++
    beOctets c.ln c.n

/-- Field i of Lp octets after the 7 leading octets. -/
def curveField (b : List Byte) (lp i n : Nat) : Nat := beNat ((b.drop (7 + i * lp)).take n)

/-- R331 check 1, and the fields. -/
def parseCurve (b : List Byte) : Option CurveDef :=
  let lp := (b.getD 4 0).toNat
  let ln := (b.getD 5 0).toNat
  let h := (b.getD 6 0).toNat
  if b.length = 7 + 5 * lp + ln ∧ b.take 4 = [0x43, 0x52, 0x56, 0x31] ∧ 24 ≤ lp ∧ lp ≤ 66 ∧ 24 ≤ ln ∧ ln ≤ lp + 1 ∧
      1 ≤ h ∧ h ≤ 4 ∧ b.getD 7 0 ≠ 0 ∧ b.getD (7 + 5 * lp) 0 ≠ 0 then
    some { p := curveField b lp 0 lp, a := curveField b lp 1 lp, b := curveField b lp 2 lp,
           gx := curveField b lp 3 lp, gy := curveField b lp 4 lp, n := curveField b lp 5 ln, h, lp, ln }
  else none

/-- P-256 (FIPS 186-5). -/
def p256 : CurveDef :=
  let p := 2 ^ 256 - 2 ^ 224 + 2 ^ 192 + 2 ^ 96 - 1
  { p, a := p - 3, b := 0x5ac635d8aa3a93e7b3ebbd55769886bc651d06b0cc53b0f63bce3c3e27d2604b,
    gx := 0x6b17d1f2e12c4247f8bce6e563a440f277037d812deb33a0f4a13945d898c296,
    gy := 0x4fe342e2fe1a7f9b8ee7eb4a7c0f9e162bce33576b315ececbb6406837bf51f5,
    n := 0xffffffff00000000ffffffffffffffffbce6faada7179e84f3b9cac2fc632551, h := 1, lp := 32, ln := 32 }

/-- P-384 (FIPS 186-5). -/
def p384 : CurveDef :=
  let p := 2 ^ 384 - 2 ^ 128 - 2 ^ 96 + 2 ^ 32 - 1
  { p, a := p - 3,
    b := 0xb3312fa7e23ee7e4988e056be3f82d19181d9c6efe8141120314088f5013875ac656398d8a2ed19d2a85c8edd3ec2aef,
    gx := 0xaa87ca22be8b05378eb1c71ef320ad746e1d3b628ba79b9859f741e082542a385502f25dbf55296c3a545e3872760ab7,
    gy := 0x3617de4a96262c6f5d9e98bf9292dc29f8f41dbd289a147ce9da3113b5f0b8c00a60b1ce1d7e819d7a431d7c90ea0e5f,
    n := 0xffffffffffffffffffffffffffffffffffffffffffffffffc7634d81f4372ddf581a0db248b0a77aecec196accc52973,
    h := 1, lp := 48, ln := 48 }

/-- P-521 (FIPS 186-5). -/
def p521 : CurveDef :=
  let p := 2 ^ 521 - 1
  { p, a := p - 3,
    b := 0x51953eb9618e1c9a1f929a21a0b68540eea2da725b99b315f3b8b489918ef10 * 2 ^ 268 +
      0x9e156193951ec7e937b1652c0bd3bb1bf073573df883d2c34f1ef451fd46b503f00,
    gx := 0xc6858e06b70404e9cd9e3ecb662395b4429c648139053fb521f828af606b4d3 * 2 ^ 268 +
      0xdbaa14b5e77efe75928fe1dc127a2ffa8de3348b3c1856a429bf97e7e31c2e5bd66,
    gy := 0x11839296a789a3bc0045c8a5fb42c7d1bd998f54449579b446817afbd17273e * 2 ^ 272 +
      0x662c97ee72995ef42640c550b9013fad0761353c7086a272c24088be94769fd16650,
    n := 2 ^ 521 - 2 ^ 264 + 0xfa51868783bf2f966b7fcc0148f709a5d03bb5c9b8899c47aebb6fb71e91386409,
    h := 1, lp := 66, ln := 66 }

/-- Whether a pair of coordinates lies on the curve. -/
def CurveDef.onCurve (c : CurveDef) (x y : Nat) : Bool :=
  x < c.p && y < c.p && (y * y % c.p == (x * x * x + c.a * x + c.b) % c.p)

/-- The sum of two points; none is the point at infinity. -/
def CurveDef.add (c : CurveDef) : Option (Nat × Nat) → Option (Nat × Nat) → Option (Nat × Nat)
  | none, q => q
  | q, none => q
  | some (x1, y1), some (x2, y2) =>
    if x1 = x2 ∧ (y1 + y2) % c.p = 0 then none
    else
      let l := if x1 = x2 then (3 * x1 * x1 + c.a) * powMod (2 * y1) (c.p - 2) c.p % c.p
        else (y2 + c.p - y1) * powMod (x2 + c.p - x1) (c.p - 2) c.p % c.p
      let x := (l * l + 2 * c.p - x1 - x2) % c.p
      some (x, (l * (x1 + c.p - x) + c.p - y1) % c.p)

/-- A multiple of a point, reading the scalar from its lowest bit. -/
def CurveDef.mulFrom (c : CurveDef) : Nat → Nat → Option (Nat × Nat) → Option (Nat × Nat) → Option (Nat × Nat)
  | 0, _, _, acc => acc
  | fuel + 1, k, q, acc => c.mulFrom fuel (k / 2) (c.add q q) (if k % 2 = 1 then c.add acc q else acc)

/-- k times a point. -/
def CurveDef.mul (c : CurveDef) (k : Nat) (q : Option (Nat × Nat)) : Option (Nat × Nat) :=
  c.mulFrom (bitsIn k) k q none

/-- Odd part and exponent of two of a number, for Miller–Rabin. -/
def twoPart : Nat → Nat → Nat × Nat
  | 0, d => (0, d)
  | fuel + 1, d => if d % 2 = 0 then let r := twoPart fuel (d / 2); (r.1 + 1, r.2) else (0, d)

/-- One Miller–Rabin round squares up to r − 1 times. -/
def millerSquares (n : Nat) : Nat → Nat → Bool
  | 0, _ => false
  | r + 1, x => x == n - 1 || millerSquares n r (x * x % n)

/-- One Miller–Rabin round passes for a base. -/
def millerRabin (n base : Nat) : Bool :=
  let t := twoPart (bitsIn n) (n - 1)
  let x := powMod base t.2 n
  x == 1 || millerSquares n t.1 x

/-- R331: Miller–Rabin with base 2 and 64 bases drawn from the DRBG, which the model leaves free. -/
def probablyPrime (draw n : Nat) : Bool :=
  n > 3 && n % 2 == 1 && millerRabin n 2 &&
    (List.range 64).all (fun i => millerRabin n (2 + Config.primeBase draw n i % (n - 3)))

/-- R331: the first check that a definition fails, 0 for none. `others`: the definitions of the other occupied slots. -/
def curveCheck (draw : Nat) (others : List (List Byte)) (b : List Byte) : Nat :=
  match parseCurve b with
  | none => 1
  | some c =>
    if !(c.p % 2 == 1 && c.p > 3 && probablyPrime draw c.p) then 2
    else if !(c.a < c.p && c.b < c.p && c.gx < c.p && c.gy < c.p) then 3
    else if (4 * c.a * c.a * c.a + 27 * c.b * c.b) % c.p == 0 then 4
    else if !c.onCurve c.gx c.gy then 5
    else if !(probablyPrime draw c.n && bitsIn c.n ≥ 224) then 6
    else if ((c.h * c.n : Int) - c.p - 1) ^ 2 > 4 * c.p then 7
    else if (c.mul c.n (some (c.gx, c.gy))).isSome then 8
    else if c.n == c.p then 9
    else if (List.range 100).any (fun k => powMod c.p (k + 1) c.n == 1) then 10
    else if others.contains b then 11
    else 0

/-- R332: the checks repeated at start: 1, 3, 4, 5, 7, 8, 9 and 11. -/
def curveStillGood (others : List (List Byte)) (b : List Byte) : Bool :=
  match parseCurve b with
  | none => false
  | some c =>
    c.a < c.p && c.b < c.p && c.gx < c.p && c.gy < c.p && (4 * c.a * c.a * c.a + 27 * c.b * c.b) % c.p != 0 &&
      c.onCurve c.gx c.gy && decide (((c.h * c.n : Int) - c.p - 1) ^ 2 ≤ 4 * c.p) &&
      (c.mul c.n (some (c.gx, c.gy))).isNone && c.n != c.p && !others.contains b

/-! ## Curve slots (R329, R332, R345) -/

/-- The definition in a curve slot; empty when there is none. Those of the two Edwards slots, which R330 cannot write, are
left open. -/
def State.curveOctets (s : State) (slot : Nat) : List Byte :=
  match slot with
  | 0 => p256.octets
  | 1 => p384.octets
  | 2 => p521.octets
  | 3 => Config.edwardsDefinition 3
  | 4 => Config.edwardsDefinition 4
  | n => if 8 ≤ n ∧ n ≤ 15 then s.objOctets (okey 0x4200 (0x10 + n - 8)) else []

/-- 0x4200:18: the digest of a slot: of a built-in definition, or as committed with a loaded one. -/
def State.curveDigest (s : State) (slot : Nat) : List Byte :=
  if slot < 5 then sha384 (s.curveOctets slot)
  else (s.objOctets (okey 0x4200 0x18)).drop (48 * slot) |>.take 48

/-- 0x4200:01 for a slot. -/
def State.curveStatus (s : State) (slot : Nat) : Nat :=
  if slot < 5 then 1
  else if slot < 8 || (s.curveOctets slot).isEmpty then 0
  else if s.eng.curveFailed.contains slot then 3 else 2

/-- R329, R332: the short Weierstrass curve of a slot that a job may name. -/
def State.weierstrass (s : State) (slot : Nat) : Option CurveDef :=
  if slot < 3 ∨ (8 ≤ slot ∧ slot ≤ 15 ∧ s.curveStatus slot = 2) then parseCurve (s.curveOctets slot) else none

/-- The definitions of the occupied slots other than one. -/
def State.otherCurves (s : State) (slot : Nat) : List (List Byte) :=
  (((List.range 16).filter (· != slot)).map s.curveOctets).filter (fun b => !b.isEmpty)

/-- R331: a write to a loadable curve slot: 0 when it is accepted, else CURVE_INVALID; the failed check is recorded. -/
def State.checkCurveWrite (slot : Nat) (b : List Byte) (s : State) : State × Nat :=
  if b.isEmpty then (s, 0)
  else
    let k := curveCheck s.free (s.otherCurves slot) b
    if k = 0 then ({ s with free := s.free + 1 }, 0)
    else ({ (s.putNum (okey 0x4200 0x1F) k) with free := s.free + 1 }, 0x090005)

/-- A committed curve definition: its digest is kept, and the failed mark of the start goes. -/
def State.curveCommitted (slot : Nat) (b : List Byte) (s : State) : State :=
  (s.putOctetsAt (okey 0x4200 0x18) (48 * slot) (if b.isEmpty then List.replicate 48 0 else sha384 b)).onEng (fun e =>
    { e with curveFailed := e.curveFailed.filter (· != slot) })

/-- R332: the repetition of the checks at runtime start. -/
def State.checkCurves (s : State) : State :=
  let bad := [8, 9, 10, 11, 12, 13, 14, 15].filter (fun n =>
    let b := s.curveOctets n
    !b.isEmpty && !(curveStillGood (s.otherCurves n) b && sha384 b == s.curveDigest n))
  let s := s.onEng (fun e => { e with curveFailed := bad })
  s.forAll bad (fun _ => State.event 0x52 0)

end Sys2Proof.Machine
end

