-- ==== Sys2Proof/Machine/Gates.lean ====
section
/-! DEFINITION. The Gauntlet gates' decisions and rules (spec/14_privilege_exceptions_gauntlet.md, R480 to R485). -/

namespace Sys2Proof.Machine

/-- Kinds of access that a gate decides. -/
inductive AccessKind | read | write | fetch
deriving DecidableEq, Repr

/-- Who presents an access: a pair at a level (or an engine on behalf of such a pair's job), or a hardware requester. -/
inductive Accessor
  | pair (p : Fin 4) (l : Level)
  | hardware
deriving DecidableEq, Repr

end Sys2Proof.Machine

namespace Sys2Proof

/-- The code of a level. -/
def Level.num : Level → Nat
  | .user => 0 | .supervisor => 1 | .monitor => 2

/-- A level as an index of three. -/
def Level.idx : Level → Fin 3
  | .user => 0 | .supervisor => 1 | .monitor => 2

/-- The level of a code. -/
def Level.ofNum : Nat → Option Level
  | 0 => some .user | 1 => some .supervisor | 2 => some .monitor | _ => none

end Sys2Proof

namespace Sys2Proof.Machine

/-- R24, R480: the gate in front of a word address as a pair sees it; none outside the map. -/
def gateOf (p : Fin 4) (addr : Nat) : Option (Fin 14) :=
  if addr < 0x20000 then some ⟨p.val, by omega⟩
  else if addr < 0x40000 then some ⟨4 + p.val, by omega⟩
  else if 0x100000 ≤ addr ∧ addr < 0x400000 then some 8
  else if 0x400000 ≤ addr ∧ addr < 0x580000 then some 9
  else if 0x800000 ≤ addr ∧ addr < 0xC00000 then some 10
  else if 0xC00000 ≤ addr ∧ addr < 0x1000000 then some 11
  else if 0x1000000 ≤ addr ∧ addr < 0x1010000 then some 12
  else if 0x1010000 ≤ addr ∧ addr < 0x101C000 then some 13
  else none

/-- Word w of rule r of a gate. -/
def Gauntlet.rule (g : Gauntlet) (gate r w : Nat) : Word := (kget g.rules (gate * 32 + 2 * r + w)).getD 0

/-- The bit of an access kind in a triple of permissions. -/
def AccessKind.bit : AccessKind → Nat
  | .read => 2 | .write => 1 | .fetch => 0

/-- R480, R481: a rule in force matches an access. -/
def Gauntlet.ruleMatches (g : Gauntlet) (gate r : Nat) (a : Accessor) (addr : Nat) : Bool :=
  let w0 := g.rule gate r 0
  let w1 := g.rule gate r 1
  w0.getLsbD 0 && bitsOf w0 47 29 ≤ addr / 64 && addr / 64 ≤ bitsOf w0 28 10 &&
    match a with
    | .pair p _ => w1.getLsbD (12 + p.val)
    | .hardware => w1.getLsbD 10

/-- R480: a rule's permission for an access. -/
def Gauntlet.ruleAdmits (g : Gauntlet) (gate r : Nat) (a : Accessor) (k : AccessKind) : Bool :=
  let l := match a with | .pair _ l => l.num | .hardware => 2
  (g.rule gate r 1).getLsbD (3 * l + k.bit)

/-- R480: the default map. -/
def defaultAdmits (gate : Nat) (l : Level) (k : AccessKind) : Bool :=
  match l with
  | .user => false
  | .supervisor =>
    if gate < 4 then k == .fetch
    else if gate < 9 then k == .read || k == .write
    else if gate < 12 then k == .read
    else false
  | .monitor =>
    if gate < 4 then true
    else if gate < 9 then k == .read || k == .write
    else if gate < 12 then k == .read
    else if gate = 12 then k == .read || k == .write
    else false

/-- R481 steps 2 and 3: programmable rules in ascending number, then the default map. -/
def Gauntlet.decide (g : Gauntlet) (gate : Nat) (a : Accessor) (addr : Nat) (k : AccessKind) : Bool :=
  match (List.range 16).find? (fun r => g.ruleMatches gate r a addr) with
  | some r => g.ruleAdmits gate r a k
  | none => defaultAdmits gate (match a with | .pair _ l => l | .hardware => .monitor) k

/-- R470, R481: the double-fault area of a pair's data memory. -/
def doubleFaultArea (addr : Nat) : Bool := 0x3FFF0 ≤ addr && addr < 0x3FFFA

/-- R24, R481: boot ROM: fetch by Monitor during start only. -/
def State.bootRomOpen (s : State) : Bool := s.modes.starting

/-- R481 step 1 for gates other than the register space: none when no fixed rule decides. -/
def State.fixedRule (s : State) (gate : Nat) (a : Accessor) (addr : Nat) (k : AccessKind) : Option Bool :=
  let level := match a with | .pair _ l => l | .hardware => .monitor
  if 4 ≤ gate && gate < 8 && doubleFaultArea addr then (if level = .monitor then none else some false)
  else if gate = 9 then
    if k == .write && addr % 4 != 3 then some false
    else if k == .read && addr % 4 == 2 then some true
    else none
  else if gate = 13 then some (k == .fetch && level == .monitor && s.bootRomOpen)
  else none

/-- R481: the decision on an access to a gate. -/
def State.admits (s : State) (gate : Nat) (a : Accessor) (addr : Nat) (k : AccessKind) : Bool :=
  match s.fixedRule gate a addr k with
  | some b => b
  | none => s.gaunt.decide gate a addr k

/-- R482: a refusal is counted. -/
def State.countRefusal (gate : Nat) (s : State) : State := s.bumpWord (okey 0x7200 1) 14 gate

/-- R483: the first words of the 64-word granules that n octets from an octet pointer touch. -/
def granulesOf (ptr n : Nat) : List Nat :=
  if n = 0 then []
  else
    let first := ptr / 8
    let last := (octMove ptr ((n - 1 : Nat) : Int)).toNat / 8
    first :: ((List.range (last / 64 - first / 64)).map (fun i => (first / 64 + 1 + i) * 64))

/-- R481, R483: an engine's access to n octets of commons is admitted throughout. -/
def State.engineAdmits (s : State) (a : Accessor) (ptr n : Nat) (k : AccessKind) : Bool :=
  (granulesOf ptr n).all (fun w => s.admits 8 a w k)

/-- R24: n octets from an octet pointer lie in commons. -/
def inCommons (ptr n : Nat) : Bool :=
  ptr % 8 < 6 && 0x100000 ≤ ptr / 8 && ptr / 8 < 0x400000 &&
    (octMove ptr ((max n 1 - 1 : Nat) : Int)).toNat / 8 < 0x400000

/-- R480, R484: a write of word 1 of a rule, whose lock bit is clear: the staged word 0 and word 1 take effect, and the
gate's epoch increases. -/
def State.ruleTakesEffect (gate : Fin 14) (rule : Fin 16) (w1 : Word) (s : State) : State :=
  let k := gate.val * 32 + 2 * rule.val
  s.onGaunt (fun g =>
    let w0 := (kget g.staged (gate.val * 16 + rule.val)).getD (g.rule gate.val rule.val 0)
    { g with rules := kset (kset g.rules k w0) (k + 1) w1, staged := kdel g.staged (gate.val * 16 + rule.val),
             epochs := g.epochs.set gate (g.epochs[gate] + 1) })

/-- R480: word 0 of a rule is staged. -/
def State.ruleStaged (gate : Fin 14) (rule : Fin 16) (w0 : Word) (s : State) : State :=
  s.onGaunt (fun g => { g with staged := kset g.staged (gate.val * 16 + rule.val) w0 })

/-- R480: the rule is locked until the next device reset. -/
def State.ruleLocked (s : State) (gate : Fin 14) (rule : Fin 16) : Bool := (s.gaunt.rule gate.val rule.val 1).getLsbD 11

/-- 0x7200:03: the rules in force (R490). -/
def State.rulesOctets (s : State) : List Byte :=
  (List.range 14).flatMap (fun g => (List.range 16).flatMap (fun r =>
    wordBe (s.gaunt.rule g r 0) ++ wordBe (s.gaunt.rule g r 1)))

/-! ## Performance counters (R487, R488) -/

/-- R487: counter k's overflow bit is set and has its interrupt bit set, for some k. -/
def Pair.overflowPending (p : Pair) : Bool :=
  [0, 1, 2, 3].any (fun k => p.pcovf.getLsbD k && p.pcsel.getLsbD (12 * k + 11))

/-- R487: source 11 is raised while a set bit has its interrupt bit set. -/
def Pair.overflowRaise (p : Pair) : Pair := if p.overflowPending then p.interrupt 11 else p

/-- R487: whether counter k counts an event at the pair's level. -/
def Pair.counts (p : Pair) (k e : Nat) : Bool :=
  bitsOf p.pcsel (12 * k + 7) (12 * k) == e && e != 0 && p.pcsel.getLsbD (12 * k + 8 + p.level.num)

/-- R487: adds n occurrences of an event to the programmable counters that count it. -/
def Pair.perf (e n : Nat) (p : Pair) : Pair :=
  let q : Pair := { p with
    pc := p.pc.mapIdx (fun k w => if p.counts k e then w + BitVec.ofNat 48 n else w),
    pcovf := [0, 1, 2, 3].foldl (fun o k =>
      if p.counts k e && 2 ^ 48 ≤ (p.pc.toList.getD k 0).toNat + n then o ||| (1#4 <<< k) else o) p.pcovf }
  q.overflowRaise

/-- R485: a fence completes at once: no access of this model is in flight between two commands (DEDUCED,
notes/assumptions/35.md). -/
def gateFenceAction : Action := { arg := anyArg, guard := noGuard, act := fun _ _ s => (s, .done) }

/-- GATE_FENCE (R485). -/
def execGateFence (f : Frame) (s : State) : Host.Outcome State Fault Refusal :=
  .next (s.runCmd (okey 0x7200 0x10) f gateFenceAction)

end Sys2Proof.Machine
end

