-- ==== Sys2Proof/Machine/KeyBase.lean ====
section
/-! DEFINITION. Key slots, attributes, use classes, the derivation tree, and the entropy output queue
(spec/11_keys_and_entropy.md, R347 to R359, R367, R368, R373). -/

namespace Sys2Proof.Machine

/-! ## Completion codes (R379, R316, R346, R290) -/

def blobInvalid : Nat := 0x0A0001
def blobGeneration : Nat := 0x0A0002
def attributesInvalid : Nat := 0x0A0003
def notWrappable : Nat := 0x0A0004
def slotReserved : Nat := 0x0A0005
def keyExpired : Nat := 0x0A0006
def importInvalid : Nat := 0x0A0007
def keyErased : Nat := 0x0A0008
def generationLimit : Nat := 0x0A0009
def slotPending : Nat := 0x0A000A
def commandBusy : Nat := 0x0A000B
def keyClass : Nat := 0x080001
def lengthInvalid : Nat := 0x080002
def destinationShort : Nat := 0x080003
def keyAbsent : Nat := 0x07000F
def slotOccupied : Nat := 0x090006

/-! ## Attributes (R358) -/

/-- The attributes that 72 octets write. -/
def KeyAttrs.ofOctets (b : List Byte) : KeyAttrs :=
  let f := fun (i n : Nat) => beNat ((b.drop i).take n)
  { keyType := f 0 1, useClass := f 1 1, modeMask := BitVec.ofNat 16 (f 2 2), minLevel := f 4 1,
    pairMask := BitVec.ofNat 8 (f 5 1), flags := BitVec.ofNat 8 (f 6 1), length := f 8 2, keyId := f 10 6,
    notAfter := f 16 6, curve := (b.drop 24).take 48,
    reserved := [b.getD 7 0, b.getD 22 0, b.getD 23 0] }

/-- The 72 octets of attributes. -/
def KeyAttrs.octets (a : KeyAttrs) : List Byte :=
  beOctets 1 a.keyType ++ beOctets 1 a.useClass ++ beOctets 2 a.modeMask.toNat ++ beOctets 1 a.minLevel ++
    beOctets 1 a.pairMask.toNat ++ beOctets 1 a.flags.toNat ++ [a.reserved.getD 0 0] ++ beOctets 2 a.length ++
    beOctets 6 a.keyId ++ beOctets 6 a.notAfter ++ [a.reserved.getD 1 0, a.reserved.getD 2 0] ++ padTo 48 0 a.curve

/-- The Weierstrass curve whose entry in 0x4200:18 an attribute names (R358): its slot and definition. -/
def State.curveOf (s : State) (digest : List Byte) : Option (Nat × CurveDef) :=
  ([0, 1, 2, 8, 9, 10, 11, 12, 13, 14, 15].filterMap (fun n =>
    (s.weierstrass n).map (fun c => (n, c)))).find? (fun e => s.curveDigest e.1 == digest)

/-- R317: N of a curve: octets of its group order. -/
def CurveDef.orderOctets (c : CurveDef) : Nat := (bitsIn c.n + 7) / 8

/-- R317: N_p of a curve: octets of its field prime. -/
def CurveDef.fieldOctets (c : CurveDef) : Nat := (bitsIn c.p + 7) / 8

/-- R358: the key length of a type. -/
def State.keyLengthOk (s : State) (a : KeyAttrs) : Bool :=
  match a.keyType with
  | 0x01 => a.length == 16
  | 0x02 => a.length == 24
  | 0x03 => a.length == 32
  | 0x04 => 32 ≤ a.length && a.length ≤ 64
  | 0x05 => 32 ≤ a.length && a.length ≤ 66
  | 0x10 => (match s.curveOf a.curve with | some (_, c) => a.length == c.orderOctets | none => false)
  | 0x11 => a.length == 32
  | 0x12 => a.length == 57
  | 0x18 => a.length ≤ 2048
  | 0x20 | 0x21 => a.length == 32
  | 0x28 | 0x29 => a.length == 64
  | 0x30 => a.length == 80
  | _ => false

/-- R358: attributes keep the table, for a key that comes in a blob of a domain (none: no blob). -/
def State.attrsOk (s : State) (domain : Option Nat) (a : KeyAttrs) : Bool :=
  1 ≤ a.useClass && a.useClass ≤ 8 &&
  (a.modeMask &&& ~~~(if domain == some 4 then (0x7E : BitVec 16) else 0x7C)) == 0 &&
  a.minLevel ≤ 2 && a.pairMask != 0 && a.pairMask.toNat < 16 && a.flags.toNat < 8 &&
  a.reserved == [0, 0, 0] && s.keyLengthOk a && (a.keyType == 0x10 || a.curve == List.replicate 48 0) &&
  (a.keyType != 0x30 || domain == some 2)

/-! ## Slots (R355 to R357) -/

/-- The key in a slot. -/
def State.keySlot (s : State) (n : Nat) : Option KeySlot := kget s.keys.slots n

/-- Fills a slot. -/
def State.fillSlot (n : Nat) (k : KeySlot) (s : State) : State := s.onKeys (fun u => { u with slots := kset u.slots n k })

/-- Empties a slot. -/
def State.emptySlot (n : Nat) (s : State) : State := s.onKeys (fun u => { u with slots := kdel u.slots n })

/-- R356: what a pair's job or command may use: use class, mode, level, pair. -/
def KeySlot.usable (k : KeySlot) (classes : List Nat) (m : Mode) (p : Fin 4) (level : Nat) : Bool :=
  classes.contains k.attrs.useClass && k.attrs.modeMask.getLsbD m.code && k.level ≤ level &&
    k.attrs.pairMask.getLsbD p.val

/-- R356: what a hardware requester's job may use: use class and mode; it submits at Monitor (R268) and from no pair. -/
def KeySlot.usableByUnit (k : KeySlot) (classes : List Nat) (m : Mode) : Bool :=
  classes.contains k.attrs.useClass && k.attrs.modeMask.getLsbD m.code

/-! ## Derivations (R99, R349, R350) -/

/-- B, IWK and the UDS octets (R349). -/
def udsOctets (u : KeyUnit) : List Byte := beOctets 48 u.uds.toNat

/-- R349: the binding value. -/
def bindingOf (u : KeyUnit) : BitVec 384 := BitVec.ofNat 384 (Config.kmac256 (udsOctets u) [] (ascii "DXK-BIND") 384)

/-- R349: the identity wrapping key. -/
def iwkOf (u : KeyUnit) : BitVec 256 := BitVec.ofNat 256 (Config.kmac256 (udsOctets u) [] (ascii "DXK-IWK") 256)

/-- R350: an EC private scalar from a seed. -/
def ecScalar (c : CurveDef) (seed : List Byte) : List Byte := beOctets c.orderOctets (beNat seed % (c.n - 1) + 1)

/-- R349: the event-log key. -/
def eventKeyOf (b : BitVec 384) : BitVec 256 :=
  BitVec.ofNat 256 (Config.kmac256 (beOctets 48 b.toNat) [] (ascii "DXK-EVLOG") 256)

/-- R349: the owner root. -/
def ownerRootOf (v : BitVec 512) (b : BitVec 384) (serial : List Byte) : BitVec 512 :=
  BitVec.ofNat 512 (Config.kmac256 (beOctets 64 v.toNat ++ beOctets 48 b.toNat) serial (ascii "DXK-ROOT") 512)

/-- R349: the blob key of a generation. -/
def blobKeyOf (r : BitVec 512) (g : Nat) : BitVec 256 :=
  BitVec.ofNat 256 (Config.kmac256 (beOctets 64 r.toNat) (beOctets 2 g) (ascii "DXK-KWK") 256)

/-- R307: the key check value of key octets. -/
def keyCheck (key : List Byte) : List Byte := wordBe (Config.keyCheckValue key)

/-- Public key octets of a private key: an ECDSA P-384 scalar gives 04 ‖ x ‖ y. -/
def publicP384 (scalar : List Byte) : List Byte :=
  match p384.mul (beNat scalar) (some (p384.gx, p384.gy)) with
  | some (x, y) => [4] ++ beOctets 48 x ++ beOctets 48 y
  | none => [4] ++ List.replicate 96 0

/-- The ML-DSA-87 public key of a seed (FIPS 204). -/
def publicMlDsa (set : Nat) (seed : List Byte) : List Byte :=
  (List.range (if set = 65 then 1952 else 2592)).map (Config.publicKey set seed)

/-! ## The ledger key's blob (R250, R252) -/

/-- Octets of free words: what the DRBG gives where the spec states no assignment of its words. -/
def State.drawOctets : Nat → State → List Byte × State
  | 0, s => ([], s)
  | n + 1, s =>
    let d := s.drawFree
    let r := State.drawOctets n d.2
    (wordBe d.1 ++ r.1, r.2)

/-- The ledger key (scalar and ML-DSA seed, 80 octets) wrapped under the blob key of the generation in force (R252, R349;
its form is DESIGN CHOICE, notes/assumptions/56.md). -/
def State.wrapLedgerKey (material : List Byte) (s : State) : State :=
  match s.keys.ownerRoot with
  | none => s
  | some r =>
    let g := s.objNum (okey 0x5000 3)
    let d := State.drawOctets 2 s
    let c := gcmSeal (blobKeyOf r g) d.1 [] material
    (d.2.bump (okey 0x5000 0x0A)).onLedger (fun l => { l with keyBlob := some (beOctets 2 g ++ d.1 ++ c.1 ++ c.2) })

/-- R252: the ledger key, when its blob unwraps. -/
def State.ledgerKey (s : State) : Option (List Byte) :=
  match s.ledger.keyBlob, s.keys.ownerRoot with
  | some b, some r =>
    let g := beNat (b.take 2)
    if g < s.objNum (okey 0x5000 4) || g > s.objNum (okey 0x5000 3) then none
    else gcmOpen (blobKeyOf r g) ((b.drop 2).take 12) [] ((b.drop 14).take 80) (b.drop 94)
  | _, _ => none

/-- R362: the runtime wraps the ledger key again before the minimum generation passes its blob's. -/
def State.rewrapLedgerKey (minimum : Nat) (s : State) : State :=
  match s.ledger.keyBlob, s.ledgerKey with
  | some b, some m => if beNat (b.take 2) < minimum then s.wrapLedgerKey m else s
  | _, _ => s

/-! ## The entropy queue (R373) -/

/-- R373: a consumer takes all the words it needs or none. -/
def State.takeWords (n : Nat) (s : State) : Option (List Word × State) :=
  if n ≤ s.ent.queue.length then
    some (s.ent.queue.take n, s.onEnt (fun e => { e with queue := e.queue.drop n }))
  else none

/-- A moment later: ranks allocations, command starts and block releases (R372; the model's own). -/
def State.tickMoment (s : State) : State := s.onEnt (fun e => { e with moment := e.moment + 1 })

/-! ## Clearing (R367, R368) -/

/-- R367: every slot, K_R, every KWK_g, CDI1, B and IWK are cleared. -/
def State.clearKeys (s : State) : State :=
  s.onKeys (fun u =>
    { u with slots := [], ownerRoot := none, cdi1 := none, binding := none, iwk := none, staging := [] })

/-- R112, R366: KU commands in progress end with a state and code. -/
def State.endKeyCommands (st : KuState) (code : Nat) (s : State) : State :=
  s.onKeys (fun u => { u with windows := u.windows.map (fun w =>
    if w.st = .busy then { w with st, code, waits := none } else w) })

end Sys2Proof.Machine
end

