-- ==== Sys2Proof/Machine/Hub.lean ====
section
/-! DEFINITION. The Job Hub's slots, submission, ends, aborts and re-placement (spec/08_job_hub.md, R265 to R291). -/

namespace Sys2Proof.Machine

/-! ## Completion codes (R290) -/

def jhFull : Nat := 0x070001
def quotaExceeded : Nat := 0x070002
def urgencyRange : Nat := 0x070003
def descriptorInvalid : Nat := 0x070004
def linkInvalid : Nat := 0x070005
def notOwner : Nat := 0x070006
def noSuchJob : Nat := 0x070007
def alreadyDone : Nat := 0x070008
def jobAborted : Nat := 0x070009
def linkFailed : Nat := 0x07000A
def migrationLimit : Nat := 0x07000B
def engineUnavailable : Nat := 0x07000C
def accessFault : Nat := 0x07000D
def checkpointRefused : Nat := 0x07000E

/-! ## Fields (R268) -/

def Job.src (j : Job) : Nat := bitsOf j.words[0] 27 0
def Job.paramA (j : Job) : Nat := bitsOf j.words[0] 47 28
def Job.dst (j : Job) : Nat := bitsOf j.words[1] 27 0
def Job.paramB (j : Job) : Nat := bitsOf j.words[1] 47 28
def Job.capacity (j : Job) : Nat := bitsOf j.words[2] 47 24
def Job.srcLen (j : Job) : Nat := bitsOf j.words[2] 23 0
def Job.ctx (j : Job) : Nat := bitsOf j.words[3] 27 0
def Job.keyNumber (j : Job) : Nat := bitsOf j.words[3] 35 28
def Job.keyUsed (j : Job) : Bool := j.words[3].getLsbD 36
def Job.paramC (j : Job) : Nat := bitsOf j.words[3] 47 37
/-- Flag bit 26: interrupt on completion. -/
def Job.interrupts (j : Job) : Bool := j.flags.getLsbD 0
/-- Flag bit 27: suspendable. -/
def Job.suspendable (j : Job) : Bool := j.flags.getLsbD 1
/-- Flag bit 28: continue. -/
def Job.continues (j : Job) : Bool := j.flags.getLsbD 2
/-- Flag bit 29: final part. -/
def Job.final (j : Job) : Bool := j.flags.getLsbD 3

/-- R294, R301: a multi-stream operation, each stream of which is a whole message. -/
def Job.multiStream (j : Job) : Bool := j.cls == 2 && 0x61 ≤ j.op.toNat && j.op.toNat ≤ 0x63

/-- R320: operations treated as though flag 30 were set: key-pair generation and ML-KEM encapsulation. -/
def generates (cls op : Nat) : Bool :=
  (cls == 3 && (op == 3 || op == 7)) || (cls == 4 && (op == 3 || op == 4 || op == 5))

/-- R273, R320: the job needs a fresh reseed. -/
def Job.fresh (j : Job) : Bool := j.flags.getLsbD 4 || generates j.cls j.op.toNat

/-- R269: final states. -/
def JobState.isFinal : JobState → Bool
  | .done | .failed | .aborted => true
  | _ => false

/-- Ready or Suspended: the states from which a job is placed. -/
def JobState.placeable : JobState → Bool
  | .ready | .suspended => true
  | _ => false

/-- The code of a state (R269). -/
def JobState.code : JobState → Nat
  | .free => 0 | .waiting => 1 | .ready => 2 | .running => 3 | .suspended => 4 | .aborting => 5 | .done => 6
  | .failed => 7 | .aborted => 8

/-! ## Slots and handles (R265, R266) -/

/-- The job in a slot. -/
def State.job (s : State) (slot : Nat) : Option Job := kget s.hub.slots slot

/-- Updates the job in a slot, if one is there. -/
def State.onJob (slot : Nat) (f : Job → Job) (s : State) : State :=
  s.onHub (fun h => { h with slots := match kget h.slots slot with | some j => kset h.slots slot (f j) | none => h.slots })

/-- R266: the handle of a slot's present allocation. -/
def State.handleOf (s : State) (slot : Nat) : BitVec 24 := BitVec.ofNat 24 (((kget s.hub.allocs slot).getD 0) * 4096 + slot)

/-- R266: the slot of the job that a handle names. -/
def State.slotOf (s : State) (h : BitVec 24) : Option Nat :=
  let slot := h.toNat % 4096
  if h != 0 && (s.job slot).isSome && s.handleOf slot == h then some slot else none

/-- Slots in use, 0x4000:01. -/
def State.slotsInUse (s : State) : Nat := s.hub.slots.length

/-- The slots whose job satisfies a condition, ascending. -/
def State.slotsWhere (s : State) (f : Job → Bool) : List Nat := (s.hub.slots.filter (fun e => f e.2)).map (fun e => e.1)

/-- A window of a pair and level (R270). -/
def windowIndex (p : Fin 4) (l : Level) : Fin 12 := ⟨3 * p.val + l.idx.val, by have := p.isLt; have := l.idx.isLt; omega⟩

/-- Updates a window. -/
def State.onHubWindow (w : Fin 12) (f : HubWindow → HubWindow) (s : State) : State :=
  s.onHub (fun h => { h with windows := h.windows.set w (f h.windows[w]) })

/-- The requester's pair, when it is one. -/
def Job.pair (j : Job) : Option (Fin 4) := if h : j.requester < 4 then some ⟨j.requester, h⟩ else none

/-- Who presents the job's accesses (R481). -/
def Job.accessor (j : Job) : Accessor :=
  match j.pair with
  | some p => .pair p j.level
  | none => .hardware

/-! ## Ends of jobs (R269, R273, R283) -/

/-- The pair that runs a placed pair job. -/
def placementPair (code : Nat) : Option (Fin 4) :=
  if h : 0x50 ≤ code ∧ code ≤ 0x53 then some ⟨code - 0x50, by omega⟩ else none

/-- Removes a handle from the pairs' lists. -/
def State.unplace (h : BitVec 24) (s : State) : State :=
  s.onHub (fun u => { u with placed := u.placed.map (fun l => l.filter (· != h)) })

/-- Frees a slot (R265). -/
def State.freeSlot (slot : Nat) (s : State) : State := s.onHub (fun h => { h with slots := kdel h.slots slot })

/-- R283: a job becomes final with a state, code and octets produced: its words 6 and 0 are written, a pair's window gets
its entry, a hardware requester is told and its slot is freed. -/
def State.conclusion (slot : Nat) (st : JobState) (code produced : Nat) (s : State) : State :=
  match s.job slot with
  | none => s
  | some j =>
    if j.st.isFinal then s
    else
      let h := s.handleOf slot
      let s := (s.unplace h).onJob slot (fun j => { j with st, code, produced, queued := true, placement := 0xFF })
      match j.pair with
      | none => s.freeSlot slot
      | some p =>
        let s := s.onHubWindow (windowIndex p j.level) (fun w =>
          { w with queue := w.queue ++ [{ handle := h, code, produced, suspensions := j.suspensions, epoch := j.epoch }] })
        if j.interrupts then s.onPair p (Pair.interrupt j.level.num) else s

/-- R273: the jobs that wait for a handle. -/
def State.linkedTo (s : State) (h : BitVec 24) : List Nat := s.slotsWhere (fun j => j.st == .waiting && j.link == h)

/-- R273: a waiting job whose link is satisfied becomes Ready, once its fresh reseed has taken place. -/
def Job.wake (j : Job) : Job :=
  if j.st == .waiting && j.link == 0 && (!j.fresh || j.reseeded) then { j with st := .ready } else j

/-- R273, R283: ends a job; the jobs linked to it become Ready, or fail in turn (at most one after the other for every
slot). -/
def State.endJobs : Nat → List (Nat × JobState × Nat × Nat) → State → State
  | 0, _, s => s
  | _, [], s => s
  | fuel + 1, (slot, st, code, produced) :: rest, s =>
    let h := s.handleOf slot
    let waiting := s.linkedTo h
    let s := s.conclusion slot st code produced
    if st = .done then
      State.endJobs fuel rest (s.forAll waiting (fun w => State.onJob w (fun j => Job.wake { j with link := 0 })))
    else State.endJobs fuel (waiting.map (fun w => (w, JobState.failed, linkFailed, 0)) ++ rest) s

/-- Ends one job. -/
def State.endJob (slot : Nat) (st : JobState) (code produced : Nat) (s : State) : State :=
  s.endJobs (s.slotsInUse + 1) [(slot, st, code, produced)]

/-- Ends a job Failed with a code. -/
def State.failJob (slot code : Nat) (s : State) : State := s.endJob slot .failed code 0

/-- R307: words of a context by class and operation. -/
def contextBody (cls op streams : Nat) : Nat :=
  match cls with
  | 0 => if op = 1 then 6 else 11
  | 1 => 34
  | _ => if 0x61 ≤ op then 4 * streams else if op = 0x51 ∨ op = 0x52 then 11 else 3

/-- R284, R287: clears the context words of a job. -/
def State.clearContext (j : Job) (s : State) : State :=
  if j.ctx = 0 then s
  else s.onCommons (fun m => memStore m j.ctx
    (List.replicate (6 * (contextBody j.cls j.op.toNat (j.paramA % 16) + 5)) 0))

/-- R279, R282, R285: aborts a job and frees it without a completion entry; one whose entry was posted loses it. -/
def State.dropJob (slot : Nat) (s : State) : State :=
  match s.job slot with
  | none => s
  | some j =>
    let h := s.handleOf slot
    let waiting := s.linkedTo h
    let s := if j.st == .suspended || j.consumed > 0 then s.clearContext j else s
    let s := ((s.unplace h).freeSlot slot).onHub (fun u => { u with windows := u.windows.map (fun w =>
      { w with queue := w.queue.filter (fun e => e.handle != h) }) })
    s.forAll waiting (fun w => State.failJob w linkFailed)

/-- The children of a job (R278). -/
def State.childrenOf (s : State) (h : BitVec 24) : List Nat := s.slotsWhere (fun j => j.parent == h && h != 0)

/-- R284: aborts a job and its unfinished children: a running pair job is left Aborting for its runtime, everything else
ends Aborted. -/
def State.abortJobs : Nat → List Nat → State → State
  | 0, _, s => s
  | _, [], s => s
  | fuel + 1, slot :: rest, s =>
    match s.job slot with
    | none => State.abortJobs fuel rest s
    | some j =>
      if j.st.isFinal then State.abortJobs fuel rest s
      else
        let children := s.childrenOf (s.handleOf slot)
        let s :=
          if j.cls = 5 ∧ (j.st = .running ∨ j.st = .aborting) then s.onJob slot (fun j => { j with st := .aborting })
          else
            let s := if j.st == .suspended then s.clearContext j else s
            s.endJob slot .aborted jobAborted 0
        State.abortJobs fuel (children ++ rest) s

/-- R279, R282, R284: an unfinished job that is aborted and freed without an entry has its unfinished children aborted first. -/
def State.dropTree (slot : Nat) (s : State) : State :=
  let open_ := match s.job slot with | some j => !j.st.isFinal | none => false
  (if open_ then s.abortJobs (s.slotsInUse + 1) (s.childrenOf (s.handleOf slot)) else s).dropJob slot

/-- R284: aborts one job. -/
def State.abortJob (slot : Nat) (s : State) : State := s.abortJobs (s.slotsInUse + 1) [slot]

/-! ## Instances (R267, R280) -/

/-- R267: placement codes of a class's instances. -/
def instancesOf (cls : Nat) : List Nat :=
  match cls with
  | 0 => List.range 14
  | 1 => [0x10, 0x11]
  | 2 => [0x20, 0x21]
  | 3 => [0x30, 0x31]
  | 4 => [0x40]
  | 5 => [0x50, 0x51, 0x52, 0x53]
  | _ => []

/-- R280: an instance is in service. -/
def State.inService (s : State) (code : Nat) : Bool :=
  match placementPair code with
  | some p => s.pairs[p].inService
  | none => !s.hub.outOfService.contains code

/-- The job that runs on an instance. -/
def State.runningOn (s : State) (code : Nat) : Option Nat :=
  (s.slotsWhere (fun j => (j.st == .running || j.st == .aborting) && j.placement == code)).head?

/-- R280: the jobs of a class without an instance in service end ENGINE_UNAVAILABLE; pair jobs outlive a hot restart (R286). -/
def State.failUnavailable (cls : Nat) (s : State) : State :=
  if (instancesOf cls).any s.inService || (cls == 5 && s.modes.hotRestart.isSome) then s
  else s.forAll (s.slotsWhere (fun j => j.cls == cls && (j.st.placeable || j.st == .waiting)))
    (fun w => State.failJob w engineUnavailable)

/-- R275: the effective urgency of a job. -/
def Job.effective (j : Job) : Nat := max j.urgency (min 13 (j.urgency + j.aged))

/-! ## Submission (R270 to R272) -/

/-- R267, R294, R317, R318: operations of a class. -/
def knownOperation (cls op : Nat) : Bool :=
  match cls with
  | 0 => 1 ≤ op && op ≤ 3
  | 1 => 1 ≤ op && op ≤ 6
  | 2 => [0x11, 0x12, 0x21, 0x22, 0x31, 0x32, 0x41, 0x42, 0x51, 0x52, 0x61, 0x62, 0x63].contains op
  | 3 => 1 ≤ op && op ≤ 9
  | 4 => 1 ≤ op && op ≤ 8
  | 5 => true
  | _ => false

/-- The job that six staged words describe, before it has a slot. -/
def jobOfWords (w : Vector Word 6) (requester : Nat) (level : Level) : Job :=
  { op := BitVec.ofNat 8 (bitsOf w[0] 47 40), placement := 0xFF, flags := BitVec.ofNat 6 (bitsOf w[0] 31 26), requester,
    urgency := bitsOf w[0] 20 17, st := .waiting, epoch := 0, cls := bitsOf w[0] 8 6, level,
    tag := BitVec.ofNat 24 (bitsOf w[1] 47 24), link := BitVec.ofNat 24 (bitsOf w[1] 23 0),
    words := #v[w[2], w[3], w[4], w[5]], produced := 0, code := 0, parent := 0, suspensions := 0, parentEpoch := 0,
    consumed := 0, loaded := [], before := 0, random := [], order := 0, allocMoment := 0, aged := 0, started := 0, reseeded := false, queued := false,
    keyWait := none, checkpoint := none }

/-- R271 first row: whether a descriptor's operation and pointers are sound. A pointer of a part without octets is not
read and not checked (DEDUCED, notes/assumptions/36.md). -/
def Job.sound (j : Job) : Bool :=
  let lane := j.cls ≤ 2 && !j.multiStream
  let needsContext := (j.cls ≤ 2 && j.suspendable) || (lane && (j.continues || !j.final))
  j.cls < 6 && knownOperation j.cls j.op.toNat && (j.srcLen == 0 || inCommons j.src j.srcLen) &&
    (j.capacity == 0 || inCommons j.dst j.capacity) &&
    (!needsContext || (j.ctx % 8 == 0 && inCommons j.ctx 480)) && (j.cls != 5 || j.level != .user)

/-- R275: the cap of a window's level. -/
def urgencyCap : Level → Nat
  | .user => 7 | .supervisor => 11 | .monitor => 13

/-- 0x4000:11: the quota of a level's windows. -/
def State.quota (s : State) (l : Level) : Nat :=
  beNat (((s.objOctets (okey 0x4000 0x11)).drop (2 * (2 - l.num))).take 2)

/-- R271: 0, or the code of the first check that a submission fails. -/
def State.submitCheck (s : State) (p : Fin 4) (l : Level) (j : Job) : Nat :=
  if !j.sound then descriptorInvalid
  else if j.urgency > urgencyCap l then urgencyRange
  else if j.link != 0 && (s.slotOf j.link).isNone then linkInvalid
  else if (s.slotsWhere (fun k => k.requester == p.val && k.level == l)).length ≥ s.quota l then quotaExceeded
  else if 4096 - s.slotsInUse ≤ 256 then jhFull
  else 0

/-- R272: the first free slot at or after the pointer. -/
def State.freeSlotAt (s : State) : Option Nat :=
  ((List.range 4096).map (fun i => (s.hub.pointer + i) % 4096)).find? (fun n => (s.job n).isNone)

/-- R266, R272: grants a slot to a job. Answers the slot. -/
def State.allocate (j : Job) (s : State) : State × Option Nat :=
  match s.freeSlotAt with
  | none => (s, none)
  | some slot =>
    let count := (kget s.hub.allocs slot).getD 0
    let count := if count ≥ 4095 then 1 else count + 1
    let s := s.onHub (fun h =>
      { h with slots := kset h.slots slot { j with order := h.allocOrder, allocMoment := s.ent.moment }, allocs := kset h.allocs slot count,
               pointer := (slot + 1) % 4096, allocOrder := h.allocOrder + 1,
               highWater := max h.highWater (h.slots.length + 1) })
    (s.tickMoment, some slot)

/-- R273: the link's state at allocation, then readiness. -/
def State.startWaiting (slot : Nat) (s : State) : State :=
  match s.job slot with
  | none => s
  | some j =>
    match (s.slotOf j.link).bind s.job with
    | none => s.onJob slot (fun j => Job.wake { j with link := 0 })
    | some k =>
      if k.st = .done then s.onJob slot (fun j => Job.wake { j with link := 0 })
      else if k.st.isFinal then s.failJob slot linkFailed
      else s

/-- R271, R278: a submission from a window. -/
def State.submit (p : Fin 4) (l : Level) (s : State) : State :=
  let w := windowIndex p l
  let j := jobOfWords s.hub.windows[w].desc p.val l
  let code := s.submitCheck p l j
  if code != 0 then
    let s := if code = quotaExceeded ∨ code = jhFull then s.bump (okey 0x4000 6) else s
    s.onHubWindow w (fun x => { x with result := (0, code) })
  else
    let parent := s.hub.current[p]
    let parentEpoch := match (s.slotOf parent).bind s.job with | some k => k.epoch | none => 0
    match s.allocate { j with parent, parentEpoch } with
    | (s, none) => s.onHubWindow w (fun x => { x with result := (0, jhFull) })
    | (s, some slot) =>
      let h := s.handleOf slot
      ((s.startWaiting slot).failUnavailable j.cls).onHubWindow w (fun x => { x with result := (h, 0) })

/-! ## Re-placement (R279, R280, R282) -/

/-- R279: a re-placed pair job's children: unfinished ones and those with an unpopped entry are freed without an entry. -/
def State.dropChildren (h : BitVec 24) (s : State) : State := s.forAll (s.childrenOf h) State.dropTree

/-- R280: re-places a running job. -/
def State.replaceJob (slot : Nat) (s : State) : State :=
  match s.job slot with
  | none => s
  | some j =>
    if j.st = .aborting then s.endJob slot .aborted jobAborted 0
    else if j.st != .running then s
    else if j.epoch ≥ 8 then (s.bump (okey 0x4000 7)).failJob slot migrationLimit
    else
      let h := s.handleOf slot
      let s := if j.cls = 5 then s.dropChildren h else s
      (((s.unplace h).onJob slot (fun j =>
        { j with epoch := j.epoch + 1, placement := 0xFF, st := .ready, aged := 0, loaded := [], before := 0,
                 random := [] })).bump (okey 0x4000 4)).failUnavailable j.cls

/-- R280: an instance leaves service: its job is re-placed and jobs of a class without instances fail. -/
def State.leaveService (code cls : Nat) (s : State) : State :=
  let s := s.onHub (fun h => { h with outOfService := code :: h.outOfService.filter (· != code) })
  let s := match s.runningOn code with | some slot => s.replaceJob slot | none => s
  s.failUnavailable cls

/-- R282: a pair reset at the hub. The slots that entries of the emptied queues hold are freed with them (R265). -/
def State.hubPairReset (p : Fin 4) (s : State) : State :=
  let mine := s.slotsWhere (fun j => j.cls == 5 && j.placement == 0x50 + p.val && !j.st.isFinal)
  let s := s.forAll mine State.replaceJob
  let s := s.forAll (s.slotsWhere (fun j => j.requester == p.val && j.parent == 0)) State.dropTree
  let s := s.forAll (s.slotsWhere (fun j => j.requester == p.val && j.st.isFinal)) State.dropJob
  s.onHub (fun h =>
    { h with current := h.current.set p 0,
             windows := h.windows.mapIdx (fun i w => if i / 3 = p.val then { w with queue := [] } else w) })

/-! ## Modes and resets (R286, R287) -/

/-- R287: entry to Locked, Forensic or Retired: every job ends without an entry, contexts are cleared, and the slot store
is cleared except for the allocation counts. -/
def State.hubClosed (s : State) : State :=
  let s := s.forAll s.hub.slots (fun e s =>
    if e.2.cls ≤ 2 && (e.2.suspensions > 0 || e.2.continues || !e.2.final) then s.clearContext e.2 else s)
  s.onHub (fun h =>
    { h with slots := [], current := Vector.replicate 4 0, placed := Vector.replicate 4 [],
             windows := h.windows.map (fun w => { w with queue := [] }) })

/-- 0x4000:09: the instances in service. -/
def State.instancesInService (s : State) : Nat :=
  (List.range 14).foldl (fun a i => if s.inService i then a + 2 ^ i else a) 0 +
    [(0x10, 16), (0x11, 17), (0x20, 20), (0x21, 21), (0x30, 24), (0x31, 25), (0x40, 28), (0x50, 32), (0x51, 33),
      (0x52, 34), (0x53, 35)].foldl (fun a (e : Nat × Nat) => if s.inService e.1 then a + 2 ^ e.2 else a) 0

/-- 0x4000:08: Ready jobs per class. -/
def State.readyJobs (s : State) : List Word :=
  (List.range 6).map (fun c => BitVec.ofNat 48 (s.slotsWhere (fun j => j.cls == c && j.st.placeable)).length)

end Sys2Proof.Machine
end

