-- ==== Sys2Proof/Machine/Engines.lean ====
section
/-! DEFINITION. What the lanes and units compute: checks at placement, contexts, results
(spec/09_hash_and_cipher_lanes.md, spec/10_public_key_and_lattice.md). -/

namespace Sys2Proof.Machine

/-! ## Completion codes (R316, R346) -/

def streamTableInvalid : Nat := 0x080004
def digestMismatch : Nat := 0x080005
def tagMismatch : Nat := 0x080006
def contextInvalid : Nat := 0x080007
def selfTestFailed : Nat := 0x080008
def verifyFailed : Nat := 0x090001
def keyInvalid : Nat := 0x090002
def curveAbsent : Nat := 0x090003
def curveMismatch : Nat := 0x090004
def signIterations : Nat := 0x090007

/-! ## Sizes (R294, R296, R299, R317, R318) -/

/-- R296: octets of a block. -/
def blockOctets (cls op : Nat) : Nat :=
  match cls with
  | 0 => if op = 1 then 64 else 128
  | 1 => if op = 1 ∨ op = 5 ∨ op = 6 then 136 else if op = 2 then 104 else if op = 3 then 72 else 168
  | _ => 16

/-- Octets of a digest. -/
def digestOctets (cls op : Nat) : Nat :=
  match cls, op with
  | 0, 1 => 32
  | 0, 2 => 48
  | 0, _ => 64
  | _, 1 => 32
  | _, 2 => 48
  | _, _ => 64

/-- A GCM operation. -/
def isGcm (op : Nat) : Bool := op == 0x51 || op == 0x52

/-- The job begins its message: neither a continuation nor a resumption. -/
def Job.begins (j : Job) : Bool := !j.continues && j.consumed == 0

/-- R296, R298, R299: octets before the payload in a first part. -/
def Job.leading (j : Job) : Nat :=
  if j.continues then 0
  else match j.cls with
  | 1 => if j.op = 6 then j.paramA % 256 else 0
  | 2 => if j.multiStream then 0 else if isGcm j.op.toNat then 12 + j.paramA else 16
  | _ => 0

/-- R299: a GCM decrypt's final source ends with the tag. -/
def Job.trailing (j : Job) : Nat := if j.cls == 2 && j.op == 0x52 && j.final then j.paramB else 0

/-- Payload octets of a lane job's part. -/
def Job.payload (j : Job) : Nat := j.srcLen - j.leading - j.trailing

/-- Octets that a lane job writes to its destination. -/
def Job.laneWrites (j : Job) : Nat :=
  let op := j.op.toNat
  match j.cls with
  | 0 => if j.final && j.paramA % 2 = 0 then digestOctets 0 op else 0
  | 1 => if j.final then (if op ≤ 3 then digestOctets 1 op else j.paramB) else 0
  | _ => j.payload + (if op = 0x51 && j.final then j.paramB else 0)

/-! ## Stream tables (R301) -/

/-- Entry i of a stream table: IV octets, length, source, destination. -/
def State.streamEntry (s : State) (j : Job) (i : Nat) : List Byte × Nat × Nat × Nat :=
  let w := fun k => s.commonsWord (octMove j.src ((30 * i + 6 * k : Nat) : Int)).toNat
  (memOctets s.commons (octMove j.src ((30 * i : Nat) : Int)).toNat 18, bitsOf (w 3) 47 28, bitsOf (w 3) 27 0,
    bitsOf (w 4) 27 0)

/-- Two octet ranges overlap. -/
def rangesMeet (p n q m : Nat) : Bool :=
  let lin := fun x => x / 8 * 6 + x % 8
  lin p < lin q + m && lin q < lin p + n

/-- R301: every entry keeps its ranges and no two destinations overlap. -/
def State.streamTableOk (s : State) (j : Job) : Bool :=
  let n := j.paramA % 16
  let e := (List.range n).map (s.streamEntry j)
  e.all (fun x => 16 ≤ x.2.1 && (j.op != 0x61 || x.2.1 % 16 == 0) && x.1.drop 16 == [0, 0] &&
    inCommons x.2.2.1 x.2.1 && inCommons x.2.2.2 x.2.1) &&
  (List.range n).all (fun i => bitsOf (s.commonsWord (octMove j.src ((30 * i + 24 : Nat) : Int)).toNat) 47 28 == 0) &&
  (List.range n).all (fun i => (List.range n).all (fun k => i == k ||
    (match e[i]?, e[k]? with
    | some a, some b => !rangesMeet a.2.2.2 a.2.1 b.2.2.2 b.2.1
    | _, _ => true)))

/-! ## Keys of jobs (R294, R317, R318, R357) -/

/-- The use classes that a job's operation needs of its key, and the key types; none when it takes no key. -/
def Job.keyNeeds (j : Job) : Option (List Nat × List Nat) :=
  let op := j.op.toNat
  match j.cls with
  | 1 => if op = 6 then some ([8, 5], [4, 5]) else none
  | 2 => some (if op % 16 = 2 && op < 0x60 then [2] else [1], [1, 2, 3])
  | 3 =>
    if op = 1 then some ([6], [0x10])
    else if op = 4 then some ([7], [0x10])
    else if op = 5 then some ([6], [if j.paramA % 16 = 3 then 0x11 else 0x12])
    else if op = 9 then some ([6], [0x18])
    else none
  | 4 =>
    if op = 1 then some ([6], [if j.paramA % 2 = 0 then 0x20 else 0x21])
    else if op = 6 then some ([7], [if j.paramA % 2 = 0 then 0x28 else 0x29])
    else none
  | _ => none

/-- The material of a job's key. -/
def State.jobKey (s : State) (j : Job) : List Byte :=
  match j.keyNeeds with
  | none => []
  | some _ => (match s.keySlot j.keyNumber with | some k => k.material | none => [])

/-- R295, R356: the key check: 0 or KEY_CLASS. -/
def State.jobKeyCode (s : State) (j : Job) : Nat :=
  match j.keyNeeds with
  | none => 0
  | some (classes, types) =>
    if !j.keyUsed then keyClass
    else match s.keySlot j.keyNumber with
    | none => keyAbsent
    | some k =>
      let ok := match j.pair with
        | some p => k.usable classes s.modes.mode p j.level.num
        | none => k.usableByUnit classes s.modes.mode
      if ok && types.contains k.attrs.keyType then 0 else keyClass

/-! ## Checks at placement (R295, R322, R329, R332, R344) -/

/-- R295 for a lane job: 0, LENGTH_INVALID, DESTINATION_SHORT or STREAM_TABLE_INVALID. -/
def State.laneCheck (s : State) (j : Job) : Nat :=
  let op := j.op.toNat
  if j.multiStream then
    let n := j.paramA % 16
    if j.paramA ≥ 16 || n = 0 || j.paramB != 0 || j.srcLen != 30 * n then lengthInvalid
    else if !s.streamTableOk j then streamTableInvalid
    else 0
  else
    let paramsOk := match j.cls with
      | 0 => j.paramA ≤ 1 && j.paramB == 0
      | 1 => if op ≤ 3 then j.paramA == 0 && j.paramB == 0
             else if op = 6 then j.paramA < 256 && 1 ≤ j.paramB else j.paramA == 0 && 1 ≤ j.paramB
      | _ => if isGcm op then 12 ≤ j.paramB && j.paramB ≤ 16 else j.paramA == 0 && j.paramB == 0
    if !paramsOk || j.srcLen < j.leading + j.trailing then lengthInvalid
    else if !j.final && j.payload % blockOctets j.cls op != 0 then lengthInvalid
    else if (op = 0x11 || op = 0x12) && j.cls == 2 && j.payload % 16 != 0 then lengthInvalid
    else if j.capacity < j.laneWrites then destinationShort
    else 0

/-- R317, R318: the output slot of an operation that fills one. -/
def Job.outputSlot (j : Job) : Option Nat :=
  let op := j.op.toNat
  if (j.cls == 3 && (op == 3 || op == 4 || op == 7)) || (j.cls == 4 && 3 ≤ op && op ≤ 6) then some (j.paramC % 256)
  else none

/-- Lengths of a lattice set: public key, signature; encapsulation key, ciphertext. -/
def mldsaSizes (a : Nat) : Nat × Nat := if a % 2 = 0 then (1952, 3309) else (2592, 4627)
def mlkemSizes (a : Nat) : Nat × Nat := if a % 2 = 0 then (1184, 1088) else (1568, 1568)

/-- Digest octets of an RSA hash code. -/
def rsaDigest (a : Nat) : Nat := match a / 16 % 4 with | 1 => 32 | 2 => 48 | 3 => 64 | _ => 0

/-- R317 for a big-number job: curve, lengths and capacity. -/
def State.numberCheck (s : State) (j : Job) : Nat :=
  let op := j.op.toNat
  let short := fun n => if j.capacity < n then destinationShort else 0
  if op ≤ 4 then
    match (if j.paramA < 16 then s.weierstrass j.paramA else none) with
    | none => curveAbsent
    | some c =>
      let np := c.fieldOctets
      let n := c.orderOctets
      let mismatch := (op = 1 || op = 4) &&
        (match s.keySlot j.keyNumber with | some k => k.attrs.curve != s.curveDigest j.paramA | none => false)
      if mismatch then curveMismatch
      else if op = 1 then
        if j.paramB != 0 || j.srcLen < 20 || j.srcLen > 64 then lengthInvalid else short (2 * n)
      else if op = 2 then
        if j.paramB != 0 || j.srcLen < 1 + 2 * np + 2 * n + 20 || j.srcLen > 1 + 2 * np + 2 * n + 64 then lengthInvalid
        else 0
      else if op = 3 then
        if j.paramB > 1 then lengthInvalid else short (1 + 2 * np)
      else if j.paramB != 0 || j.srcLen != 1 + 2 * np then lengthInvalid else 0
  else if op ≤ 7 then
    if j.paramA != 3 && j.paramA != 4 then curveAbsent
    else
      let pk := if j.paramA = 3 then 32 else 57
      if j.paramB > 255 || (op != 7 && j.paramA = 3 && j.paramB != 0) || (op = 7 && j.paramB != 0) then lengthInvalid
      else if op = 5 then (if j.srcLen < j.paramB then lengthInvalid else short (2 * pk))
      else if op = 6 then (if j.srcLen < 3 * pk + j.paramB then lengthInvalid else 0)
      else short pk
  else
    if j.paramA % 4 > 1 || j.paramA / 64 != 0 || j.paramA / 4 % 4 != 0 || rsaDigest j.paramA = 0 || j.paramB > 64 then
      lengthInvalid
    else if op = 8 then (if j.srcLen < 3 then lengthInvalid else 0)
    else if j.srcLen != rsaDigest j.paramA then lengthInvalid
    else short (match s.keySlot j.keyNumber with | some k => Config.rsaModulusOctets k.material | none => 0)

/-- R318 for a lattice job: lengths and capacity. -/
def latticeCheck (j : Job) : Nat :=
  let op := j.op.toNat
  let short := fun n => if j.capacity < n then destinationShort else 0
  let ds := mldsaSizes j.paramA
  let ks := mlkemSizes j.paramA
  if op ≤ 6 && j.paramA > 1 then lengthInvalid
  else if op ≤ 2 && (j.paramB > 255 || j.srcLen < j.paramB) then lengthInvalid
  else match op with
  | 1 => short ds.2
  | 2 => if j.srcLen < ds.1 + ds.2 + j.paramB then lengthInvalid else 0
  | 3 => if j.paramB != 0 then lengthInvalid else short ds.1
  | 4 => if j.paramB != 0 then lengthInvalid else short ks.1
  | 5 => if j.paramB != 0 || j.srcLen != ks.1 then lengthInvalid else short ks.2
  | 6 => if j.paramB != 0 || j.srcLen != ks.2 then lengthInvalid else 0
  | 7 => if j.paramA < 1 || j.paramA > 8 || j.paramB != 0 then lengthInvalid else 0
  | _ => if j.paramA != 0 || j.paramB != 0 then lengthInvalid else 0

/-- Octets that a unit's job writes to its destination. -/
def State.unitWrites (s : State) (j : Job) : Nat :=
  let op := j.op.toNat
  match j.cls with
  | 3 =>
    (match s.weierstrass j.paramA with
    | some c => if op = 1 then 2 * c.orderOctets else if op = 3 then 1 + 2 * c.fieldOctets else 0
    | none => 0) +
    (if op = 5 then (if j.paramA = 3 then 64 else 114)
     else if op = 7 then (if j.paramA = 3 then 32 else 57)
     else if op = 9 then (match s.keySlot j.keyNumber with | some k => Config.rsaModulusOctets k.material | none => 0)
     else 0)
  | _ =>
    match op with
    | 1 => (mldsaSizes j.paramA).2
    | 3 => (mldsaSizes j.paramA).1
    | 4 => (mlkemSizes j.paramA).1
    | 5 => (mlkemSizes j.paramA).2
    | _ => 0

/-- R344, R355: the output slot's own check. -/
def State.outputCheck (s : State) (j : Job) : Nat :=
  match j.outputSlot with
  | none => 0
  | some n =>
    if n = 6 ∨ n = 7 then slotReserved
    else if n < 6 ∧ j.level ≠ .monitor then keyClass
    else if (s.keySlot n).isSome then slotOccupied
    else 0

/-- R481, R482: the accesses that a job makes are admitted by the commons gate. -/
def State.jobAccess (s : State) (j : Job) : Bool :=
  let a := j.accessor
  let writes := if j.cls ≤ 2 then (if j.multiStream then 0 else j.laneWrites) else s.unitWrites j
  s.engineAdmits a j.src j.srcLen .read && s.engineAdmits a j.dst writes .write &&
    (!(j.cls == 0 && j.paramA % 2 == 1 && j.final) || s.engineAdmits a j.dst (digestOctets 0 j.op.toNat) .read) &&
    (!(j.cls ≤ 2 && (j.suspendable || j.continues || !j.final) && !j.multiStream) ||
      (s.engineAdmits a j.ctx 480 .read && s.engineAdmits a j.ctx 480 .write)) &&
    (!j.multiStream || ((List.range (j.paramA % 16)).map (s.streamEntry j)).all (fun e =>
      s.engineAdmits a e.2.2.1 e.2.1 .read && s.engineAdmits a e.2.2.2 e.2.1 .write))

/-- The checks at placement: 0 or the code with which the job ends Failed. -/
def State.jobCheck (s : State) (j : Job) : Nat :=
  if j.cls = 5 then 0
  else
    let k := s.jobKeyCode j
    if k != 0 then k
    else
      let c := match j.cls with
        | 3 => s.numberCheck j
        | 4 => latticeCheck j
        | _ => s.laneCheck j
      if c != 0 then c
      else
        let o := s.outputCheck j
        if o != 0 then o else if s.jobAccess j then 0 else accessFault

/-- R320: a job that draws random material draws this many words at placement: the spec says at most 32 (DESIGN CHOICE,
notes/assumptions/37.md). -/
def Job.draws (j : Job) : Nat :=
  let op := j.op.toNat
  if (j.cls == 3 && [1, 3, 4, 5, 7, 9].contains op) || (j.cls == 4 && [1, 3, 4, 5].contains op) then 32 else 0

/-! ## Contexts (R307, R308) -/

/-- R307: the key check value of a job. -/
def State.jobKeyCheck (s : State) (j : Job) : List Byte :=
  if (j.cls == 1 && j.op == 6) || j.cls == 2 then keyCheck (s.jobKey j) else List.replicate 6 0

/-- R307: the header words of a context. -/
def contextHeader (j : Job) (processed number : Nat) : List Word :=
  let streams := if j.multiStream then j.paramA % 16 else 0
  [BitVec.ofNat 48 (0x4358 * 2 ^ 32 + j.op.toNat * 2 ^ 24 + j.cls * 2 ^ 20 + streams * 2 ^ 16 + 2 ^ 8 +
      contextBody j.cls j.op.toNat streams),
   BitVec.ofNat 48 processed, BitVec.ofNat 48 number]

/-- R307: the associated data of a context. -/
def State.contextAad (s : State) (j : Job) (header : List Word) : List Byte :=
  wordsBe header ++ beOctets 1 j.requester ++ beOctets 1 j.level.num ++ s.jobKeyCheck j

/-- R307: writes a context and increases the seal number. -/
def State.sealContext (j : Job) (processed : Nat) (body : List Byte) (key : BitVec 256) (s : State) : State :=
  let header := contextHeader j processed s.eng.sealNumber
  let n := 6 * contextBody j.cls j.op.toNat (j.paramA % 16)
  let c := gcmSeal key (beOctets 6 s.eng.sealNumber ++ List.replicate 6 0) (s.contextAad j header) (padTo n 0 body)
  let tag := c.2.take 12
  let words := header.flatMap wordOctets ++ c.1 ++ wordOctets (BitVec.ofNat 48 (beNat (tag.take 6))) ++
    wordOctets (BitVec.ofNat 48 (beNat (tag.drop 6)))
  ((s.onCommons (fun m => memStore m j.ctx words)).onEng (fun e => { e with sealNumber := e.sealNumber + 1 })).wrapBy
    (okey 0x4100 8) 1

/-- R308: the state and the octets processed that a job's context holds; none on any failed check. -/
def State.openContext (s : State) (j : Job) : Option (List Byte × Nat) :=
  match s.eng.contextKey with
  | none => none
  | some key =>
    let header := (List.range 3).map (fun i => s.commonsWord (j.ctx + 8 * i))
    let w0 := header.getD 0 0
    let body := bitsOf w0 7 0
    let n := contextBody j.cls j.op.toNat (j.paramA % 16)
    let ct := memOctets s.commons (j.ctx + 24) (6 * n)
    let tag := wordBe (s.commonsWord (j.ctx + 24 + 8 * n)) ++ wordBe (s.commonsWord (j.ctx + 32 + 8 * n))
    let nonce := wordBe (header.getD 2 0) ++ List.replicate 6 0
    let good := (beOctets 16 (Config.gcmTag key nonce (s.contextAad j header) ct).toNat).take 12
    if bitsOf w0 47 32 = 0x4358 ∧ bitsOf w0 31 24 = j.op.toNat ∧ bitsOf w0 23 20 = j.cls ∧ body = n ∧ good = tag then
      some (ct.mapIdx (fun i b => b ^^^ Config.gcmStream key nonce i), (header.getD 1 0).toNat)
    else none

/-! ## Results -/

/-- What an instance delivers: code (0 for Done), octets produced, writes to commons, and a key for the output slot. -/
structure EngineOut where
  code : Nat
  produced : Nat
  writes : List (Nat × List Byte)
  key : Option KeySlot
  /-- A context to be sealed: octets processed and state (R296). -/
  context : Option (Nat × List Byte)

/-- A result that only ends with a code. -/
def EngineOut.fail (code : Nat) : EngineOut := { code, produced := 0, writes := [], key := none, context := none }

/-- Octets from a function of their index. -/
def octetsOf (n : Nat) (f : Nat → Byte) : List Byte := (List.range n).map f

/-- The source octets of a job. -/
def State.source? (s : State) (j : Job) : List Byte := memOctets s.commons j.src j.srcLen

/-- What a lane absorbs of a part from where it stands up to an octet count: of its source, or of each stream (R301). -/
def State.partData (s : State) (j : Job) (octets : Nat) : List Byte :=
  if j.multiStream then
    let n := j.paramA % 16
    (List.range n).flatMap (fun i =>
      let e := s.streamEntry j i
      ((memOctets s.commons e.2.2.1 e.2.1).take (octets / n)).drop (j.consumed / n))
  else ((s.source? j).take octets).drop j.consumed

/-- What a lane has absorbed and written by the end of `data`, from the state that the job loaded. -/
def State.laneRun (s : State) (j : Job) (data : List Byte) (final : Bool) (n : Nat) : List Byte :=
  octetsOf n (Config.laneOutput j.cls j.op.toNat (s.jobKey j) j.loaded j.paramA j.paramB final data)

/-- The state of a lane after `data`. -/
def State.laneAfter (s : State) (j : Job) (data : List Byte) : List Byte :=
  octetsOf (6 * contextBody j.cls j.op.toNat (j.paramA % 16))
    (Config.laneState j.cls j.op.toNat (s.jobKey j) j.loaded data)

/-- R297: a digest over a whole message in one part, or as the lane ends it. -/
def State.laneDigest (s : State) (j : Job) (data : List Byte) (n : Nat) : List Byte :=
  if j.begins && j.cls == 0 then
    (if j.op = 2 then sha384 data else octetsOf n (Config.digest j.op.toNat data n))
  else if j.begins && j.cls == 1 && j.op == 6 then
    beOctets n (Config.kmac256 (s.jobKey j) (data.drop (j.paramA % 256)) (data.take (j.paramA % 256)) (8 * n))
  else s.laneRun j data true n

/-- R297, R298: the result of a hash job. -/
def State.hashResult (s : State) (j : Job) : EngineOut :=
  let data := (s.source? j).drop j.consumed
  let n := if j.cls = 1 ∧ 4 ≤ j.op.toNat then j.paramB else digestOctets j.cls j.op.toNat
  if j.final then
    let d := s.laneDigest j data n
    if j.cls = 0 ∧ j.paramA % 2 = 1 then
      if d = memOctets s.commons j.dst n then { EngineOut.fail 0 with produced := 0 } else EngineOut.fail digestMismatch
    else { EngineOut.fail 0 with produced := n, writes := [(j.dst, d)] }
  else
    { EngineOut.fail 0 with context := some (j.before + j.srcLen - j.leading, s.laneAfter j data) }

/-- R299, R300: the result of a single-stream cipher job. -/
def State.cipherResult (s : State) (j : Job) : EngineOut :=
  let source := s.source? j
  let done := j.consumed - j.leading
  let data := source.drop j.consumed
  let n := j.payload - done
  let key := s.jobKey j
  let wholeGcm := isGcm j.op.toNat && j.begins && j.final && key.length == 32
  let nonce := source.take 12
  let aad := (source.drop 12).take j.paramA
  let payload := (source.drop j.leading).take j.payload
  let key256 : BitVec 256 := BitVec.ofNat 256 (beNat key)
  let dst := (octMove j.dst (done : Int)).toNat
  if j.op = 0x52 && j.final then
    let tag := source.drop (j.leading + j.payload)
    let ok := if wholeGcm then tag == (beOctets 16 (Config.gcmTag key256 nonce aad payload).toNat).take j.paramB
      else Config.laneTagOk key j.loaded j.paramA j.paramB data
    let plain := if wholeGcm then payload.mapIdx (fun i b => b ^^^ Config.gcmStream key256 nonce i)
      else s.laneRun j data true n
    if ok then { EngineOut.fail 0 with produced := j.payload, writes := [(dst, plain)] }
    else { EngineOut.fail tagMismatch with writes := [(j.dst, List.replicate j.payload 0)] }
  else
    let out := if wholeGcm then
        let c := gcmSeal key256 nonce aad payload
        c.1 ++ c.2.take j.paramB
      else s.laneRun j data j.final (n + (j.laneWrites - j.payload))
    { EngineOut.fail 0 with
      produced := j.laneWrites, writes := [(dst, out)],
      context := if j.final then none else some (j.before + j.payload, s.laneAfter j data) }

/-- R301: the result of a multi-stream job. -/
def State.streamsResult (s : State) (j : Job) : EngineOut :=
  let e := (List.range (j.paramA % 16)).map (s.streamEntry j)
  { EngineOut.fail 0 with
    produced := (e.map (fun x => x.2.1)).sum,
    writes := e.map (fun x =>
      (x.2.2.2, octetsOf x.2.1 (Config.laneOutput 2 j.op.toNat (s.jobKey j) (x.1.take 16) 0 0 true
        (memOctets s.commons x.2.2.1 x.2.1)))) }

/-- R319: a key for an output slot: type, use class, material, curve digest; its other attributes are left open. -/
def outputKey (j : Job) (keyType useClass : Nat) (material curve : List Byte) : KeySlot :=
  { material, level := j.level.num, filledBy := j.pair.map Fin.val,
    attrs := { keyType, useClass, modeMask := Config.outputModeMask, minLevel := j.level.num,
               pairMask := Config.outputPairMask, flags := Config.outputFlags, length := material.length,
               keyId := Config.outputKeyId.toNat, notAfter := 0, curve, reserved := [0, 0, 0] } }

/-- A point of a curve as 04 ‖ x ‖ y. -/
def CurveDef.encode (c : CurveDef) (q : Option (Nat × Nat)) : List Byte :=
  match q with
  | some (x, y) => [4] ++ beOctets c.fieldOctets x ++ beOctets c.fieldOctets y
  | none => [4] ++ List.replicate (2 * c.fieldOctets) 0

/-- R321: a peer point: leading octet 04, coordinates below p, on the curve, and for a cofactor above 1 in ECDH n·Q at
infinity. -/
def CurveDef.decode (c : CurveDef) (full : Bool) (b : List Byte) : Option (Nat × Nat) :=
  let n := c.fieldOctets
  let x := beNat ((b.drop 1).take n)
  let y := beNat ((b.drop (1 + n)).take n)
  if b.getD 0 0 = 4 ∧ c.onCurve x y = true ∧ (!full || c.h ≤ 1 || (c.mul c.n (some (x, y))).isNone) = true then
    some (x, y)
  else none

/-- R317, R344: the result of an operation on a Weierstrass curve, whose definition the job took at its placement. -/
def State.curveResult (s : State) (j : Job) (c : CurveDef) : EngineOut :=
  let source := s.source? j
  let np := c.fieldOctets
  let n := c.orderOctets
  let curve := sha384 j.loaded
  match j.op.toNat with
  | 1 => { EngineOut.fail 0 with
           produced := 2 * n,
           writes := [(j.dst, octetsOf (2 * n) (Config.unitOutput 3 1 j.paramA 0 (s.jobKey j) source j.random))] }
  | 2 =>
    let q := source.take (1 + 2 * np)
    let r := (source.drop (1 + 2 * np)).take n
    let t := (source.drop (1 + 2 * np + n)).take n
    let digest := source.drop (1 + 2 * np + 2 * n)
    if (c.decode false q).isNone || beNat r < 1 || beNat r ≥ c.n || beNat t < 1 || beNat t ≥ c.n then
      EngineOut.fail keyInvalid
    else if (if j.paramA < 3 then Config.ecdsaVerify j.paramA q digest (r ++ t)
        else Config.ecVerify j.loaded q digest (r ++ t)) then EngineOut.fail 0
    else EngineOut.fail verifyFailed
  | 3 =>
    let d := ecScalar c ((wordsBe j.random).take (n + 16))
    let q := c.encode (c.mul (beNat d) (some (c.gx, c.gy)))
    { EngineOut.fail 0 with
      produced := q.length, writes := [(j.dst, q)], key := some (outputKey j 0x10 (6 + j.paramB % 2) d curve) }
  | _ =>
    match c.decode true source with
    | none => EngineOut.fail keyInvalid
    | some q =>
      match c.mul (beNat (s.jobKey j)) (some q) with
      | none => EngineOut.fail keyInvalid
      | some (x, _) =>
        { EngineOut.fail 0 with key := some (outputKey j 5 5 (beOctets np x) (List.replicate 48 0)) }

/-- R321: RSA verification inputs: k, e, n, signature, digest of a source; none when a condition fails. -/
def rsaInputs (b : List Byte) (digest : Nat) : Bool :=
  let k := beNat (b.take 2)
  let le := (b.getD 2 0).toNat
  let e := beNat ((b.drop 3).take le)
  let n := beNat ((b.drop (3 + le)).take k)
  let sig := beNat ((b.drop (3 + le + k)).take k)
  256 ≤ k && k ≤ 1024 && b.length == 3 + le + 2 * k + digest && 1 ≤ le && le ≤ 32 && n % 2 == 1 &&
    b.getD (3 + le) 0 != 0 && e % 2 == 1 && 3 ≤ e && e < n && sig < n

/-- R317: the result of an EdDSA or RSA operation. -/
def State.otherResult (s : State) (j : Job) : EngineOut :=
  let op := j.op.toNat
  let source := s.source? j
  let n := s.unitWrites j
  let out := octetsOf n (Config.unitOutput 3 op j.paramA j.paramB (s.jobKey j) source j.random)
  match op with
  | 6 =>
    if !Config.unitInputOk 3 6 j.paramA j.paramB source then EngineOut.fail keyInvalid
    else if Config.unitVerify 3 6 j.paramA j.paramB source then EngineOut.fail 0 else EngineOut.fail verifyFailed
  | 7 =>
    { EngineOut.fail 0 with
      produced := n, writes := [(j.dst, out)],
      key := some (outputKey j (if j.paramA = 3 then 0x11 else 0x12) 6 ((wordsBe j.random).take n)
        (List.replicate 48 0)) }
  | 8 =>
    if !rsaInputs source (rsaDigest j.paramA) then EngineOut.fail keyInvalid
    else if Config.unitVerify 3 8 j.paramA j.paramB source then EngineOut.fail 0 else EngineOut.fail verifyFailed
  | _ => { EngineOut.fail 0 with produced := n, writes := [(j.dst, out)] }

/-- R318: the result of a lattice operation, with the iterations that a signature took (R338). -/
def State.latticeResult (s : State) (j : Job) (iterations : Nat) : EngineOut :=
  let source := s.source? j
  let n := s.unitWrites j
  let out := octetsOf n (Config.unitOutput 4 j.op.toNat j.paramA j.paramB (s.jobKey j) source j.random)
  let secret := octetsOf 32 (Config.unitOutput 4 (j.op.toNat + 16) j.paramA j.paramB (s.jobKey j) source j.random)
  let ds := mldsaSizes j.paramA
  match j.op.toNat with
  | 1 => if iterations ≥ 256 then EngineOut.fail signIterations
         else { EngineOut.fail 0 with produced := n, writes := [(j.dst, out)] }
  | 2 =>
    let pk := source.take ds.1
    let sig := (source.drop ds.1).take ds.2
    let ctx := (source.drop (ds.1 + ds.2)).take j.paramB
    let msg := source.drop (ds.1 + ds.2 + j.paramB)
    if !Config.unitInputOk 4 2 j.paramA j.paramB source then EngineOut.fail keyInvalid
    else if Config.mldsaVerify (if j.paramA % 2 = 0 then 65 else 87) pk msg ctx sig then EngineOut.fail 0
    else EngineOut.fail verifyFailed
  | 3 =>
    let seed := (wordsBe j.random).take 32
    { EngineOut.fail 0 with
      produced := n, writes := [(j.dst, publicMlDsa (if j.paramA % 2 = 0 then 65 else 87) seed)],
      key := some (outputKey j (0x20 + j.paramA % 2) 6 seed (List.replicate 48 0)) }
  | 4 =>
    { EngineOut.fail 0 with
      produced := n, writes := [(j.dst, out)],
      key := some (outputKey j (0x28 + j.paramA % 2) 7 ((wordsBe j.random).take 64) (List.replicate 48 0)) }
  | 5 =>
    if !Config.unitInputOk 4 5 j.paramA 0 source then EngineOut.fail keyInvalid
    else { EngineOut.fail 0 with
           produced := n, writes := [(j.dst, out)], key := some (outputKey j 5 5 secret (List.replicate 48 0)) }
  | 6 => { EngineOut.fail 0 with key := some (outputKey j 5 5 secret (List.replicate 48 0)) }
  | _ =>
    if !Config.unitInputOk 4 j.op.toNat j.paramA 0 source then EngineOut.fail keyInvalid
    else if Config.unitVerify 4 j.op.toNat j.paramA 0 source then EngineOut.fail 0 else EngineOut.fail verifyFailed

/-- The result of a job on its instance. -/
def State.engineResult (s : State) (j : Job) (iterations : Nat) : EngineOut :=
  match j.cls with
  | 0 | 1 => s.hashResult j
  | 2 => if j.multiStream then s.streamsResult j else s.cipherResult j
  | 3 =>
    if j.op.toNat ≤ 4 then
      match parseCurve j.loaded with
      | some c => s.curveResult j c
      | none => EngineOut.fail curveAbsent
    else s.otherResult j
  | _ => s.latticeResult j iterations

/-- Writes octets to commons in order. -/
def State.commonsStores (l : List (Nat × List Byte)) (s : State) : State :=
  s.forAll l (fun e => State.onCommons (fun m => memStore m e.1 e.2))

/-- Index of a lane in the order H0 to H13, K0, K1, C0, C1 (R315). -/
def laneIndex (code : Nat) : Nat := if code < 14 then code else if code < 0x20 then 14 + (code - 0x10) else 16 + (code - 0x20)

/-- Placement code of a lane in that order. -/
def laneCode (i : Nat) : Nat := if i < 14 then i else if i < 16 then 0x10 + (i - 14) else 0x20 + (i - 16)

/-- Class of a lane in that order. -/
def laneClass (i : Nat) : Nat := if i < 14 then 0 else if i < 16 then 1 else 2

/-- Index of a unit in the order P0, P1, L0 (R345), its placement code and its class. -/
def unitIndex (code : Nat) : Nat := if code = 0x40 then 2 else code - 0x30
def unitCode (i : Nat) : Nat := if i = 2 then 0x40 else 0x30 + i
def unitClass (i : Nat) : Nat := if i = 2 then 4 else 3

/-- Octets that a lane job processes: its source, or the payloads of its streams (R301). -/
def State.workOctets (s : State) (j : Job) : Nat :=
  if j.multiStream then ((List.range (j.paramA % 16)).map (fun i => (s.streamEntry j i).2.1)).sum else j.srcLen

/-- Octets processed or operations completed are counted (R315, R345). -/
def State.countWork (j : Job) (place iterations : Nat) (s : State) : State :=
  if j.cls ≤ 2 then s.wrapWord (okey 0x4100 5) 18 (laneIndex place) (s.workOctets j - j.consumed)
  else
    let s := s.wrapWord (okey 0x4200 2) 3 (unitIndex place)
    if j.cls == 4 && j.op == 1 then
      let s := s.wrapBy (okey 0x4200 6) iterations
      if iterations ≥ 256 then s.bump (okey 0x4200 7) else s
    else s

/-- R281, R307, R319, R344: a current result applies: its writes, its key, its context, its end. -/
def State.applyResult (slot : Nat) (j : Job) (place iterations : Nat) (s : State) : State :=
  let o := s.engineResult j iterations
  let s := s.countWork j place iterations
  let occupied := match o.key, j.outputSlot with
    | some _, some n => (s.keySlot n).isSome
    | _, _ => false
  if occupied then s.failJob slot slotOccupied
  else
    let s := s.commonsStores o.writes
    if o.code != 0 then s.failJob slot o.code
    else
      let s := match o.key, j.outputSlot with
        | some k, some n => s.fillSlot n k
        | _, _ => s
      match o.context with
      | none => s.endJob slot .done 0 o.produced
      | some (processed, body) =>
        match s.eng.contextKey with
        | none => s.failJob slot contextInvalid
        | some key => (s.sealContext j processed body key).endJob slot .done 0 o.produced

end Sys2Proof.Machine
end

