-- ==== Sys2Proof/Machine/Jobs.lean ====
section
/-! DEFINITION. The Job Hub's commands: windows, placement, completion, suspension, aging, timeouts
(spec/08_job_hub.md, R270 to R285, R291). -/

namespace Sys2Proof.Machine

/-- A pair that executes at a level. -/
def State.pairAt (s : State) (p : Fin 4) (l : Level) : Bool := s.runs p && s.pairs[p].level == l

/-! ## Windows (R270) -/

/-- JH_SUBMIT, which is a counted event of the pair (R488). -/
def State.jhSubmit (p : Fin 4) (l : Level) (s : State) : State := (s.submit p l).onPair p (Pair.perf 0x0D 1)

/-- JH_POP: the oldest entry of the window's queue; its slot is freed (R283). -/
def State.jhPop (p : Fin 4) (l : Level) (s : State) : State × Word :=
  let w := windowIndex p l
  match s.hub.windows[w].queue with
  | [] => (s, 0)
  | e :: rest =>
    let s := s.onHubWindow w (fun x => { x with queue := rest, popped := some e })
    ((match s.slotOf e.handle with | some slot => s.freeSlot slot | none => s),
      BitVec.ofNat 48 (e.handle.toNat * 2 ^ 24 + e.code))

/-- JH_POPX: of the entry last popped. -/
def State.jhPopx (s : State) (p : Fin 4) (l : Level) : Word :=
  match s.hub.windows[windowIndex p l].popped with
  | none => 0
  | some e => BitVec.ofNat 48 (e.produced % 2 ^ 24 * 2 ^ 24 + e.suspensions * 2 ^ 16 + e.epoch * 2 ^ 12)

/-- JH_RESULT. -/
def State.jhResult (s : State) (p : Fin 4) (l : Level) : Word :=
  let r := s.hub.windows[windowIndex p l].result
  BitVec.ofNat 48 (r.1.toNat * 2 ^ 24 + r.2)

/-- JH_STATE of the queried handle. -/
def State.jhState (s : State) (p : Fin 4) (l : Level) : Word :=
  let h := s.hub.windows[windowIndex p l].query
  match (s.slotOf h).bind s.job with
  | none => 0
  | some j => BitVec.ofNat 48 (h.toNat * 2 ^ 24 + j.st.code * 2 ^ 20 + j.epoch * 2 ^ 16 + j.placement * 2 ^ 8 +
      j.effective * 2 ^ 4)

/-- R284: a window submitted a job, or an ancestor of it. -/
def State.owns (s : State) (p : Fin 4) (l : Level) : Nat → Nat → Bool
  | 0, _ => false
  | fuel + 1, slot =>
    match s.job slot with
    | none => false
    | some j =>
      (j.requester == p.val && j.level == l) ||
        (match s.slotOf j.parent with | some q => s.owns p l fuel q | none => false)

/-- JH_ABORT (R284). -/
def State.jhAbort (p : Fin 4) (l : Level) (value : Word) (s : State) : State :=
  let h : BitVec 24 := value.setWidth 24
  let r := match s.slotOf h with
    | none => (s, noSuchJob)
    | some slot =>
      if l != Level.monitor && !s.owns p l 64 slot then (s, notOwner)
      else match s.job slot with
      | none => (s, noSuchJob)
      | some j => if j.st.isFinal then (s, alreadyDone) else (s.abortJob slot, 0)
  r.1.onHubWindow (windowIndex p l) (fun x => { x with result := (h, r.2) })

/-- JH_QUERY. -/
def State.jhQuery (p : Fin 4) (l : Level) (value : Word) (s : State) : State :=
  s.onHubWindow (windowIndex p l) (fun x => { x with query := value.setWidth 24 })

/-- JH_TAKE: the next pair job placed on the pair and not yet taken (R278). -/
def State.jhTake (p : Fin 4) (s : State) : State × Word :=
  match s.hub.placed[p] with
  | [] => (s, 0)
  | h :: rest => (s.onHub (fun u => { u with placed := u.placed.set p rest }), BitVec.ofNat 48 h.toNat)

/-- JH_CURRENT (R278). -/
def State.jhCurrent (p : Fin 4) (value : Word) (s : State) : State :=
  s.onHub (fun u => { u with current := u.current.set p (value.setWidth 24) })

/-- R281: a stale completion is counted. -/
def State.countStale (s : State) : State := s.bump (okey 0x4000 3)

/-- JH_DONE (R278, R284): accepted only from the pair of the job's current placement. -/
def State.jhDone (p : Fin 4) (value : Word) (s : State) : State :=
  let code := bitsOf value 23 0
  match s.slotOf (BitVec.ofNat 24 (bitsOf value 47 24)) with
  | none => s.countStale
  | some slot =>
    match s.job slot with
    | none => s.countStale
    | some j =>
      if j.cls != 5 || j.st.isFinal || j.placement != 0x50 + p.val then s.countStale
      else if j.st = .aborting then s.endJob slot .aborted jobAborted 0
      else if j.st != .running then s.countStale
      else if code = 0 then s.endJob slot .done 0 0 else s.failJob slot code

/-- JH_CHECKPOINT (R279); the refusal's code stands in JH_RESULT (DEDUCED, notes/assumptions/38.md). -/
def State.jhCheckpoint (p : Fin 4) (l : Level) (value : Word) (s : State) : State :=
  let h := BitVec.ofNat 24 (bitsOf value 47 24)
  let answer := fun (code : Nat) (s : State) => s.onHubWindow (windowIndex p l) (fun x => { x with result := (h, code) })
  match s.slotOf h with
  | none => s |> answer noSuchJob
  | some slot =>
    match s.job slot with
    | none => s |> answer noSuchJob
    | some j =>
      if j.cls != 5 || j.placement != 0x50 + p.val then s |> answer noSuchJob
      else if !(s.childrenOf h).isEmpty then s |> answer checkpointRefused
      else s.onJob slot (fun j =>
        { j with checkpoint := some (bitsOf value 21 0),
                 words := j.words.set 3 (BitVec.ofNat 48 (j.words[3].toNat / 2 ^ 28 * 2 ^ 28 +
                   (0x100000 + bitsOf value 21 0) * 8)) })

/-- JH_SUBMIT (R271): the pair writes its window's submission register. -/
def execJhSubmit (p : Fin 4) (l : Level) (s : State) : Host.Outcome State Fault Refusal :=
  .next (if s.pairAt p l then s.jhSubmit p l else s)

/-- JH_POP (R283). -/
def execJhPop (p : Fin 4) (l : Level) (s : State) : Host.Outcome State Fault Refusal :=
  .next (if s.pairAt p l then
      let r := s.jhPop p l
      r.1.send (.readData p r.2)
    else s)

/-- JH_ABORT (R284). -/
def execJhAbort (p : Fin 4) (l : Level) (value : Word) (s : State) : Host.Outcome State Fault Refusal :=
  .next (if s.pairAt p l then s.jhAbort p l value else s)

/-- JH_QUERY (R270). -/
def execJhQuery (p : Fin 4) (l : Level) (value : Word) (s : State) : Host.Outcome State Fault Refusal :=
  .next (if s.pairAt p l then s.jhQuery p l value else s)

/-- JH_TAKE (R278): Monitor's window only. -/
def execJhTake (p : Fin 4) (l : Level) (s : State) : Host.Outcome State Fault Refusal :=
  .next (if s.pairAt p l && l == Level.monitor then
      let r := s.jhTake p
      r.1.send (.readData p r.2)
    else s)

/-- JH_CURRENT (R278). -/
def execJhCurrent (p : Fin 4) (l : Level) (value : Word) (s : State) : Host.Outcome State Fault Refusal :=
  .next (if s.pairAt p l && l == Level.monitor then s.jhCurrent p value else s)

/-- JH_DONE (R278). -/
def execJhDone (p : Fin 4) (l : Level) (value : Word) (s : State) : Host.Outcome State Fault Refusal :=
  .next (if s.pairAt p l && l == Level.monitor then s.jhDone p value else s)

/-- JH_CHECKPOINT (R279). -/
def execJhCheckpoint (p : Fin 4) (l : Level) (value : Word) (s : State) : Host.Outcome State Fault Refusal :=
  .next (if s.pairAt p l && l == Level.monitor then s.jhCheckpoint p l value else s)

/-! ## Placement (R274, R277, R278, R291) -/

/-- The health of an instance. -/
def State.health (s : State) (code : Nat) : EngineHealth := (kget s.eng.health code).getD EngineHealth.initial

/-- Updates the health of an instance. -/
def State.onHealth (code : Nat) (f : EngineHealth → EngineHealth) (s : State) : State :=
  s.onEng (fun e => { e with health := kupd e.health code EngineHealth.initial f })

/-- A channel's bound stream (R277): its job's requester. -/
def Job.stream (j : Job) : Option (Fin 12) := if h : 4 ≤ j.requester ∧ j.requester < 16 then some ⟨j.requester - 4, by omega⟩ else none

/-- R305, R312: an instance may take a job: in service, tested, idle. -/
def State.instanceFree (s : State) (code : Nat) : Bool :=
  s.inService code && (s.runningOn code).isNone && !(s.health code).testing && !(s.health code).untested

/-- R277, R305: a lane bound to a channel takes general work only while its channel serves without a pinned reload and
sharing is on. -/
def State.boundLaneShared (s : State) (code : Nat) : Bool :=
  match (channels.find? (fun n => n.val == code)) with
  | some n => s.chans[n].phase == 5 && s.objNum (okey 0x4000 0x12) == 1 && !s.chans[n].regions.any (fun e => e.2.reloading)
  | none => true

/-- R274, R291: the job waits for a key that a hot restart emptied. -/
def State.waitsForKey (s : State) (j : Job) : Bool :=
  j.keyNeeds.isSome && j.keyUsed && (s.keySlot j.keyNumber).isNone &&
    (s.dict.restarting || (match j.keyWait with | some t => s.now < t + second | none => false))

/-- A job that an instance may take now. -/
def State.candidate (s : State) (code : Nat) (j : Job) : Bool :=
  j.st.placeable && !s.waitsForKey j && j.draws ≤ s.ent.queue.length &&
    (if code < 14 then
      if j.stream.isSome then code == 12 || code == 13
      else code ≥ 12 || (s.boundLaneShared code && j.suspendable)
    else true)

/-- R274: of two jobs the one of higher effective urgency, and among equals the one allocated earlier. -/
def betterJob (a b : Nat × Job) : Bool :=
  a.2.effective > b.2.effective || (a.2.effective == b.2.effective && a.2.order < b.2.order)

/-- R274: the best of the jobs that satisfy a condition. -/
def State.bestJob (s : State) (ok : Job → Bool) : Option (Nat × Job) :=
  (s.hub.slots.filter (fun e => ok e.2)).foldl (fun best e =>
    match best with
    | none => some e
    | some b => if betterJob e b then some e else some b) none

/-- R276: a job starts on an instance. -/
def State.startOn (slot code : Nat) (f : Job → Job) (s : State) : State :=
  (s.onJob slot (fun j =>
    f { j with st := .running, placement := code, aged := 0, started := s.hub.startOrder, keyWait := none })).onHub
    (fun h => { h with startOrder := h.startOrder + 1 })

/-- R295, R308, R320, R344: the checks at placement, the context or the curve's definition, the random words, the start. -/
def State.placeEngine (slot : Nat) (j : Job) (code : Nat) (s : State) : State :=
  match j.stream with
  | some n => (s.startOn slot code id).onEng (fun e => { e with hashing := e.hashing.set n code })
  | none =>
    let c := s.jobCheck j
    if c != 0 then (if c = accessFault then s.countRefusal 8 else s).failJob slot c
    else
      match s.takeWords j.draws with
      | none => s
      | some (random, s) =>
        if j.cls ≤ 2 && !j.begins && !(j.multiStream && j.consumed == 0) then
          match s.openContext j with
          | none => (s.bump (okey 0x4100 9)).failJob slot contextInvalid
          | some (loaded, processed) =>
            if 2 ^ 48 ≤ processed + (j.leading + j.payload - max j.consumed j.leading) then s.failJob slot lengthInvalid
            else s.startOn slot code (fun j =>
              { j with loaded, before := processed - (j.consumed - j.leading), random })
        else
          let curve := if j.cls == 3 && j.op.toNat ≤ 4 then s.curveOctets j.paramA else []
          s.startOn slot code (fun j => { j with loaded := curve, before := 0, random })

/-- R278: the pair that takes the next pair job: in service, fewer than 16, fewest, lowest. -/
def State.pairForJob (s : State) : Option (Fin 4) :=
  let load := fun (p : Fin 4) => (s.slotsWhere (fun j => j.cls == 5 && j.placement == 0x50 + p.val && !j.st.isFinal)).length
  (pairIndexes.filter (fun p => s.pairs[p].inService && load p < 16)).foldl (fun best p =>
    match best with
    | none => some p
    | some q => if load p < load q then some p else some q) none

/-- JOB_PLACEMENT (R274): one placement in a class; none from the fall of PFAIL_N (R601). -/
def State.placeJob (cls : Nat) (s : State) : State :=
  let s := s.failUnavailable cls
  if s.modes.pfail then s
  else if cls = 5 then
    match s.pairForJob, s.bestJob (fun j => j.cls == 5 && j.st.placeable) with
    | some p, some (slot, _) =>
      (s.startOn slot (0x50 + p.val) id).onHub (fun h =>
        { h with placed := h.placed.set p (h.placed[p] ++ [s.handleOf slot]) })
    | _, _ => s
  else
    match (instancesOf cls).find? (fun code =>
        s.instanceFree code && (s.bestJob (fun j => j.cls == cls && s.candidate code j)).isSome) with
    | none => s
    | some code =>
      match s.bestJob (fun j => j.cls == cls && s.candidate code j) with
      | none => s
      | some (slot, j) => s.placeEngine slot j code

/-- JOB_PLACEMENT (R274). -/
def execJobPlacement (cls : Fin 6) (s : State) : Host.Outcome State Fault Refusal :=
  .next (s.whenLive (State.placeJob cls.val))

/-! ## Completion (R281) -/

/-- R281: a result is stale: an older epoch, an older parent epoch, a job already final or freed. A parent that ended and was
freed has no epoch that could be newer (DEDUCED, notes/assumptions/120.md). -/
def State.stale (s : State) (r : EngineResult) : Bool :=
  match s.job r.slot.val with
  | none => true
  | some j =>
    j.st.isFinal || r.epoch < j.epoch ||
      (match (s.slotOf j.parent).bind s.job with
      | some k => r.parentEpoch < k.epoch
      | none => false)

/-- ENGINE_COMPLETION (R281): a stale result is dropped and counted; a current one of the running placement applies. -/
def State.engineDone (r : EngineResult) (s : State) : State :=
  if s.stale r then s.countStale
  else match s.job r.slot.val with
  | none => s
  | some j =>
    if j.st = .running ∧ j.cls ≤ 4 ∧ j.stream = none ∧ r.place = j.placement ∧ r.epoch = j.epoch then
      s.applyResult r.slot.val j r.place r.iterations
    else s

/-- ENGINE_COMPLETION (R281). -/
def execEngineCompletion (r : EngineResult) (s : State) : Host.Outcome State Fault Refusal :=
  .next (s.whenLive (State.engineDone r))

/-! ## Suspension (R276, R277, R309) -/

/-- R276, R277, R309: the hub may suspend a running lane job: a Ready job of its class at least 2 above it finds no
instance free, no running suspendable job of the class ranks below it; or its bound lane's channel needs the lane. -/
def State.maySuspend (s : State) (slot : Nat) (j : Job) : Bool :=
  let demanded := j.placement < 12 && !s.boundLaneShared j.placement
  let running := s.hub.slots.filter (fun e => e.2.cls == j.cls && e.2.st == .running && e.2.suspendable && e.2.stream.isNone)
  let blocked := (s.bestJob (fun k => k.cls == j.cls && k.st.placeable && k.effective ≥ j.effective + 2 &&
    !(instancesOf j.cls).any (fun code => s.instanceFree code && s.candidate code k))).isSome
  let lowest := running.all (fun e => e.1 == slot || e.2.effective > j.effective ||
    (e.2.effective == j.effective && e.2.started ≤ j.started))
  s.eng.contextKey.isSome && j.cls ≤ 2 && j.st == .running && j.stream.isNone &&
    (demanded || (j.suspendable && blocked && lowest))

/-- R309: the octets of the part at a block boundary, before its last block. -/
def Job.boundary (j : Job) (octets : Nat) : Bool :=
  if j.multiStream then octets > 0 && octets % (16 * (j.paramA % 16)) == 0
  else j.leading ≤ octets && j.consumed ≤ octets && octets < j.leading + j.payload &&
    (octets - j.leading) % blockOctets j.cls j.op.toNat == 0

/-- What the lane has written by a suspension. -/
def State.suspendWrites (s : State) (j : Job) (octets : Nat) : List (Nat × List Byte) :=
  if j.cls != 2 then []
  else if j.multiStream then
    ((s.streamsResult j).writes).map (fun w => (w.1, w.2.take (octets / (j.paramA % 16))))
  else
    let done := j.consumed - j.leading
    let data := s.partData j octets
    [((octMove j.dst (done : Int)).toNat, s.laneRun j data false (octets - j.leading - done))]

/-- JOB_SUSPENSION (R276, R307): outputs so far are written, the context is sealed, the job returns to Ready. -/
def State.suspendJob (slot octets : Nat) (s : State) : State :=
  match s.job slot, s.eng.contextKey with
  | some j, some key =>
    if s.maySuspend slot j && j.boundary octets then
      let data := s.partData j octets
      let s := s.commonsStores (s.suspendWrites j octets)
      let s := s.sealContext j (j.before + octets - j.leading) (s.laneAfter j data) key
      ((s.onJob slot (fun j =>
        { j with st := .suspended, placement := 0xFF, suspensions := min 255 (j.suspensions + 1), consumed := octets,
                 loaded := [], aged := 0 })).wrapBy (okey 0x4000 5) 1).wrapWord (okey 0x4100 5) 18 (laneIndex j.placement)
        (octets - j.consumed)
    else s
  | _, _ => s

/-- JOB_SUSPENSION (R276). -/
def execJobSuspension (slot : Fin 4096) (octets : Nat) (s : State) : Host.Outcome State Fault Refusal :=
  .next (s.whenLive (State.suspendJob slot.val octets))

/-! ## Aging, timeouts (R275, R280, R284, R291) -/

/-- URGENCY_AGING (R275): one aging period ends for every Ready or Suspended job. The model counts the periods of all
jobs together (DESIGN CHOICE, notes/assumptions/39.md). -/
def execUrgencyAging (s : State) : Host.Outcome State Fault Refusal :=
  .next (s.whenLive (fun s => s.onHub (fun h =>
    { h with slots := h.slots.map (fun e => (e.1, if e.2.st.placeable then { e.2 with aged := e.2.aged + 1 } else e.2)) })))

/-- JOB_RUN_TIMEOUT (R280): the job ran for more than 4 times its maximum time. -/
def execJobRunTimeout (slot : Fin 4096) (s : State) : Host.Outcome State Fault Refusal :=
  .next (s.whenLive (fun s =>
    match s.job slot.val with
    | some j => if j.st = .running ∧ j.cls ≤ 4 then s.replaceJob slot.val else s
    | none => s))

/-- KEY_WAIT_EXPIRY (R291): 1 s after the hot restart ended, the jobs whose key slot is still empty end KEY_ABSENT. -/
def execKeyWaitExpiry (s : State) : Host.Outcome State Fault Refusal :=
  .next (s.whenLive (fun s =>
    s.forAll (s.slotsWhere (fun j => j.st.placeable && (s.keySlot j.keyNumber).isNone &&
      (match j.keyWait with | some t => t + second ≤ s.now | none => false)))
      (fun slot => State.failJob slot keyAbsent)))

/-- PAIR_JOB_ABORT_BOUND (R284): the hub ends an aborted pair job at the bound. -/
def execPairJobAbortBound (slot : Fin 4096) (s : State) : Host.Outcome State Fault Refusal :=
  .next (s.whenLive (fun s =>
    match s.job slot.val with
    | some j => if j.cls = 5 ∧ j.st = .aborting then s.endJob slot.val .aborted jobAborted 0 else s
    | none => s))

/-- R344, R366: a slot was cleared: the running jobs that use its key stop and end KEY_ABSENT. -/
def State.keySlotGone (n : Nat) (s : State) : State :=
  s.forAll (s.slotsWhere (fun j => j.st == .running && j.keyNeeds.isSome && j.keyNumber == n))
    (fun slot => State.failJob slot keyAbsent)

/-- R273: a reseed completed: the jobs allocated before it that need one become Ready when both its blocks were released
after their allocation. `moment`: the release of the older of its blocks. -/
def State.reseedJobs (moment : Nat) (s : State) : State :=
  s.onHub (fun h => { h with slots := h.slots.map (fun e =>
    (e.1, if e.2.st == .waiting && e.2.fresh && e.2.allocMoment < moment then Job.wake { e.2 with reseeded := true } else e.2)) })

end Sys2Proof.Machine
end

