-- ==== Sys2Proof/Machine/KeyCommands.lean ====
section
/-! DEFINITION. The key unit's windows and commands, blobs, expiry, the Ceremony actions
(spec/11_keys_and_entropy.md, R355 to R366). -/

namespace Sys2Proof.Machine

/-! ## Windows (R364) -/

/-- Updates a window of the key unit. -/
def State.onKeyWindow (p : Fin 4) (l : Level) (f : KeyWindow → KeyWindow) (s : State) : State :=
  s.onKeys (fun u => { u with windows := u.windows.set (windowIndex p l) (f u.windows[windowIndex p l]) })

/-- Interrupt source of the key unit (R474). -/
def keyInterrupt : Nat := 3

/-- A window's command ends with a state and code; the pair is told (R364, R474). -/
def State.endKeyCommand (p : Fin 4) (l : Level) (st : KuState) (code : Nat) (s : State) : State :=
  (s.onKeyWindow p l (fun w => { w with st, code, waits := none })).onPair p (Pair.interrupt keyInterrupt)

/-- How a command ends in its own step: done (code 0), failed, or it waits. -/
inductive KeyEnd
  | ends (code : Nat)
  | waits (w : KeyWait)

/-- Slot a, slot b, domain and pointer A of KU_ARG0; length and pointer B of KU_ARG1. -/
def KeyWindow.slotA (w : KeyWindow) : Nat := bitsOf w.arg0 47 40
def KeyWindow.slotB (w : KeyWindow) : Nat := bitsOf w.arg0 39 32
def KeyWindow.domain (w : KeyWindow) : Nat := bitsOf w.arg0 31 28
def KeyWindow.ptrA (w : KeyWindow) : Nat := bitsOf w.arg0 27 0
def KeyWindow.len (w : KeyWindow) : Nat := bitsOf w.arg1 47 28
def KeyWindow.ptrB (w : KeyWindow) : Nat := bitsOf w.arg1 27 0

/-- R366: a slot that a waiting command will fill. -/
def State.slotPendingFill (s : State) (n : Nat) : Bool :=
  s.keys.windows.toList.any (fun w => match w.waits with | some (.generate k _ _) => k == n | _ => false)

/-- R355, R365: what a command meets at a slot that it names: reserved, or not from this window's level. A slot of 0 to 5
named from another level ends KEY_CLASS (DEDUCED, notes/assumptions/40.md). -/
def slotNamed (l : Level) (n : Nat) : Nat :=
  if n = 6 ∨ n = 7 then slotReserved else if n < 6 ∧ l ≠ .monitor then keyClass else 0

/-- R365, R366: a target slot: named, and empty. -/
def State.targetCode (s : State) (l : Level) (n : Nat) : Nat :=
  if slotNamed l n != 0 then slotNamed l n
  else if (s.keySlot n).isSome || s.slotPendingFill n then slotOccupied
  else 0

/-- R356: a source slot for a use class: 0, KEY_ABSENT or KEY_CLASS. -/
def State.sourceCode (s : State) (p : Fin 4) (l : Level) (classes : List Nat) (n : Nat) : Nat :=
  if slotNamed l n != 0 then slotNamed l n
  else match s.keySlot n with
  | none => keyAbsent
  | some k => if k.usable classes s.modes.mode p l.num then 0 else keyClass

/-- R356 without the use class, for a slot that a command wraps. -/
def State.wrapSourceCode (s : State) (p : Fin 4) (l : Level) (n : Nat) : Nat :=
  match s.keySlot n with
  | none => if slotNamed l n != 0 then slotNamed l n else keyAbsent
  | some k => s.sourceCode p l [k.attrs.useClass] n

/-- The octets at a commons pointer that the window's pair may read; none when the gate refuses or they lie outside. -/
def State.readFor (s : State) (p : Fin 4) (l : Level) (ptr n : Nat) : Option (List Byte) :=
  if inCommons ptr n && s.engineAdmits (.pair p l) ptr n .read then some (memOctets s.commons ptr n) else none

/-- The window's pair may write n octets at a commons pointer. -/
def State.mayWriteFor (s : State) (p : Fin 4) (l : Level) (ptr n : Nat) : Bool :=
  inCommons ptr n && s.engineAdmits (.pair p l) ptr n .write

/-- R356: a key enters a slot: its level is the greater of its minimum level and the window's. -/
def State.enter (p : Fin 4) (l : Level) (n : Nat) (a : KeyAttrs) (material : List Byte) (s : State) : State :=
  s.fillSlot n { material, attrs := a, level := max a.minLevel l.num, filledBy := some p.val }

/-! ## Blobs (R359 to R361) -/

/-- R359: the header and attributes of a blob, 88 octets. -/
def blobHeader (domain generation : Nat) (kek : List Byte) (a : KeyAttrs) : List Byte :=
  [0x4b, 0x42, 0x4c, 0x31, 1, BitVec.ofNat 8 domain] ++ beOctets 2 generation ++ kek ++ [0, 0] ++ a.octets

/-- R359, R361 first row: magic, format, domain, lengths, reserved fields. -/
def blobForm (b : List Byte) : Bool :=
  let a := KeyAttrs.ofOctets ((b.drop 16).take 72)
  let domain := (b.getD 5 0).toNat
  b.take 5 == [0x4b, 0x42, 0x4c, 0x31, 1] && 1 ≤ domain && domain ≤ 4 && b.length == 116 + a.length &&
    (domain == 1 || (b.drop 6).take 2 == [0, 0]) && (domain == 3 || (b.drop 8).take 6 == List.replicate 6 0) &&
    (b.drop 14).take 2 == [0, 0]

/-- The key under which a blob of a domain stands; none when it is absent. -/
def State.blobKey (s : State) (domain generation : Nat) (kek : Option KeySlot) : Option (BitVec 256) :=
  match domain with
  | 1 => s.keys.ownerRoot.map (fun r => blobKeyOf r generation)
  | 2 => s.keys.iwk
  | 3 => kek.bind (fun k => if k.material.length = 32 then some (BitVec.ofNat 256 (beNat k.material)) else none)
  | _ => some Config.vendorTestKey

/-- R361: the checks of LOAD after those of the target slot, in order; the material when all pass. -/
def State.openBlob (s : State) (p : Fin 4) (l : Level) (target kekSlot : Nat) (b : List Byte) :
    Except (Nat × Bool) (KeyAttrs × List Byte) :=
  let domain := (b.getD 5 0).toNat
  let generation := beNat ((b.drop 6).take 2)
  let a := KeyAttrs.ofOctets ((b.drop 16).take 72)
  let kek := if domain = 3 then s.keySlot kekSlot else none
  if !blobForm b || (domain == 2 && !((target == 2 || target == 3) && l == Level.monitor)) ||
      (domain == 4 && s.modes.mode != .factory) then .error (blobInvalid, false)
  else if domain = 3 && s.sourceCode p l [4] kekSlot != 0 then .error (s.sourceCode p l [4] kekSlot, false)
  else if domain = 3 && (match kek with | some k => keyCheck k.material != (b.drop 8).take 6 | none => true) then
    .error (blobInvalid, false)
  else if domain = 1 && (generation < s.objNum (okey 0x5000 4) || generation > s.objNum (okey 0x5000 3)) then
    .error (blobGeneration, false)
  else if !s.attrsOk (some domain) a then .error (attributesInvalid, false)
  else if a.notAfter != 0 && a.notAfter < s.now then .error (keyExpired, false)
  else match s.blobKey domain generation kek with
  | none => .error (blobInvalid, false)
  | some key =>
    match gcmOpen key ((b.drop 88).take 12) (b.take 88) ((b.drop 100).take a.length) (b.drop (100 + a.length)) with
    | none => .error (blobInvalid, true)
    | some m => .ok (a, m)

/-- R353: the halves of an identity: attributes of slots 2 and 3 from those of the blob. -/
def identityHalf (s : State) (a : KeyAttrs) (half : Nat) : KeyAttrs :=
  if half = 2 then { a with keyType := 0x10, useClass := 6, length := 48, curve := s.curveDigest 1 }
  else { a with keyType := 0x21, useClass := 6, length := 32, curve := List.replicate 48 0 }

/-- R361: fills the target slot, or slots 2 and 3 from an identity blob. -/
def State.loadInto (p : Fin 4) (l : Level) (target : Nat) (a : KeyAttrs) (m : List Byte) (s : State) : State :=
  if a.keyType = 0x30 then
    (s.enter p l 2 (identityHalf s a 2) (m.take 48)).enter p l 3 (identityHalf s a 3) (m.drop 48)
  else s.enter p l target a m

/-- LOAD (R361, R365). -/
def State.kuLoad (p : Fin 4) (l : Level) (w : KeyWindow) (s : State) : State × KeyEnd :=
  let t := s.targetCode l w.slotA
  if t != 0 then (s, .ends t)
  else match s.readFor p l w.ptrA w.len with
  | none => (s.countRefusal 8, .ends accessFault)
  | some b =>
    if (b.getD 5 0) == 2 && ((s.keySlot 2).isSome || (s.keySlot 3).isSome) then (s, .ends slotOccupied)
    else match s.openBlob p l w.slotA w.slotB b with
    | .error (c, failed) => ((if failed then s.bump (okey 0x5000 0x0B) else s), .ends c)
    | .ok (a, m) => (s.loadInto p l w.slotA a m, .ends 0)

/-- R360: a slot may be wrapped into a domain. -/
def mayWrap (a : KeyAttrs) (domain : Nat) : Bool :=
  (a.flags.getLsbD 0 && a.flags.getLsbD 1) || (a.flags.getLsbD 2 && domain == 3)

/-- The attributes and material that WRAP writes: of slot a, or of both identity halves. -/
def State.wrapped (s : State) (a b domain : Nat) : Option (KeyAttrs × List Byte) :=
  match s.keySlot a, s.keySlot b with
  | some k, other =>
    if domain = 2 then
      match other with
      | some k3 => some ({ k.attrs with keyType := 0x30, length := 80, curve := List.replicate 48 0 },
          k.material ++ k3.material)
      | none => none
    else some (k.attrs, k.material)
  | none, _ => none

/-- R360: the blob of a key under a nonce. -/
def State.makeBlob (s : State) (domain generation kek : Nat) (a : KeyAttrs) (m nonce : List Byte) : Option (List Byte) :=
  let k := if domain = 3 then s.keySlot kek else none
  let check := match k with | some x => keyCheck x.material | none => List.replicate 6 0
  (s.blobKey domain generation k).map (fun key =>
    let header := blobHeader domain (if domain = 1 then generation else 0) check a
    let c := gcmSeal key nonce header m
    header ++ nonce ++ c.1 ++ c.2)

/-- The end of a WRAP that has its nonce; the count is that of the generation now in force (R360). -/
def State.writeBlob (w : KeyWait) (nonce : List Byte) (s : State) : State × Nat :=
  match w with
  | .wrap a b domain ptr _ generation =>
    (match s.wrapped a b domain with
    | none => (s, keyAbsent)
    | some (attrs, m) =>
      match s.makeBlob domain generation b attrs m nonce with
      | none => (s, blobInvalid)
      | some blob =>
        let s := s.onCommons (fun c => memStore c ptr blob)
        (if domain = 1 ∧ generation = s.objNum (okey 0x5000 3) then s.bump (okey 0x5000 0x0A) else s, 0))
  | .generate .. => (s, 0)

/-- WRAP (R360, R365): its checks; the nonce of 12 octets takes two words of the queue. -/
def State.kuWrap (p : Fin 4) (l : Level) (w : KeyWindow) (s : State) : State × KeyEnd :=
  let d := w.domain
  if s.restrained then (s, .ends restrainedCode)
  else if d < 1 || d > 3 || (d == 2 && !(l == Level.monitor && s.keys.provisioning && w.slotA == 2 && w.slotB == 3)) then
    (s, .ends blobInvalid)
  else
    let c := s.wrapSourceCode p l w.slotA
    if c != 0 then (s, .ends c)
    else match s.wrapped w.slotA w.slotB d with
    | none => (s, .ends keyAbsent)
    | some (a, _) =>
      if !mayWrap a d then (s, .ends notWrappable)
      else if d == 3 && s.sourceCode p l [3] w.slotB != 0 then (s, .ends (s.sourceCode p l [3] w.slotB))
      else if d == 1 && s.num (okey 0x5000 0x0A) ≥ 2 ^ 32 then (s, .ends generationLimit)
      else if w.len < 116 + a.length then (s, .ends destinationShort)
      else if !s.mayWriteFor p l w.ptrB (116 + a.length) then (s.countRefusal 8, .ends accessFault)
      else
        let wait := KeyWait.wrap w.slotA w.slotB d w.ptrB w.len (s.objNum (okey 0x5000 3))
        match s.takeWords 2 with
        | none => (s, .waits wait)
        | some (words, s) =>
          let r := s.writeBlob wait (wordsBe words)
          (r.1, .ends r.2)

/-- GENERATE (R365, R372): its checks; the key comes from a fresh reseed. -/
def State.kuGenerate (p : Fin 4) (l : Level) (w : KeyWindow) (s : State) : State × KeyEnd :=
  let t := s.targetCode l w.slotA
  if s.restrained then (s, .ends restrainedCode)
  else if t != 0 then (s, .ends t)
  else match s.readFor p l w.ptrA 72 with
  | none => (s.countRefusal 8, .ends accessFault)
  | some b =>
    let a := KeyAttrs.ofOctets b
    if a.keyType < 1 || a.keyType > 5 || !s.attrsOk none a then (s, .ends attributesInvalid)
    else (s.tickMoment, .waits (.generate w.slotA a s.ent.moment))

/-- DERIVE (R365). -/
def State.kuDerive (p : Fin 4) (l : Level) (w : KeyWindow) (s : State) : State × KeyEnd :=
  let t := s.targetCode l w.slotA
  let c := s.sourceCode p l [5] w.slotB
  if t != 0 then (s, .ends t)
  else if c != 0 then (s, .ends c)
  else if w.len > 1024 then (s, .ends lengthInvalid)
  else match s.readFor p l w.ptrA 72, s.readFor p l w.ptrB w.len, s.keySlot w.slotB with
  | some b, some label, some source =>
    let a := KeyAttrs.ofOctets b
    if a.keyType == 0x18 || !s.attrsOk none a then (s, .ends attributesInvalid)
    else
      let m := match (if a.keyType = 0x10 then s.curveOf a.curve else none) with
        | some (_, c) => ecScalar c (kmac source.material label "DXK-DERIVE" (8 * (c.orderOctets + 16)))
        | none => kmac source.material label "DXK-DERIVE" (8 * a.length)
      (s.enter p l w.slotA a m, .ends 0)
  | _, _, _ => (s.countRefusal 8, .ends accessFault)

/-- CLEAR (R365, R366). -/
def State.kuClear (p : Fin 4) (l : Level) (w : KeyWindow) (s : State) : State × KeyEnd :=
  let n := w.slotA
  if slotNamed l n != 0 then (s, .ends (slotNamed l n))
  else if s.slotPendingFill n then (s, .ends slotPending)
  else match s.keySlot n with
  | none => (s, .ends keyAbsent)
  | some k =>
    if l == Level.monitor || (k.level ≤ l.num && k.filledBy == some p.val) then
      ((s.emptySlot n).keySlotGone n, .ends 0)
    else (s, .ends keyClass)

/-- INFO (R365). -/
def State.kuInfo (p : Fin 4) (l : Level) (w : KeyWindow) (s : State) : State × KeyEnd :=
  if slotNamed l w.slotA != 0 then (s, .ends (slotNamed l w.slotA))
  else match s.keySlot w.slotA with
  | none => (s, .ends keyAbsent)
  | some k =>
    if w.len < 72 then (s, .ends destinationShort)
    else if !s.mayWriteFor p l w.ptrB 72 then (s.countRefusal 8, .ends accessFault)
    else (s.onCommons (fun c => memStore c w.ptrB k.attrs.octets), .ends 0)

/-- R317, R318: the public key of an asymmetric slot; none for a symmetric one. -/
def State.publicOf (s : State) (k : KeySlot) : Option (List Byte) :=
  match k.attrs.keyType with
  | 0x10 => (s.curveOf k.attrs.curve).map (fun e => e.2.encode (e.2.mul (beNat k.material) (some (e.2.gx, e.2.gy))))
  | 0x11 => some (octetsOf 32 (Config.publicKey 0x11 k.material))
  | 0x12 => some (octetsOf 57 (Config.publicKey 0x12 k.material))
  | 0x18 => some (octetsOf (Config.rsaPublicOctets k.material) (Config.publicKey 0x18 k.material))
  | 0x20 => some (publicMlDsa 65 k.material)
  | 0x21 => some (publicMlDsa 87 k.material)
  | 0x28 => some (octetsOf 1184 (Config.publicKey 0x28 k.material))
  | 0x29 => some (octetsOf 1568 (Config.publicKey 0x29 k.material))
  | _ => none

/-- PUBLIC (R365). -/
def State.kuPublic (p : Fin 4) (l : Level) (w : KeyWindow) (s : State) : State × KeyEnd :=
  if slotNamed l w.slotA != 0 then (s, .ends (slotNamed l w.slotA))
  else match s.keySlot w.slotA with
  | none => (s, .ends keyAbsent)
  | some k =>
    match s.publicOf k with
    | none => (s, .ends keyClass)
    | some b =>
      if w.len < b.length then (s, .ends destinationShort)
      else if !s.mayWriteFor p l w.ptrB b.length then (s.countRefusal 8, .ends accessFault)
      else (s.onCommons (fun c => memStore c w.ptrB b), .ends 0)

/-- IMPORT (R362, R365): from a Monitor window, in Ceremony only. -/
def State.kuImport (p : Fin 4) (l : Level) (w : KeyWindow) (s : State) : State × KeyEnd :=
  let t := s.targetCode l w.slotA
  let c := s.sourceCode p l [4] w.slotB
  if s.restrained then (s, .ends restrainedCode)
  else if l != Level.monitor then (s, .ends keyClass)
  else if s.modes.mode != .ceremony then (s, .ends modeRefused)
  else if t != 0 then (s, .ends t)
  else if c != 0 then (s, .ends c)
  else match s.readFor p l w.ptrA w.len, s.readFor p l w.ptrB 72, s.keySlot w.slotB with
  | some ct, some b, some kek =>
    let a := KeyAttrs.ofOctets b
    if !s.attrsOk none a then (s, .ends attributesInvalid)
    else
      match Config.kwpUnwrap kek.material ct with
      | none => (s, .ends importInvalid)
      | some m =>
        if m.length != a.length then (s, .ends importInvalid)
        else (s.enter p l w.slotA { a with flags := (a.flags &&& 1) ||| 4 } m, .ends 0)
  | _, _, _ => (s.countRefusal 8, .ends accessFault)

/-- The commands of R365. -/
inductive KeyCmd | load | wrap | generate | derive | clear | info | pubKey | importKey
deriving DecidableEq, Repr

/-- R365: command of a code. -/
def KeyCmd.ofCode : Nat → Option KeyCmd
  | 1 => some .load | 2 => some .wrap | 3 => some .generate | 4 => some .derive | 5 => some .clear | 6 => some .info
  | 7 => some .pubKey | 8 => some .importKey | _ => none

/-- R366: the KEY_ERASED, mode and window effects apart, what a command does. -/
def State.runKeyCmd (c : KeyCmd) (p : Fin 4) (l : Level) (w : KeyWindow) (s : State) : State × KeyEnd :=
  match c with
  | .load => s.kuLoad p l w
  | .wrap => s.kuWrap p l w
  | .generate => s.kuGenerate p l w
  | .derive => s.kuDerive p l w
  | .clear => s.kuClear p l w
  | .info => s.kuInfo p l w
  | .pubKey => s.kuPublic p l w
  | .importKey => s.kuImport p l w

/-- KU_GO (R364): a write while the window is busy ends with COMMAND_BUSY and leaves the running command. -/
def State.kuGo (c : KeyCmd) (p : Fin 4) (l : Level) (s : State) : State :=
  let w := s.keys.windows[windowIndex p l]
  if w.st = .busy then s.onKeyWindow p l (fun w => { w with code := commandBusy })
  else
    match s.runKeyCmd c p l w with
    | (s, .ends 0) => s.endKeyCommand p l .done 0
    | (s, .ends code) => s.endKeyCommand p l .failed code
    | (s, .waits k) => s.onKeyWindow p l (fun w => { w with st := .busy, code := 0, waits := some k })

/-- The windows in the order in which R366 takes them: ascending pair, then Monitor, Supervisor, User. -/
def windowOrder : List (Fin 4 × Level) :=
  pairIndexes.flatMap (fun p => [(p, .monitor), (p, .supervisor), (p, .user)])

/-- R372, R373: the waiting commands take what the queue holds: GENERATE after a reseed whose blocks were both released
after its start. -/
def State.serveKeyWaits (s : State) : State :=
  s.forAll windowOrder (fun (e : Fin 4 × Level) s =>
    match s.keys.windows[windowIndex e.1 e.2].waits with
    | none => s
    | some (.generate n a moment) =>
      if s.ent.reseedBlocks > moment then
        match s.takeWords ((a.length + 5) / 6) with
        | none => s
        | some (words, s) =>
          (s.enter e.1 e.2 n { a with flags := (a.flags &&& 1) ||| 2 } ((wordsBe words).take a.length)).endKeyCommand
            e.1 e.2 .done 0
      else s
    | some (.wrap a b d ptr cap g) =>
      match s.takeWords 2 with
      | none => s
      | some (words, s) =>
        let r := s.writeBlob (.wrap a b d ptr cap g) (wordsBe words)
        r.1.endKeyCommand e.1 e.2 (if r.2 = 0 then .done else .failed) r.2)

/-- LOAD (R361, R365): the pair writes its command code to KU_GO. -/
def execKuLoad (p : Fin 4) (l : Level) (s : State) : Host.Outcome State Fault Refusal :=
  .next (if s.pairAt p l then s.kuGo .load p l else s)

/-- WRAP (R360, R365). -/
def execKuWrap (p : Fin 4) (l : Level) (s : State) : Host.Outcome State Fault Refusal :=
  .next (if s.pairAt p l then s.kuGo .wrap p l else s)

/-- GENERATE (R365). -/
def execKuGenerate (p : Fin 4) (l : Level) (s : State) : Host.Outcome State Fault Refusal :=
  .next (if s.pairAt p l then s.kuGo .generate p l else s)

/-- DERIVE (R365). -/
def execKuDerive (p : Fin 4) (l : Level) (s : State) : Host.Outcome State Fault Refusal :=
  .next (if s.pairAt p l then s.kuGo .derive p l else s)

/-- CLEAR (R365). -/
def execKuClear (p : Fin 4) (l : Level) (s : State) : Host.Outcome State Fault Refusal :=
  .next (if s.pairAt p l then s.kuGo .clear p l else s)

/-- INFO (R365). -/
def execKuInfo (p : Fin 4) (l : Level) (s : State) : Host.Outcome State Fault Refusal :=
  .next (if s.pairAt p l then s.kuGo .info p l else s)

/-- PUBLIC (R365). -/
def execKuPublic (p : Fin 4) (l : Level) (s : State) : Host.Outcome State Fault Refusal :=
  .next (if s.pairAt p l then s.kuGo .pubKey p l else s)

/-- IMPORT (R365). -/
def execKuImport (p : Fin 4) (l : Level) (s : State) : Host.Outcome State Fault Refusal :=
  .next (if s.pairAt p l then s.kuGo .importKey p l else s)

/-- KU_ABORT (R364): a busy command of the window ends aborted. -/
def State.kuAbort (p : Fin 4) (l : Level) (s : State) : State :=
  if s.keys.windows[windowIndex p l].st = .busy then s.endKeyCommand p l .aborted actionAborted else s

/-- KU_ABORT (R364). -/
def execKuAbort (p : Fin 4) (l : Level) (s : State) : Host.Outcome State Fault Refusal :=
  .next (if s.pairAt p l then s.kuAbort p l else s)

/-- KEY_EXPIRY (R358, R366): a loaded slot whose not-after time has passed is cleared. -/
def execKeyExpiry (slot : Fin 256) (s : State) : Host.Outcome State Fault Refusal :=
  .next (s.whenLive (fun s =>
    match s.keySlot slot.val with
    | some k => if k.attrs.notAfter != 0 && k.attrs.notAfter < s.now then (s.emptySlot slot.val).keySlotGone slot.val else s
    | none => s))

/-! ## Ceremony actions (R362) -/

/-- R362: the actions run in Ceremony only. -/
def ceremonyOnly (_ : Asker) (_ : List Byte) (s : State) : Nat := if s.modes.mode = .ceremony then 0 else modeRefused

/-- 0x5000:20 (R362). -/
def advanceGenerationAction : Action :=
  { arg := anyArg, guard := ceremonyOnly,
    act := fun _ _ s =>
      let g := s.objNum (okey 0x5000 3)
      if g ≥ 0xFFFF then (s, .failed generationLimit)
      else ((s.putNum (okey 0x5000 3) (g + 1)).putNum (okey 0x5000 0x0A) 0, .done) }

/-- 0x5000:21 (R362). -/
def raiseMinimumAction : Action :=
  { arg := argOf 2 (fun _ => true),
    guard := fun a v s =>
      if ceremonyOnly a v s != 0 then ceremonyOnly a v s
      else if beNat v < s.objNum (okey 0x5000 4) || beNat v > s.objNum (okey 0x5000 3) then valueRange else 0,
    act := fun _ v s => ((s.rewrapLedgerKey (beNat v)).putNum (okey 0x5000 4) (beNat v), .done) }

/-- ADVANCE_BLOB_GENERATION (R362). -/
def execAdvanceBlobGeneration (f : Frame) (s : State) : Host.Outcome State Fault Refusal :=
  .next (s.runCmd (okey 0x5000 0x20) f advanceGenerationAction)

/-- RAISE_MINIMUM_GENERATION (R362). -/
def execRaiseMinimumGeneration (f : Frame) (s : State) : Host.Outcome State Fault Refusal :=
  .next (s.runCmd (okey 0x5000 0x21) f raiseMinimumAction)

end Sys2Proof.Machine
end

