-- ==== Sys2Proof/Machine/EntropyUnit.lean ====
section
/-! DEFINITION. Noise cells, compressors, the DRBG and its queue (spec/11_keys_and_entropy.md, R369 to R376), and the
secrets that the erase line clears (R368). -/

namespace Sys2Proof.Machine

/-- All four noise cells. -/
def noiseCells : List (Fin 4) := [0, 1, 2, 3]

/-- Updates a noise cell. -/
def State.onCell (c : Fin 4) (f : NoiseCell → NoiseCell) (s : State) : State :=
  s.onEnt (fun e => { e with cells := e.cells.set c (f e.cells[c]) })

/-- U16 of cell c in an object of four (0x5100:04, :05). -/
def State.cellValue (s : State) (sub : Nat) (c : Fin 4) : Nat := beNat (((s.objOctets (okey 0x5100 sub)).drop (2 * c.val)).take 2)

/-- R374: a cell that has passed its start-up tests and is in service. -/
def NoiseCell.serves (c : NoiseCell) : Bool := c.inService && c.startBlocks == 4

/-- 0x5100:02 and R375: cells in service. -/
def State.cellsInService (s : State) : Nat := (s.ent.cells.toList.filter NoiseCell.serves).length

/-- R370: cutoff of the repetition count test: 1 + ceiling(20 ÷ H), H in uQ0.16. -/
def repetitionCutoff (h : Nat) : Nat := 1 + (20 * 65536 + h - 1) / (max h 1)

/-- R370: the repetition count over bits, from the last bit and the length of its run: the run at the end, and whether the
cutoff was reached. -/
def repetition (cutoff : Nat) : List Bool → Bool → Nat → Bool → Bool × Nat × Bool
  | [], last, run, hit => (last, run, hit)
  | b :: rest, last, run, hit =>
    let r := if b = last ∧ run > 0 then run + 1 else 1
    repetition cutoff rest b r (hit || r ≥ cutoff)

/-- R370: the adaptive proportion test over one window: occurrences of its first bit. -/
def proportionHit (cutoff : Nat) (bits : List Bool) : Bool :=
  match bits with
  | [] => false
  | b :: _ => (bits.filter (· == b)).length ≥ cutoff

/-- R371: one step of the compressor, a Fibonacci register of x^256 + x^10 + x^5 + x^2 + 1 into whose feedback the raw bit
goes (DEDUCED, notes/assumptions/41.md). -/
def compressStep (c : BitVec 256) (b : Bool) : BitVec 256 :=
  let f := c.getLsbD 255 ^^ c.getLsbD 9 ^^ c.getLsbD 4 ^^ c.getLsbD 1 ^^ b
  (c <<< 1) ||| (if f then 1 else 0)

/-- R371: credit threshold of 512 bits in uQ16.16. -/
def creditThreshold : Nat := 0x02000000

/-- R375: noise degraded: fewer than two cells in service. -/
def State.checkDegraded (s : State) : State :=
  if s.cellsInService < 2 && s.ent.cells.toList.all (fun c => !c.inService || c.startBlocks == 4) then
    let s := s.raiseSource 0x25 0
    if s.ent.st = 1 then s.onEnt (fun e => { e with st := 2 }) else s
  else s

/-- R370, R374: a failing block is discarded and counted; a cell leaves service at a failed start-up test, or after three
failing blocks in a row. -/
def State.blockFails (c : Fin 4) (s : State) : State :=
  let s := s.bumpWord (okey 0x5100 6) 4 c.val
  let x := s.ent.cells[c]
  if x.startBlocks < 4 then (s.onCell c (fun x => { x with inService := false })).checkDegraded
  else
    let s := s.onCell c (fun x => { x with failing := x.failing + 1 })
    if x.failing + 1 ≥ 3 then ((s.onCell c (fun x => { x with inService := false })).event 0x53 0).checkDegraded else s

/-- R371: a passing block: the compressor takes its bits, the credit rises, and a block is released at the threshold,
unless fewer than two cells are in service (R375). -/
def State.blockPasses (c : Fin 4) (bits : List Bool) (h : Nat) (s : State) : State :=
  let x := s.ent.cells[c]
  let reg := bits.foldl compressStep x.compressor
  let credit := x.credit + 1024 * h
  let s := s.onCell c (fun x => { x with compressor := reg, credit, failing := 0 })
  if credit ≥ creditThreshold && s.cellsInService ≥ 2 then
    ((s.onCell c (fun x => { x with credit := 0, block := some (reg, s.ent.moment) })).tickMoment).wrapWord
      (okey 0x5100 7) 4 c.val
  else s

/-- R376: the raw bits, or in their place the test pattern, least significant bit first. Each block begins at its bit 0
(DEDUCED, notes/assumptions/41.md). -/
def State.rawBits (s : State) (bits : BitVec 1024) : List Bool :=
  (List.range 1024).map (fun i =>
    if s.ent.pattern then (BitVec.ofNat 48 (s.objNum (okey 0x5100 0x10))).getLsbD (i % 48) else bits.getLsbD i)

/-- RAW_BLOCK_COMPLETE (R370, R371, R374). -/
def State.rawBlock (c : Fin 4) (bits : BitVec 1024) (s : State) : State :=
  let x := s.ent.cells[c]
  if !x.inService then s
  else
    let l := s.rawBits bits
    let h := s.cellValue 4 c
    let r := repetition (repetitionCutoff h) l x.lastBit x.run false
    let s := s.onCell c (fun x => { x with lastBit := r.1, run := r.2.1 })
    if r.2.2 || proportionHit (s.cellValue 5 c) l then s.blockFails c
    else if x.startBlocks < 4 then (s.onCell c (fun x => { x with startBlocks := x.startBlocks + 1 })).checkDegraded
    else s.blockPasses c l h

/-- RAW_BLOCK_COMPLETE (R370, R371). -/
def execRawBlockComplete (cell : Fin 4) (bits : BitVec 1024) (s : State) : Host.Outcome State Fault Refusal :=
  .next (s.whenLive (State.rawBlock cell bits))

/-! ## The DRBG (R372, R374) -/

/-- The blocks that satisfy a condition on their moment, by cell, ascending. -/
def State.heldBlocks (s : State) (ok : Nat → Bool) : List (Fin 4 × BitVec 256 × Nat) :=
  noiseCells.filterMap (fun c =>
    match s.ent.cells[c].block with
    | some (b, m) => if ok m then some (c, b, m) else none
    | none => none)

/-- The two blocks that an instantiation or reseed takes: of the two lowest cells that hold one (DESIGN CHOICE,
notes/assumptions/42.md). -/
def State.twoBlocks (s : State) (ok : Nat → Bool) : Option ((Fin 4 × BitVec 256 × Nat) × (Fin 4 × BitVec 256 × Nat)) :=
  match s.heldBlocks ok with
  | a :: b :: _ => some (a, b)
  | _ => none

/-- The octets of two blocks. -/
def entropyInput (a b : Fin 4 × BitVec 256 × Nat) : List Byte := beOctets 32 a.2.1.toNat ++ beOctets 32 b.2.1.toNat

/-- R372: what an instantiation or reseed with two blocks does beside the DRBG's own state: the blocks are used, the queue
is emptied, the requests that they qualify for are served. -/
def State.reseeded (a b : Fin 4 × BitVec 256 × Nat) (key : BitVec 384) (s : State) : State :=
  let older := min a.2.2 b.2.2
  let s := (s.onCell a.1 (fun c => { c with block := none })).onCell b.1 (fun c => { c with block := none })
  let s := s.onEnt (fun e => { e with drbg := key, queue := [], reseedBlocks := max e.reseedBlocks older })
  (s.putNum (okey 0x5100 8) 0).reseedJobs older

/-- R374: the start-up tests are run: every cell has passed its four blocks or left service. -/
def State.cellsTested (s : State) : Bool := s.ent.cells.toList.all (fun c => !c.inService || c.startBlocks == 4)

/-- DRBG_INSTANTIATE (R372, R374): from two blocks of two cells, released after the last erase. -/
def State.instantiate (s : State) : State :=
  if s.ent.st != 0 || !s.cellsTested || s.cellsInService < 2 then s
  else match s.twoBlocks (fun m => m ≥ s.ent.eraseMoment) with
  | none => s
  | some (a, b) =>
    let nonce := beOctets 6 (s.counter 6) ++ beOctets 6 s.now ++ List.replicate 4 0
    let key := Config.drbgInstantiate (entropyInput a b ++ nonce ++ s.objOctets (okey 0x1000 4))
    (s.reseeded a b key).onEnt (fun e => { e with st := 1 })

/-- DRBG_INSTANTIATE (R374). -/
def execDrbgInstantiate (katPass : Bool) (s : State) : Host.Outcome State Fault Refusal :=
  .next (s.whenLive (fun s => if katPass then s.instantiate else s))

/-- R372: the moments of the requests that wait for a fresh reseed. -/
def State.freshRequests (s : State) : List Nat :=
  (s.hub.slots.filter (fun e => e.2.st == .waiting && e.2.fresh && !e.2.reseeded)).map (fun e => e.2.allocMoment) ++
    s.keys.windows.toList.filterMap (fun w =>
      match w.waits with
      | some (.generate _ _ m) => if s.ent.reseedBlocks > m then none else some m
      | _ => none)

/-- R372: the oldest request that waits for a fresh reseed. -/
def State.oldestFresh (s : State) : Option Nat :=
  s.freshRequests.foldl (fun best m => match best with | none => some m | some k => some (min k m)) none

/-- R372: the blocks of the reseed that takes place now: two that a waiting fresh request allows, or, when a scheduled
reseed is due, any two. -/
def State.reseedBlocksNow (s : State) : Option ((Fin 4 × BitVec 256 × Nat) × (Fin 4 × BitVec 256 × Nat)) :=
  let fresh := match s.oldestFresh with
    | some m => s.twoBlocks (fun k => k > m)
    | none => none
  match fresh with
  | some x => some x
  | none => if s.objNum (okey 0x5100 8) ≥ s.objNum (okey 0x5100 9) then s.twoBlocks (fun _ => true) else none

/-- DRBG_RESEED (R372). -/
def State.reseed (s : State) : State :=
  if s.ent.st = 0 then s
  else match s.reseedBlocksNow with
  | none => s
  | some (a, b) =>
    ((s.reseeded a b (Config.drbgReseed s.ent.drbg (entropyInput a b))).wrapBy (okey 0x5100 0x0A) 1).onEnt (fun e =>
      { e with st := if s.cellsInService < 2 then 2 else 1 })

/-- DRBG_RESEED (R372). -/
def execDrbgReseed (s : State) : Host.Outcome State Fault Refusal := .next (s.whenLive State.reseed)

/-- R307: the context sealer takes its key from the DRBG at each device reset: six words (R373). -/
def State.drawContextKey (s : State) : State :=
  match s.eng.contextKey with
  | some _ => s
  | none =>
    match s.takeWords 6 with
    | none => s
    | some (w, s) => s.onEng (fun e => { e with contextKey := some (BitVec.ofNat 256 (beNat (wordsBe w))) })

/-- DRBG_GENERATE (R372, R373, R375): 64 words when 64 places are free; no call after 1,048,576 since the last reseed. -/
def State.generateCall (s : State) : State :=
  let calls := s.objNum (okey 0x5100 8)
  if (s.ent.st != 1 && s.ent.st != 2) || s.ent.queue.length > 960 then s
  else if calls ≥ 1048576 then s.onEnt (fun e => { e with st := 3 })
  else
    let d := s.ent.drbg
    let s := s.onEnt (fun e =>
      { e with queue := e.queue ++ (List.range 64).map (Config.drbgWord d), drbg := Config.drbgNext d, delivered := true,
               st := if e.st = 2 ∧ calls + 1 ≥ 1048576 then 3 else e.st })
    ((s.putNum (okey 0x5100 8) (calls + 1)).serveKeyWaits).drawContextKey

/-- DRBG_GENERATE (R372, R373). -/
def execDrbgGenerate (s : State) : Host.Outcome State Fault Refusal := .next (s.whenLive State.generateCall)

/-- R376: 0x5100:11 changed: the pattern is in force or not, and the DRBG instantiates afresh. -/
def State.setPattern (b : Bool) (s : State) : State :=
  if s.ent.pattern = b then s
  else s.onEnt (fun e => { e with pattern := b, st := 0, drbg := 0, queue := [] })

/-- 0x5100:02: bits of the cells in service. -/
def State.cellsMask (s : State) : Nat :=
  noiseCells.foldl (fun a c => if s.ent.cells[c].serves then a + 2 ^ c.val else a) 0

/-! ## The erase line (R368) -/

/-- R366, R368: what the line clears: key slots, key-unit registers, staging, DRBG state and queue, V and its flag;
commands in progress end KEY_ERASED. The event-log key stays (R393). -/
def State.eraseSecrets (s : State) : State :=
  let s := (s.endKeyCommands .failed keyErased).clearKeys
  let s := s.forAll (s.slotsWhere (fun j => j.st == .running && j.keyNeeds.isSome)) (fun slot => State.failJob slot keyAbsent)
  let s := s.onKeys (fun u => { u with vigilRoot := none })
  let s := s.onEnt (fun e => { e with drbg := 0, queue := [], st := 0, eraseMoment := e.moment })
  (((s.setFlag flagVPresent false).setFlag flagErase true).setFlag flagLocked true).setFlag flagRetire false

/-- R368: the line was driven: counted. -/
def State.countEraseLine (s : State) : State := s.bumpBy (okey 0x5000 0x0C) 24 1

end Sys2Proof.Machine
end

