-- ==== Sys2Proof/Machine/EventLog.lean ====
section
/-! DEFINITION. The event log: numbering, buffer, flush, ring, start check, window, acknowledgement, verification
(spec/12_tamper_and_evidence.md, R396 to R399, R405 to R414). -/

namespace Sys2Proof.Machine

/-! ## Numbering and buffer (R405, R406, R408) -/

/-- A record before it has a full number. -/
structure Unnumbered where
  source : Nat
  response : Nat
  /-- Flag bits 0 to 2 (R405). -/
  flags : Nat
  mode : Mode
  time : Nat
  detail : Word
  /-- It carries the oldest vigil record still held (R398). -/
  vigil : Option Nat
deriving DecidableEq, Repr

/-- R408: the kinds for which sixteen buffer places are reserved. -/
def Unnumbered.reserved (r : Unnumbered) : Bool := 2 ≤ r.response || r.source ≤ 0x0F

/-- R408: a place of the buffer is free for the record. -/
def Tamper.hasRoom (t : Tamper) (r : Unnumbered) : Bool := t.buffer.length < (if r.reserved then 128 else 112)

/-- R408: a discard, before any full number is given. -/
def State.discardRecord (s : State) : State :=
  (s.bump (okey 0x6200 0x0A)).onTamper (fun t => { t with discards := t.discards + 1 })

/-- R408: the record triggers a flush. -/
def Unnumbered.flushes (r : Unnumbered) : Bool := 2 ≤ r.response || r.source == 0x58

/-- R405: word 0 of a record. -/
def Unnumbered.word0 (r : Unnumbered) (number flag3 : Nat) : Word :=
  BitVec.ofNat 48 (number % 2 ^ 24 * 2 ^ 24 + r.source * 2 ^ 16 + r.response * 2 ^ 12 + r.mode.code * 2 ^ 8 + r.flags +
    flag3)

/-- Gives a record its full number and buffers it, or discards it when the buffer is full. -/
def State.numberRecord (r : Unnumbered) (flag3 : Bool) (s : State) : State :=
  if !s.tamper.hasRoom r then s.discardRecord
  else s.onTamper (fun t =>
    let n := t.issued + 1
    { t with
      buffer := t.buffer ++ [{ number := n, word0 := r.word0 n (if flag3 then 8 else 0), time := r.time,
                               detail := r.detail, vigil := r.vigil }],
      issued := n, segment := some (n / 65536), oldest := some (t.oldest.getD s.now),
      flushDue := t.flushDue || r.flushes || t.buffer.length + 1 ≥ 64 || s.modes.pfail })

/-- R406: the next number lies in a segment in which none was issued. -/
def Tamper.entersSegment (t : Tamper) : Bool := t.segment != some ((t.issued + 1) / 65536)

/-- A housekeeping record of the log's own, raised (R405, R611). -/
def State.housekeeping (s : State) (source : Nat) (detail : Word) : Unnumbered :=
  { source, response := 0, flags := 2 + (if s.modes.pfail then 4 else 0), mode := s.modes.mode, time := s.now, detail,
    vigil := none }

/-- R406: the segment record, when the next number enters a segment. -/
def State.segmentFirst (flag3 : Bool) (s : State) : State :=
  if s.tamper.entersSegment then
    s.numberRecord (s.housekeeping 0x01 (BitVec.ofNat 48 (s.tamper.issued + 1))) flag3
  else s

/-- R408: the record that gives the count of the discards before it (source 0x04). -/
def State.discardsTold (count : Nat) (s : State) : State :=
  (s.segmentFirst false).numberRecord (s.housekeeping 0x04 (BitVec.ofNat 48 count)) false

/-- R392, R406, R408: issues a record: segment record first when due; after discards the first record buffered carries
flag bit 3 and is followed by their count. -/
def State.issueRecord (r : Unnumbered) (s : State) : State :=
  if !s.tamper.hasRoom r then s.discardRecord
  else
    let d := s.tamper.discards
    let s := s.onTamper (fun t => { t with discards := 0 })
    let segment := s.tamper.entersSegment
    let s := s.segmentFirst (0 < d)
    if d = 0 then s.numberRecord r false
    else if segment then (s.discardsTold d).numberRecord r false
    else (s.numberRecord r true).discardsTold d

/-- R406: full numbers begin at the first entry to Provision (lifecycle UNOWNED): before it nothing is logged (DEDUCED,
notes/assumptions/31.md). -/
def State.logs (s : State) : Bool := 2 ≤ s.lifecycle

/-- R405: flags of a record that arose in a tick. -/
def NewRecord.flags (r : NewRecord) (pfail : Bool) : Nat := (if r.raised then 2 else 0) + (if pfail then 4 else 0)

/-- Inserts a record before the first of a higher source (R392). -/
def insertRecord (r : NewRecord) : List NewRecord → List NewRecord
  | [] => [r]
  | x :: rest => if r.source < x.source then r :: x :: rest else x :: insertRecord r rest

/-- R392: order of one tick: ascending source, then arrival. -/
def tickOrder (l : List NewRecord) : List NewRecord := l.foldl (fun acc r => insertRecord r acc) []

/-- R392: numbers the records of the tick that ends. -/
def State.issueTick (s : State) : State :=
  let l := tickOrder s.tamper.arising
  let s := s.onTamper (fun t => { t with arising := [] })
  if s.logs then
    s.forAll l (fun r s => s.issueRecord
      { source := r.source, response := r.response, flags := r.flags s.modes.pfail, mode := r.mode, time := s.now,
        detail := r.detail, vigil := none })
  else s

/-! ## The ring (R407, R410, R411) -/

/-- Flash offset of a ring slot in bank 1. -/
def eventOffset (slot : Nat) : Nat := 1024 * 2048 + 4 * slot

/-- The four words of a ring slot; none when one delivers no data. -/
def State.slotWords (s : State) (slot : Nat) : Option (List Word) := s.flashWords 1 (eventOffset slot) 4

/-- R407: the chain MAC of a record after the record whose word 3 is `before`. -/
def chainMacOf (key : BitVec 256) (before : Word) (w : List Word) (number : Nat) : Word :=
  BitVec.ofNat 48 (Config.kmac256 (beOctets 32 key.toNat) (wordBe before ++ wordsBe (w.take 3) ++ beOctets 6 number)
    (ascii "DXK-EVCHAIN") 48)

/-- R411: reclaims the sector after the head's when it is not erased: its records go, the unexported ones are counted,
and a record is written. -/
def State.reclaimEvents (sector : Nat) (s : State) : State :=
  let gone := s.tamper.index.filter (fun e => e.2.1 / 512 == sector)
  let lost := (gone.filter (fun e => e.1 > s.num (okey 0x6200 7))).length
  let s := s.eraseNow 1 (1024 + sector)
  if gone.isEmpty then s
  else
    let s := s.onTamper (fun t =>
      let rest := t.index.filter (fun e => e.2.1 / 512 != sector)
      { t with index := rest, tail := (rest.head?.map (fun e => e.1)).getD t.head })
    (s.bumpBy (okey 0x6200 8) 48 lost).event 0x02 (detailOf 1 (min lost 0xFFFF * 2 ^ 24 + sector))

/-- R410: two sectors are erased ahead when the head comes to a sector boundary. -/
def State.keepErased (s : State) : State :=
  if s.tamper.nextSlot % 512 = 0 then s.reclaimEvents ((s.tamper.nextSlot / 512 + 1) % 128) else s

/-- R398, R399: frees the oldest vigil record once its event record is committed; after the last one the flags 3, 5 and 7
clear. -/
def State.freeVigilRecord (s : State) : State :=
  let s := s.onVigil (fun v => { v with records := v.records.drop 1 })
  if s.vigil.records.isEmpty then
    (((s.setFlag flagErase false).setFlag flagOverflow false).setFlag flagCellAbsent false).setFlag flagRecords false
  else s

/-- R407, R410: programs one record in the next slot; it is committed. -/
def State.commitRecord (key : BitVec 256) (r : LogRecord) (s : State) : State :=
  let slot := s.tamper.nextSlot
  let w := [r.word0, BitVec.ofNat 48 r.time, r.detail]
  let mac := chainMacOf key s.tamper.lastMac w r.number
  let s := s.programWords 1 (eventOffset slot) (w ++ [mac])
  let s := s.onTamper (fun t =>
    { t with index := t.index ++ [(r.number, slot, t.lastSlot)], head := r.number, lastMac := mac,
             lastSlot := some slot, nextSlot := (slot + 1) % 65536,
             tail := if t.index.isEmpty then r.number else t.tail })
  let s := s.keepErased
  if r.vigil.isSome then s.freeVigilRecord else s

/-- The records of the next flash row: those up to the next multiple of 16 slots. -/
def Tamper.rowRecords (t : Tamper) : List LogRecord := t.buffer.take (16 - t.nextSlot % 16)

/-- R410: a row program that ends PROGRAM_FAILED. The words of the row are retired (which of them read as intended is
open: all are retired, DESIGN CHOICE, notes/assumptions/32.md); after the third failed attempt its records are
discarded. -/
def State.rowFailed (s : State) : State :=
  let n := s.tamper.rowRecords.length
  let s := s.forAll (List.range (4 * n)) (fun i s =>
    s.setCell 1 (eventOffset s.tamper.nextSlot + i) (some (.programmed 0)))
  let s := (s.onTamper (fun t =>
    { t with nextSlot := (t.nextSlot + n) % 65536, flushFailures := t.flushFailures + 1 })).keepErased
  let s := s.event 0x5A (detailOf 1 programFailed)
  if s.tamper.flushFailures < 3 then s
  else
    (s.bumpBy (okey 0x6200 0x0A) 48 n).onTamper (fun t =>
      { t with buffer := t.buffer.drop n, discards := t.discards + n, flushFailures := 0 })

/-- The flush is complete: the buffer is empty. -/
def State.flushEnd (s : State) : State :=
  (s.onTamper (fun t => { t with flushDue := false, oldest := none })).doneCmd (okey 0x6200 5)

/-- R408, R410: programs the buffer row by row, oldest first. `failed` names the row of this flush whose program fails;
the flush stops there and goes on at the next one. -/
def State.flushRows (key : BitVec 256) (failed : Option Nat) : Nat → Nat → State → State
  | 0, _, s => s
  | fuel + 1, i, s =>
    if s.tamper.buffer.isEmpty then s.flushEnd
    else
      let row := s.tamper.rowRecords
      let free := (List.range (4 * row.length)).all (fun k => (s.cell 1 (eventOffset s.tamper.nextSlot + k)).isNone)
      if failed == some i || !free then s.rowFailed
      else
        let s := s.forAll row (State.commitRecord key)
        State.flushRows key failed fuel (i + 1)
          (s.onTamper (fun t => { t with buffer := t.buffer.drop row.length, flushFailures := 0 }))

/-- R408: a flush. Without the event-log key (a start that could not read the UDS) nothing can be programmed (DEDUCED,
notes/assumptions/33.md). -/
def State.flushLog (failed : Option Nat) (s : State) : State :=
  match s.keys.eventKey with
  | none => s
  | some key => s.flushRows key failed (s.tamper.buffer.length + 1) 0

/-! ## Start (R398, R409, R410) -/

/-- Word 3 of the record committed before, as the ring reads now: zero before the first record; none when that record is
gone. -/
def State.wordBefore (s : State) (before : Option Nat) : Option Word :=
  match before with
  | none => some 0
  | some slot => (s.flashRead 1 (eventOffset slot + 3)).word

/-- R407, R410: the chain MAC of a committed record holds. One whose predecessor was reclaimed cannot be checked. -/
def State.chainHolds (s : State) (key : BitVec 256) (e : Nat × Nat × Option Nat) : Bool :=
  match s.slotWords e.2.1 with
  | none => false
  | some w =>
    match e.2.2 with
    | some b =>
      if s.tamper.index.any (fun x => x.2.1 == b) || some b == s.tamper.lastSlot then
        (match s.wordBefore (some b) with
        | some m => w.getD 3 0 == chainMacOf key m w e.1
        | none => true)
      else true
    | none => w.getD 3 0 == chainMacOf key 0 w e.1

/-- R410: voids a record whose MAC fails. -/
def State.voidRecord (e : Nat × Nat × Option Nat) (s : State) : State :=
  let s := s.setCell 1 (eventOffset e.2.1) (some (.programmed 0))
  (s.onTamper (fun t => { t with index := t.index.filter (· != e) })).issueRecord
    (s.housekeeping 0x05 (detailOf 1 (e.1 % 2 ^ 40)))

/-- R410: the check of the last 64 records; the next record chains to the last that passed. -/
def State.checkChain (key : BitVec 256) (s : State) : State :=
  let l := s.tamper.index.drop (s.tamper.index.length - 64)
  let bad := l.filter (fun e => !s.chainHolds key e)
  let s := s.forAll bad State.voidRecord
  match s.tamper.index.getLast? with
  | none => s
  | some e => s.onTamper (fun t =>
      { t with lastSlot := some e.2.1, lastMac := (s.wordBefore (some e.2.1)).getD t.lastMac, head := e.1,
               tail := (t.index.head?.map (fun x => x.1)).getD t.tail })

/-- R409: numbers issued and never committed are counted; numbering resumes above both maxima and the floor counter.
`kept`: the tamper watch kept what it had issued (a reset without loss of power). -/
def State.resumeNumbers (kept : Bool) (s : State) : State :=
  let head := s.tamper.head
  let known := if kept then s.tamper.issued else s.vigil.lastIssued.getD 0
  let base := max (max known head) (s.counter 3)
  let lost := known - head
  let s := s.onTamper (fun t =>
    { t with buffer := [], oldest := none, flushDue := false, flushFailures := 0, discards := 0,
             issued := base, segment := if head = 0 then none else some (head / 65536) })
  let s := s.counterSetTo 3 base |>.1
  if lost = 0 then s
  else (s.bumpBy (okey 0x6200 9) 48 lost).issueRecord (s.housekeeping 0x03 (BitVec.ofNat 48 (head + 1)))

/-- R398: an event record of a vigil record: its source, response and time, flag bit 0, its word 0 as detail. The mode is
Vigil's, in which it arose (DEDUCED, notes/assumptions/34.md). -/
def moved (i : Nat) (r : VigilRecord) : Unnumbered :=
  { source := bitsOf r.word0 47 40, response := bitsOf r.word0 39 36, flags := 3, mode := .vigil, time := r.time,
    detail := r.word0, vigil := some i }

/-- R398, R399: moves the vigil records; with none to move the flags of R399 clear at once. -/
def State.moveVigilRecords (s : State) : State :=
  let l := s.vigil.records
  if l.isEmpty then ((s.setFlag flagErase false).setFlag flagOverflow false).setFlag flagCellAbsent false
  else
    let s := s.forAll (l.zipIdx) (fun e s => s.issueRecord (moved e.2 e.1))
    s.onTamper (fun t => { t with flushDue := true })

/-- The event log's part of runtime start: chain check, lost numbers, vigil records, in this order (R398). -/
def State.startLog (kept : Bool) (s : State) : State :=
  if s.logs then
    match s.keys.eventKey with
    | none => s
    | some key =>
      let s := if kept then s.resumeNumbers true else s.resumeNumbers false
      (s.checkChain key).moveVigilRecords
  else s

/-! ## Window, acknowledgement, verification (R412, R414) -/

/-- Committed records with consecutive numbers from a number on, at most n. -/
def consecutive : List (Nat × Nat × Option Nat) → Nat → Nat → List (Nat × Nat × Option Nat)
  | [], _, _ => []
  | e :: rest, n, k => if k = 0 then [] else if e.1 = n then e :: consecutive rest (n + 1) (k - 1) else []

/-- R412: a read of 0x6200:04: F, then up to 42 records with consecutive numbers from F. -/
def State.eventWindow (s : State) (cursor : Nat) : List Byte :=
  let f := max cursor s.tamper.tail
  let l := consecutive (s.tamper.index.dropWhile (fun e => e.1 != f)) f 42
  beOctets 6 f ++ ((l.map (fun e => s.slotWords e.2.1)).takeWhile Option.isSome).flatMap (fun w => wordsBe (w.getD []))

/-- ACK_RANGE of the boot ledger (R412). -/
def ackRange : Nat := 0x060004

/-- R412: acknowledges export up to a full number. Its flash counter follows (R505). -/
def State.ackEvents (n : Nat) (s : State) : State :=
  let v := max (s.num (okey 0x6200 7)) n
  ((s.putNum (okey 0x6200 7) v).counterSetTo 2 v).1

/-- R412: 0x6200:06. -/
def ackEventsAction : Action :=
  { arg := argOf 6 (fun _ => true), guard := noGuard,
    act := fun _ v s => if beNat v > s.tamper.head then (s, .failed ackRange) else (s.ackEvents (beNat v), .done) }

/-- R408: 0x6200:05 triggers a flush; with an empty buffer it ends at once. -/
def flushAction : Action :=
  { arg := anyArg, guard := noGuard,
    act := fun _ _ s =>
      if s.tamper.buffer.isEmpty then (s, .done)
      else (s.onTamper (fun t => { t with flushDue := true }), .busy) }

/-- R414: 0x6200:0B verifies the chain from a full number to the head. -/
def verifyAction : Action :=
  { arg := argOf 6 (fun _ => true), guard := noGuard,
    act := fun _ v s =>
      match s.keys.eventKey with
      | none => (s.putNum (okey 0x6200 0x0C) (beNat v), .failed chainBroken)
      | some key =>
        match s.tamper.index.find? (fun e => beNat v ≤ e.1 && !s.chainHolds key e) with
        | none => (s, .done)
        | some e => (s.putNum (okey 0x6200 0x0C) e.1, .failed chainBroken) }

/-! ## Commands -/

/-- EVENT_LOG_FLUSH (R408, R410): a flush that a trigger of R408 demands. -/
def execEventLogFlush (failedRow : Option Nat) (s : State) : Host.Outcome State Fault Refusal :=
  .next (s.whenLive (fun s => if s.tamper.flushDue then s.flushLog failedRow else s))

/-- FLUSH (R408): a write of 0x6200:05. -/
def execFlush (f : Frame) (s : State) : Host.Outcome State Fault Refusal :=
  .next (s.runCmd (okey 0x6200 5) f flushAction)

/-- FLUSH_AGE_EXPIRY (R408): 1 s since the oldest unflushed record arose. -/
def execFlushAgeExpiry (s : State) : Host.Outcome State Fault Refusal :=
  .next (s.whenLive (fun s =>
    match s.tamper.oldest with
    | some t => if t + second ≤ s.now then s.onTamper (fun x => { x with flushDue := true }) else s
    | none => s))

/-- EVENT_ACKNOWLEDGE_EXPORT (R412). -/
def execEventAcknowledgeExport (f : Frame) (s : State) : Host.Outcome State Fault Refusal :=
  .next (s.runCmd (okey 0x6200 6) f ackEventsAction)

/-- VERIFY_CHAIN (R414). -/
def execVerifyChain (f : Frame) (s : State) : Host.Outcome State Fault Refusal :=
  .next (s.runCmd (okey 0x6200 0x0B) f verifyAction)

end Sys2Proof.Machine
end

