-- ==== Sys2Proof/Machine/Options.lean ====
section
/-! DEFINITION. The option area as words: release entries, channel descriptors and region tables in force and staged, their
checks, the timing that a channel announces, and its SFDP (spec/03 R91, R92; spec/04 R121 to R129, R148 to R154). -/

namespace Sys2Proof.Machine

/-! ## The words in force -/

/-- A word of the option-area copy in force; zero beyond its body or without a copy (R91, R93). -/
def State.opt (s : State) (i : Nat) : Word := s.modes.options.words.getD i 0

/-- R91: the 16 hold release entries in force. -/
def State.releaseEntries (s : State) : List Word := (List.range 16).map (fun i => s.opt (33 + i))

/-- R92: the entry is valid. -/
def entryValid (e : Word) : Bool := e.getLsbD 4

/-- R92: the hold that an entry names. -/
def entryHold (e : Word) : Fin 16 := ⟨e.toNat % 16, Nat.mod_lt _ (by decide)⟩

/-- R92: the channel is in the entry's halt binding. -/
def entryBinds (e : Word) (n : Fin 12) : Bool := e.getLsbD (8 + n.val)

/-- R92: the entry's reserved bits are zero. -/
def entryOk (e : Word) : Bool := bitsOf e 23 20 == 0 && bitsOf e 7 5 == 0

/-! ## Descriptors and regions (R126, R127) -/

/-- A channel descriptor (R126). -/
structure ChanDesc where
  /-- Word 0. -/
  w0 : Word
  /-- Word 1. -/
  w1 : Word
deriving DecidableEq, Repr

/-- A region entry (R127). -/
structure RegionDef where
  /-- Word 0. -/
  w0 : Word
  /-- Word 1. -/
  w1 : Word
deriving DecidableEq, Repr

namespace ChanDesc
def first (d : ChanDesc) : Nat := bitsOf d.w0 47 38
def count (d : ChanDesc) : Nat := bitsOf d.w0 37 31
def ceiling (d : ChanDesc) : Nat := bitsOf d.w0 30 23
def dummies (d : ChanDesc) : Nat := bitsOf d.w0 22 18
def csHighTime (d : ChanDesc) : Nat := bitsOf d.w0 17 12
def flashProtocol (d : ChanDesc) : Nat := bitsOf d.w0 11 9
def startProtocol (d : ChanDesc) : Nat := bitsOf d.w0 8 6
def flashClock (d : ChanDesc) : Nat := bitsOf d.w0 5 4
/-- A flash stands on the chip select. -/
def hasFlash (d : ChanDesc) (cs : Nat) : Bool := d.w0.getLsbD (2 + cs)
def recoveryRole (d : ChanDesc) : Bool := d.w0.getLsbD 1
def enabled (d : ChanDesc) : Bool := d.w0.getLsbD 0
def emulatedId (d : ChanDesc) : Nat := bitsOf d.w1 47 24
def retrainPeriod (d : ChanDesc) : Nat := bitsOf d.w1 23 16
def retrainStep (d : ChanDesc) : Nat := bitsOf d.w1 15 12
/-- The host protocol mask enables a protocol code. -/
def masks (d : ChanDesc) (code : Nat) : Bool := code < 6 && d.w1.getLsbD (6 + code)
def startAddr4 (d : ChanDesc) : Bool := d.w1.getLsbD 4
def flashAddr4 (d : ChanDesc) : Bool := d.w1.getLsbD 3
/-- R22: divisor of the 3,600 MHz oscillator. -/
def divisor (d : ChanDesc) : Nat := [18, 28, 36, 72].getD d.flashClock 72
/-- R120: the emulated device is presented to the host. -/
def presents (d : ChanDesc) (cs : Nat) : Bool := d.hasFlash cs && (cs == 0 || !d.recoveryRole)
end ChanDesc

namespace RegionDef
def start (r : RegionDef) : Nat := bitsOf r.w0 47 31
def pages (r : RegionDef) : Nat := bitsOf r.w0 30 14 + 1
def policy (r : RegionDef) : Nat := bitsOf r.w0 13 12
def source (r : RegionDef) : Nat := bitsOf r.w0 11 10
def writeAllow (r : RegionDef) : Bool := r.w0.getLsbD 9
def digest (r : RegionDef) : Nat := bitsOf r.w0 8 7
def response (r : RegionDef) : Nat := bitsOf r.w0 6 5
def slot (r : RegionDef) : Nat := bitsOf r.w0 4 2
def tag (r : RegionDef) : Nat := bitsOf r.w1 47 24
def recoverySource (r : RegionDef) : Nat := bitsOf r.w1 23 22
def recoveryPage (r : RegionDef) : Nat := bitsOf r.w1 21 5
def valid (r : RegionDef) : Bool := r.w1.getLsbD 4
/-- R127: the serve source is Pinned. -/
def isPinned (r : RegionDef) : Bool := r.source == 1
/-- R123: a host-side page lies in the region. -/
def covers (r : RegionDef) (page : Nat) : Bool := r.start ≤ page && page < r.start + r.pages
/-- R128: words of commons that the region reserves. -/
def reserves (r : RegionDef) : Nat :=
  if r.valid && (r.source == 1 || r.recoverySource == 2 || r.recoverySource == 3) then (4096 * r.pages + 5) / 6 else 0
end RegionDef

/-- The built-in descriptor of R124. -/
def ChanDesc.builtIn : ChanDesc := { w0 := builtInDescriptor.getD 0 0, w1 := builtInDescriptor.getD 1 0 }

/-- R125: the header of the configuration. -/
def configMagic : Nat := 0x434846

/-- R125: a descriptor and its regions from the words of an option-area body; the built-in descriptor without regions when
the body holds no configuration. -/
def configChan (w : List Word) (n : Nat) : ChanDesc × List RegionDef :=
  if bitsOf (w.getD 64 0) 47 24 != configMagic then (ChanDesc.builtIn, [])
  else
    let d : ChanDesc := { w0 := w.getD (65 + 2 * n) 0, w1 := w.getD (66 + 2 * n) 0 }
    (d, (List.range d.count).map (fun i =>
      { w0 := w.getD (89 + 2 * (d.first + i)) 0, w1 := w.getD (90 + 2 * (d.first + i)) 0 }))

/-! ## Staged configuration (R82, R125, R167) -/

/-- The object of channel n at group g and subindex sub. -/
def ckey (g : Nat) (n : Fin 12) (sub : Nat) : Nat := okey (0x2000 + 256 * n.val + g) sub

/-- The staged descriptor of a channel: its words as written. -/
def State.stagedDesc (s : State) (n : Fin 12) : ChanDesc :=
  let w := s.objWords (ckey 0 n 1)
  { w0 := w.getD 0 0, w1 := w.getD 1 0 }

/-- The staged region table: the entries below the count (R167). -/
def State.stagedRegions (s : State) (n : Fin 12) (count : Nat) : List RegionDef :=
  let w := s.objWords (ckey 0 n 3)
  (List.range (min count 64)).map (fun i => { w0 := w.getD (2 * i) 0, w1 := w.getD (2 * i + 1) 0 })

/-- The staged configuration of all channels. -/
def State.stagedConfig (s : State) : List (ChanDesc × List RegionDef) :=
  channels.map (fun n => (s.stagedDesc n, s.stagedRegions n (s.stagedDesc n).count))

/-- R126: a descriptor with its first-region field filled in. -/
def ChanDesc.withFirst (d : ChanDesc) (first : Nat) : ChanDesc :=
  { d with w0 := BitVec.ofNat 48 (first % 1024 * 2 ^ 38 + d.w0.toNat % 2 ^ 38) }

/-- R126: a descriptor with its region-count field. -/
def ChanDesc.withCount (d : ChanDesc) (count : Nat) : ChanDesc :=
  { d with w0 := BitVec.ofNat 48 (d.w0.toNat / 2 ^ 38 * 2 ^ 38 + count % 128 * 2 ^ 31 + d.w0.toNat % 2 ^ 31) }

/-- R125: the descriptors' words, first regions filled in from a pool index onward. -/
def packDescs : Nat → List (ChanDesc × List RegionDef) → List Word
  | _, [] => []
  | first, (d, r) :: rest => [(d.withFirst first).w0, d.w1] ++ packDescs (first + r.length) rest

/-- R125: header, descriptors and pool. -/
def packConfig (c : List (ChanDesc × List RegionDef)) : List Word :=
  let pool := c.flatMap (fun e => e.2.flatMap (fun r => [r.w0, r.w1]))
  [BitVec.ofNat 48 (configMagic * 2 ^ 24 + pool.length / 2)] ++ packDescs 0 c ++ pool

/-- R82, R91: the staged option-area content: words 32 to 48, 51 and the configuration from the dictionary, every other word
as in force. -/
def State.stagedOptions (s : State) : List Word :=
  let fixed := (List.range 64).map (fun i => s.opt i)
  let hold := s.objWords (okey 0x1200 0x41)
  let head := (List.range 64).map (fun i =>
    if i = 32 then BitVec.ofNat 48 (s.objNum (okey 0x1200 0x40))
    else if 33 ≤ i ∧ i ≤ 48 then hold.getD (i - 33) 0
    else if i = 51 then BitVec.ofNat 48 (s.objNum (okey 0x1200 0x22))
    else fixed.getD i 0)
  let w := head ++ packConfig s.stagedConfig
  w.set 2 (BitVec.ofNat 48 w.length)

/-- R82: something of the option area is staged: the staged words from 32 on differ from those in force. -/
def State.optionsStaged (s : State) : Bool := s.stagedOptions.drop 32 != s.modes.options.words.drop 32

/-! ## The timing that a channel announces (R151 to R154) -/

/-- R151: command and address cycles of the flash. -/
def ChanDesc.cycles (d : ChanDesc) : Nat :=
  let a := if d.flashAddr4 then 4 else 3
  [8 + 8 * a, 8 + 8 * a, 8 + 2 * a, 2 + 2 * a, 6, 3].getD d.flashProtocol 0

/-- R151: the path time in units of 1/9,000 ns. -/
def ChanDesc.pathTime (d : ChanDesc) : Nat :=
  222498 + 9000 * d.csHighTime + (d.cycles + d.dummies) * d.divisor * 2500

/-- A quotient rounded up. -/
def ceilDiv (a b : Nat) : Nat := (a + b - 1) / b

/-- R152: D_oct. -/
def ChanDesc.dOct (d : ChanDesc) : Nat := ceilDiv (min d.ceiling 200 * d.pathTime) 9000000

/-- R152: D_quad. -/
def ChanDesc.dQuad (d : ChanDesc) : Nat := ceilDiv (min d.ceiling 133 * d.pathTime) 9000000

/-- R153: f_111 in kHz. -/
def ChanDesc.f111 (d : ChanDesc) : Nat := 72000000000 / d.pathTime

/-- R153: L_111 in kHz. -/
def ChanDesc.l111 (d : ChanDesc) : Nat := min d.f111 133000

/-- R121: data bits per clock of a protocol. -/
def protocolBits (code : Nat) : Nat := [1, 4, 4, 4, 8, 16].getD code 0

/-- R121, R153: the host clock limit of a protocol, in kHz. -/
def ChanDesc.limit (d : ChanDesc) (code : Nat) : Nat :=
  if code = 0 then d.l111 else 1000 * min d.ceiling (if code < 4 then 133 else 200)

/-- R154: the host's data rate in a protocol exceeds the flash's. -/
def ChanDesc.tooFast (d : ChanDesc) (code : Nat) : Bool :=
  d.limit code * protocolBits code * d.divisor > 3600000 * protocolBits d.flashProtocol

/-! ## The checks of R129 -/

def regionOverlap : Nat := 0x030001
def regionBounds : Nat := 0x030002
def pinnedBudget : Nat := 0x030003
def pageBudget : Nat := 0x030004
def rateMismatch : Nat := 0x030005
def dummyRange : Nat := 0x030006
def writeOnPinned : Nat := 0x030007
def manifestInvalid : Nat := 0x030008
def manifestRollback : Nat := 0x030009
def channelNotHalted : Nat := 0x03000A

/-- A range reaches beyond the first 16 MiB of a chip select (R126; DEDUCED, notes/assumptions/43.md). -/
def aboveSmall (start pages : Nat) : Bool :=
  let last := start + pages - 1
  last / 65536 != start / 65536 || last % 65536 ≥ 4096

/-- R126: field values of a descriptor that R126 leaves undefined, or that contradict it. -/
def ChanDesc.fieldsOk (d : ChanDesc) : Bool :=
  d.flashProtocol ≤ 5 && d.startProtocol ≤ 5 && d.count ≤ 64 && 1 ≤ d.ceiling && d.ceiling ≤ 200 &&
  1 ≤ d.retrainPeriod && 1 ≤ d.retrainStep && bitsOf d.w1 2 0 == 0 && bitsOf d.w1 5 5 == 0 &&
  (d.flashClock != 0 || d.flashProtocol ≥ 4) && d.masks d.startProtocol &&
  (d.flashProtocol < 4 || d.flashAddr4)

/-- R127: field values of a region that R127 leaves undefined, or that contradict R126. An entry that is not in use is
checked for its reserved fields alone. -/
def RegionDef.fieldsOk (d : ChanDesc) (r : RegionDef) : Bool :=
  bitsOf r.w0 1 0 == 0 && bitsOf r.w1 3 0 == 0 &&
  (!r.valid || (r.source ≤ 1 && r.digest ≤ 2 && !(r.policy == 2 && r.recoverySource == 0) &&
    !(r.recoverySource == 1 && !d.recoveryRole) &&
    (d.flashAddr4 || !(aboveSmall r.start r.pages ||
      ((r.recoverySource == 1 || r.recoverySource == 3) && aboveSmall r.recoveryPage r.pages)))))

/-- R129: a page range lies on the allowed chip selects. -/
def rangeIn (start pages : Nat) (allowed : Nat → Bool) : Bool :=
  start + pages ≤ 131072 && allowed (start / 65536) && allowed ((start + pages - 1) / 65536)

/-- R129: region and recovery range of a region lie where its chip selects allow. -/
def RegionDef.boundsOk (d : ChanDesc) (r : RegionDef) : Bool :=
  rangeIn r.start r.pages d.presents &&
    (if r.recoverySource = 1 then rangeIn r.recoveryPage r.pages (fun cs => cs == 1 && d.hasFlash 1)
     else if r.recoverySource = 3 then rangeIn r.recoveryPage r.pages d.hasFlash else true)

/-- R129: two ranges share a page. -/
def sharePage (a b : RegionDef) : Bool := a.start < b.start + b.pages && b.start < a.start + a.pages

/-- Some two of a list's elements satisfy a relation. -/
def anyPair {α : Type} (f : α → α → Bool) : List α → Bool
  | [] => false
  | a :: rest => rest.any (f a) || anyPair f rest

/-- Sum of a list of numbers. -/
def sumOf (l : List Nat) : Nat := l.foldl (· + ·) 0

/-- R129: the code of the first check that fails, or 0. -/
def configCode (c : List (ChanDesc × List RegionDef)) : Nat :=
  let used := c.map (fun e => (e.1, e.2.filter RegionDef.valid))
  let live := used.filter (fun e => e.1.enabled)
  let pages := live.map (fun e => sumOf (e.2.map RegionDef.pages))
  if c.any (fun e => !e.1.fieldsOk || e.2.any (fun r => !r.fieldsOk e.1)) then valueRange
  else if used.any (fun e => anyPair sharePage e.2) then regionOverlap
  else if used.any (fun e => e.2.any (fun r => !r.boundsOk e.1)) then regionBounds
  else if sumOf (live.map (fun e => sumOf (e.2.map RegionDef.reserves))) > 1572864 then pinnedBudget
  else if sumOf pages > 393216 || pages.any (fun n => n > 131072) then pageBudget
  else if used.any (fun e => (List.range 6).any (fun p => e.1.masks p && e.1.tooFast p)) then rateMismatch
  else if used.any (fun e =>
      (e.1.dOct > 31 && (e.1.masks 4 || e.1.masks 5)) ||
      (e.1.dQuad > 31 && (e.1.masks 1 || e.1.masks 2 || e.1.masks 3)) || (e.1.masks 0 && e.1.f111 < 1000)) then dummyRange
  else if used.any (fun e => e.2.any (fun r => r.writeAllow && r.isPinned)) then writeOnPinned
  else 0

/-- The code of the staged configuration with one channel's descriptor and regions replaced. -/
def State.stagedCode (s : State) (n : Fin 12) (d : ChanDesc) (r : List RegionDef) : Nat :=
  configCode (channels.map (fun m =>
    if m = n then (d, r) else (s.stagedDesc m, s.stagedRegions m (s.stagedDesc m).count)))

/-! ## Configuration in force -/

/-- R124, R125: the descriptor and the regions of a channel in force. In pass-through: the staged descriptor when the staged
configuration passes R129, else the built-in one, with no regions. -/
def State.chanConfig (s : State) (n : Fin 12) : ChanDesc × List RegionDef :=
  if s.modes.mode.passThrough then
    (if configCode s.stagedConfig = 0 then s.stagedDesc n else ChanDesc.builtIn, [])
  else configChan s.modes.options.words n.val

/-- The descriptor in use. -/
def State.chanDesc (s : State) (n : Fin 12) : ChanDesc := (s.chanConfig n).1

/-- The region table in force. -/
def State.regionDefs (s : State) (n : Fin 12) : List RegionDef := (s.chanConfig n).2

/-- The numbers and entries of the valid regions, in table order. -/
def State.validRegions (s : State) (n : Fin 12) : List (Nat × RegionDef) :=
  ((s.regionDefs n).mapIdx (fun i r => (i, r))).filter (fun e => e.2.valid)

/-- A region's entry. -/
def State.regionDef (s : State) (n : Fin 12) (r : Nat) : Option RegionDef := (s.regionDefs n)[r]?

/-- R123: the valid region that a host-side page lies in. -/
def State.regionAt (s : State) (n : Fin 12) (page : Nat) : Option (Nat × RegionDef) :=
  (s.validRegions n).find? (fun e => e.2.covers page)

/-- 0x2n02:0A: words that the channel's regions reserve; none for a channel that is not enabled (R128). -/
def State.reservedWords (s : State) (n : Fin 12) : Nat :=
  if (s.chanDesc n).enabled then sumOf ((s.validRegions n).map (fun e => e.2.reserves)) else 0

/-! ## The SFDP that the host port presents (R148 to R150) -/

/-- A little-endian U24 as octets. -/
def le24 (v : Nat) : List Byte := (beOctets 3 v).reverse

/-- R148: a parameter header of JESD216: ID low octet, minor and major revision, DWORDs, pointer, ID high octet. -/
def paramHeader (id minor dwords pointer : Nat) : List Byte :=
  [BitVec.ofNat 8 id, BitVec.ofNat 8 minor, 1, BitVec.ofNat 8 dwords] ++ le24 pointer ++ [BitVec.ofNat 8 (id / 256)]

/-- R148: the 176 octets presented for a chip select. JESD216D's encodings of the values of R148 to R150 are opaque. -/
def State.presentedSfdp (s : State) (n : Fin 12) (cs : Fin 2) : List Byte :=
  let d := s.chanDesc n
  let f := s.chans[n].flash[cs]
  let octal := d.masks 4 || d.masks 5
  let mask := bitsOf d.w1 11 6
  if !d.presents cs.val then List.replicate 176 0xFF
  else
    ascii "SFDP" ++ [8, 1, if octal then 3 else 1, 0xFF] ++ paramHeader 0xFF00 8 20 0x30 ++ paramHeader 0xFF84 0 2 0x80 ++
    (if octal then paramHeader 0xFF05 0 6 0x88 ++ paramHeader 0xFF0A 0 4 0xA0 else List.replicate 16 0xFF) ++
    List.replicate 8 0 ++
    (List.range 80).map (Config.sfdpBasic f.density mask d.dQuad f.sfdp) ++
    (List.range 8).map Config.sfdpFourByte ++
    (if octal then (List.range 24).map (Config.sfdpProfile d.dOct) ++ (List.range 16).map Config.sfdpSwitch
     else List.replicate 40 0xFF)

/-- R148: what 0x5A reads at an SFDP address. -/
def State.sfdpAt (s : State) (n : Fin 12) (cs : Fin 2) (a : Nat) : Byte := (s.presentedSfdp n cs).getD a 0xFF

/-! ## Digests (R127, R134) -/

/-- The SHA-2 digest of an algorithm code of R127: 0 SHA-384, 1 SHA-256, 2 SHA-512. -/
def regionHash (alg : Nat) (b : List Byte) : List Byte :=
  if alg = 0 then sha384 b
  else if alg = 1 then (List.range 32).map (Config.digest 1 b 32)
  else (List.range 64).map (Config.digest 3 b 64)

end Sys2Proof.Machine
end

