-- ==== Sys2Proof/Machine/Holds.lean ====
section
/-! DEFINITION. Outages and counted time (R35 to R38), items that await a supplement (R226), and the reset holds: assertion,
the release procedure, halts and overrides (R16, R81, R94, R143, R187, R214). -/

namespace Sys2Proof.Machine

/-! ## Outages and counted time (R35 to R38) -/

/-- R36: the present time counts: main power is present, no start is in progress, the mode is none of Locked, Forensic,
Retired. -/
def State.counting (s : State) : Bool :=
  s.modes.mainPower && !s.modes.starting && s.modes.startPending.isNone && !s.modes.mode.closed &&
    s.modes.mode != Mode.vigil

/-- A TIME48 that saturates. -/
def time48 (n : Nat) : Nat := min n (2 ^ 48 - 1)

/-- R38: brings counted time (0x1200:32) up to now. -/
def State.reckon (s : State) : State :=
  (if s.counting then s.putNum (okey 0x1200 0x32) (time48 (s.objNum (okey 0x1200 0x32) + (s.now - s.integ.countedTo)))
   else s).onInteg (fun i => { i with countedTo := s.now })

/-- Keeps the present value of an object as its saved one. -/
def State.saveObj (key : Nat) (s : State) : State := s.onInteg (fun i => { i with saved := kset i.saved key (s.stored key) })

/-- Milliseconds of a TIME48 interval. -/
def msOf (t : Nat) : Nat := t * 1000 / 32768

/-- R38: the outage in progress ends: counted, saved, logged. -/
def State.endOutage (s : State) : State :=
  match s.integ.outage with
  | none => s
  | some (cause, start) =>
    let d := s.now - start
    let s := (s.bumpBy (okey 0x1200 0x30) 24 1).putNum (okey 0x1200 0x31) (time48 (s.objNum (okey 0x1200 0x31) + d))
    let s := (s.putNum (okey 0x1200 0x33) cause).putNum (okey 0x1200 0x34) start
    let s := s.forAll [okey 0x1200 0x30, okey 0x1200 0x31, okey 0x1200 0x33, okey 0x1200 0x34] State.saveObj
    (s.event 0x31 (detailOf 1 (cause * 2 ^ 32 + min (msOf d) (2 ^ 32 - 1)))).onInteg (fun i => { i with outage := none })

/-- R35, R37: some interval of an outage is open; concurrent ones are one. -/
def State.outageOpen (s : State) : Bool := s.integ.primaryLate || s.chans.toList.any (fun c => c.outage)

/-- R37: starts or ends the outage as its intervals stand. -/
def State.settleOutage (cause : Nat) (s : State) : State :=
  if s.outageOpen then
    (if s.integ.outage.isNone then s.onInteg (fun i => { i with outage := some (cause, s.now) }) else s)
  else s.endOutage

/-- A port's interval opens or closes (R35, R147). -/
def State.portOutage (n : Fin 12) (b : Bool) (s : State) : State :=
  if s.chans[n].outage = b then s else (s.onChan n (fun c => { c with outage := b })).settleOutage 1

/-- The interval of a late primary record opens or closes (R35). -/
def State.primaryOutage (b : Bool) (s : State) : State :=
  if s.integ.primaryLate = b then s else (s.onInteg (fun i => { i with primaryLate := b })).settleOutage 2

/-- R36: every open interval ends, as the mode or a board power event takes the ports out of R35. -/
def State.endOutages (s : State) : State :=
  ((s.onChans (fun v => v.map (fun c => { c with outage := false }))).onInteg (fun i =>
    { i with primaryLate := false })).settleOutage 1

/-! ## Items awaiting a supplement (R226) -/

/-- Adds a pending item. -/
def State.pend (x : PendingItem) (s : State) : State :=
  s.onLedger (fun l =>
    { l with pendingItems := l.pendingItems ++ [x], pendingSince := some (l.pendingSince.getD s.now) })

/-! ## Halts and attestation holds (R141, R199, R214) -/

/-- R141: the channel is halted: a region has verdict HALTED. -/
def State.halted (s : State) (n : Fin 12) : Bool := s.chans[n].regions.any (fun e => e.2.verdict == 7)

/-- A slot's word of the table in force (R199). -/
def State.slotWord (s : State) (k w : Nat) : Word := s.att.table.getD (2 * k + w) 0

/-- R199: the slot is valid. -/
def State.slotValid (s : State) (k : Nat) : Bool := (s.slotWord k 1).getLsbD 0

/-- R199: the slot collects in Serve. -/
def State.slotServe (s : State) (k : Nat) : Bool := (s.slotWord k 1).getLsbD 8

/-- R199: hold of policy 2 or 3. -/
def State.slotHold (s : State) (k : Nat) : Nat := bitsOf (s.slotWord k 1) 15 12

/-- R199: failure policy. -/
def State.slotPolicy (s : State) (k : Nat) : Nat := bitsOf (s.slotWord k 1) 7 6

/-- The progress of a slot. -/
def State.responder (s : State) (k : Nat) : Responder := (kget s.att.slots k).getD Responder.initial

/-- R212: a failed outcome. -/
def outcomeFailed (o : Nat) : Bool := (3 ≤ o && o ≤ 0x0B) || o == 0x0D

/-- R214: the slot keeps its hold asserted. -/
def State.slotKeeps (s : State) (k : Nat) : Bool :=
  s.slotValid k && !s.slotServe k && 2 ≤ s.slotPolicy k && !(s.responder k).overridden &&
    ((s.responder k).outcome == 0x0C || outcomeFailed (s.responder k).outcome)

/-- R214: the lowest slot that keeps a hold asserted. -/
def State.keeper (s : State) (h : Fin 16) : Option Nat :=
  (List.range 64).find? (fun k => s.slotKeeps k && s.slotHold k == h.val)

/-! ## Holds -/

/-- The hold is enabled (R81). -/
def State.holdEnabled (s : State) (h : Fin 16) : Bool := s.modes.holdMask.getLsbD h.val

/-- Sets a hold's output. -/
def State.setHold (h : Fin 16) (o : HoldOut) (s : State) : State :=
  s.onModes (fun m => { m with holds := m.holds.set h o })

/-- All sixteen holds in order. -/
def allHolds : List (Fin 16) := List.ofFn (fun i : Fin 16 => i)

/-- The hold is asserted: driven low for any reason. -/
def HoldOut.isLow : HoldOut → Bool
  | .low | .heldHalt | .heldAtt => true
  | _ => false

/-- R16: asserts every enabled hold, leaves the others at high impedance, and ends the release procedure. Without VIO33 no
hold is driven. -/
def State.assertHolds (s : State) : State :=
  s.onModes (fun m =>
    { m with releaseQueue := [],
             holds := Vector.ofFn (fun h : Fin 16 => if m.vio33 && m.holdMask.getLsbD h.val then .low else .hiZ) })

/-- R81, R94: a new effective mask: enabled holds keep their level or go low, the others go to high impedance, and the
mirror is rewritten. -/
def State.setMask (mask : BitVec 16) (s : State) : State :=
  (s.onModes (fun m =>
    { m with holdMask := mask,
             holds := Vector.ofFn (fun h : Fin 16 =>
               if m.vio33 && mask.getLsbD h.val then (if m.holds[h] = .hiZ then .low else m.holds[h]) else .hiZ) })).onVigil
    (fun v => { v with holdMirror := mask })

/-- A hold event pends for the next supplement (R226, R232). -/
def State.holdEvent (h : Fin 16) (event cause : Nat) (s : State) : State := s.pend (.hold h.val event cause s.now)

/-- R143: the halted channels of a binding, as a bit mask. -/
def State.haltedOf (s : State) (e : Word) : Nat :=
  channels.foldl (fun a n => if entryBinds e n && s.halted n then a + 2 ^ n.val else a) 0

/-- R143: the lowest halted channel of a binding. -/
def State.firstHalted (s : State) (e : Word) : Option (Fin 12) := channels.find? (fun n => entryBinds e n && s.halted n)

/-- R143: one entry of the release procedure. -/
def State.releaseEntry (e : Word) (s : State) : State :=
  let h := entryHold e
  if !s.holdEnabled h || s.modes.holds[h] == .high then s
  else match s.firstHalted e with
  | some n =>
    ((s.setHold h .heldHalt).holdEvent h 2 n.val).event 0x31 (detailOf 3 (h.val * 2 ^ 32 + s.haltedOf e))
  | none =>
    match s.keeper h with
    | some k => (s.setHold h .heldAtt).holdEvent h 3 k
    | none => (s.setHold h .high).holdEvent h 1 0xFF

/-- The valid entries in force that name a hold. -/
def State.entriesOf (s : State) (h : Fin 16) : List Word :=
  s.releaseEntries.filter (fun e => entryValid e && entryHold e == h)

/-- The holds that the valid entries in force name, in entry order. -/
def State.namedHolds (s : State) : List (Fin 16) :=
  ((s.releaseEntries.filter entryValid).map entryHold).foldl (fun acc h => if acc.contains h then acc else acc ++ [h]) []

/-- R143: no channel in a hold's bindings is halted. -/
def State.unbound (s : State) (h : Fin 16) : Bool := (s.entriesOf h).all (fun e => (s.firstHalted e).isNone)

/-- R143, R214: after an override of channel n, the held-for-halt holds that no halted channel and no slot keeps are
released, in entry order. -/
def State.releaseAfterOverride (n : Fin 12) (s : State) : State :=
  s.forAll s.namedHolds (fun h s =>
    if s.modes.holds[h] = .heldHalt ∧ s.unbound h = true then
      match s.keeper h with
      | some k => (s.setHold h .heldAtt).holdEvent h 3 k
      | none => (s.setHold h .high).holdEvent h 6 n.val
    else s)

/-- R214: a hold that a slot no longer keeps is released, unless a halt binding or another slot still keeps it. -/
def State.releaseFromSlot (h : Fin 16) (event cause : Nat) (s : State) : State :=
  if s.modes.holds[h] = .heldAtt ∧ s.keeper h = none then
    if s.unbound h then (s.setHold h .high).holdEvent h event cause else s.setHold h .heldHalt
  else s

/-- R187: every released hold whose release entry names the channel is asserted again and held for the halt. -/
def State.reassertFor (n : Fin 12) (s : State) : State :=
  s.forAll s.namedHolds (fun h s =>
    if s.modes.holds[h] = .high ∧ (s.entriesOf h).any (fun e => entryBinds e n) = true then
      (s.setHold h .heldHalt).holdEvent h 4 n.val
    else s)

/-- R143: an enabled hold that no valid entry names: one event at Gate entry. -/
def State.unnamedHolds (s : State) : State :=
  let m := allHolds.foldl (fun a h => if s.holdEnabled h && (s.entriesOf h).isEmpty then a + 2 ^ h.val else a) 0
  if m = 0 then s else s.event 0x31 (detailOf 2 m)

/-- HOLD_RELEASE (R143): the next valid entry of the procedure is due. -/
def State.holdRelease (s : State) : State :=
  match s.modes.releaseQueue.dropWhile (fun e => !entryValid e) with
  | [] => s.onModes (fun m => { m with releaseQueue := [] })
  | e :: rest => (s.onModes (fun m => { m with releaseQueue := rest })).releaseEntry e

/-- HOLD_RELEASE (R143). -/
def execHoldRelease (s : State) : Host.Outcome State Fault Refusal := .next (s.whenLive State.holdRelease)

end Sys2Proof.Machine
end

