-- ==== Sys2Proof/Machine/Consistency.lean ====
section
/-! DEFINITION. Read-consistency checking: the field, fingerprints, rounds, mismatches, exclusions, the sweep and the
statistics (spec/05_read_consistency.md). -/

namespace Sys2Proof.Machine

/-! ## The field GF(2^48) (R171, R173, R174) -/

/-- R171: x^48 modulo p(x). -/
def gfReduction : Word := 0x800000300001

/-- R171: multiplication by x. -/
def gfDouble (v : Word) : Word := if v.getLsbD 47 then (v <<< 1) ^^^ gfReduction else v <<< 1

/-- Multiplication by the n low coefficients of b, onto an accumulator. -/
def gfMulFrom (a b : Word) : Nat → Word → Word
  | 0, acc => acc
  | n + 1, acc => gfMulFrom a b n (gfDouble acc ^^^ (if b.getLsbD n then a else 0))

/-- R171: multiplication. -/
def gfMul (a b : Word) : Word := gfMulFrom a b 48 0

/-- A power by repeated multiplication. -/
def gfPow (k : Word) : Nat → Word
  | 0 => 1
  | n + 1 => gfMul (gfPow k n) k

/-- Product of the successive squares of sq onto an accumulator. -/
def gfInvFrom : Nat → Word → Word → Word
  | 0, _, acc => acc
  | n + 1, sq, acc => gfInvFrom n (gfMul sq sq) (gfMul acc (gfMul sq sq))

/-- R173: k⁻¹ = k^(2^48 − 2), by 47 squarings. -/
def gfInv (k : Word) : Word := gfInvFrom 47 k 1

/-- R173: T_lo[r]. -/
def tLo (k : Word) (r : Nat) : Word := gfPow k (r + 1)

/-- R173: T_hi[s]. -/
def tHi (k : Word) (s : Nat) : Word := gfPow (gfPow k 128) s

/-- R173: the check of a unit's key values. -/
def keyValuesOk (k : Word) : Bool := gfMul k (gfInv k) == 1 && tHi k 1 == tLo k 127

/-- R174: H over the octets in the order served. -/
def foldH (inv : Word) (b : List Byte) : Word := b.foldl (fun h o => gfMul h inv ^^^ o.setWidth 48) 0

/-- R174: the contribution of a segment that begins at an offset of its page. -/
def contribution (k : Word) (offset : Nat) (b : List Byte) : Word :=
  let e := offset + b.length - 1
  let sub := offset / 128
  gfMul (gfMul (tHi k sub) (tLo k (e - 128 * sub))) (foldH (gfInv k) b)

/-- R171: the fingerprint of a page as its definition sums it. -/
def fingerprint (k : Word) (b : List Byte) : Word :=
  (b.mapIdx (fun i o => gfMul (o.setWidth 48) (gfPow k (i + 1)))).foldl (· ^^^ ·) 0

/-- R174: a run of consecutive octet addresses cut at every 128-octet boundary. -/
def segmentsOf : Nat → Nat → List Byte → List (Nat × List Byte)
  | 0, _, _ => []
  | n + 1, a, b =>
    if b.isEmpty then []
    else
      let k := 128 - a % 128
      (a, b.take k) :: segmentsOf n (a + k) (b.drop k)

/-- The segments of a run. -/
def cutRun (a : Nat) (b : List Byte) : List (Nat × List Byte) := segmentsOf (b.length / 128 + 2) a b

/-! ## Entries and units (R175, R176, R183, R184) -/

/-- A channel's fingerprint unit. -/
def State.fpUnit (s : State) (n : Fin 12) : FpUnit := s.cons.units[n]

/-- Updates a channel's fingerprint unit. -/
def State.onUnit (n : Fin 12) (f : FpUnit → FpUnit) (s : State) : State :=
  s.onCons (fun c => { c with units := c.units.set n (f c.units[n]) })

/-- An entry of fingerprint memory. -/
def State.fpEntry (s : State) (e : Nat) : FpEntry := (kget s.cons.entries e).getD FpEntry.free

/-- Updates an entry. -/
def State.onEntry (e : Nat) (f : FpEntry → FpEntry) (s : State) : State :=
  s.onCons (fun c => { c with entries := kupd c.entries e FpEntry.free f })

/-- R183: the entry of a page of a region. -/
def State.entryOf (s : State) (n : Fin 12) (r : Nat) (d : RegionDef) (page : Nat) : Option Nat :=
  (kget s.cons.bases (n.val * 64 + r)).map (fun b => b + (page - d.start))

/-- R183: the region, as channel × 64 + region with its base, that an entry belongs to. -/
def State.ownerOf (s : State) (e : Nat) : Option (Nat × Nat) := (s.cons.bases.filter (fun b => b.2 ≤ e)).getLast?

/-- R188: the region and host-side page of an entry. -/
def State.pageOf (s : State) (n : Fin 12) (e : Nat) : Nat × Nat :=
  match s.ownerOf e with
  | some (k, b) => (k % 64, match s.regionDef n (k % 64) with | some d => d.start + (e - b) | none => 0)
  | none => (0, 0)

/-- R184: the code of an entry's state. -/
def PageState.code : PageState → Nat
  | .free => 0 | .armed => 1 | .closing => 2 | .excluded => 3

/-- R184: word 2 of an entry. -/
def FpEntry.word2 (e : FpEntry) : Word :=
  BitVec.ofNat 48 (e.channel % 16 * 2 ^ 44 + e.st.code * 2 ^ 42 + (if e.aged then 2 ^ 41 else 0) + e.rounds.toNat * 2 ^ 32 +
    e.mask.toNat)

/-- R183, R184: word 2 as an entry reads, allocated ones naming their channel. -/
def State.entryWord2 (s : State) (e : Nat) : Word :=
  match kget s.cons.entries e with
  | some x => x.word2
  | none =>
    if e < s.cons.allocated then
      match s.ownerOf e with
      | some (k, _) => ({ FpEntry.free with channel := k / 64 } : FpEntry).word2
      | none => 0
    else 0

/-- The entries of a channel, with their numbers. -/
def State.channelEntries (s : State) (n : Fin 12) : List (Nat × FpEntry) :=
  s.cons.entries.filter (fun e => e.2.channel == n.val)

/-- R177: the current round has received something. -/
def State.roundOpen (s : State) (n : Fin 12) (e : Nat) : Bool :=
  (s.fpEntry e).mask != 0 || (s.fpUnit n).ranges.any (fun r => r.page == e && !r.next)

/-! ## Pre-scan references (R175) -/

/-- R175: one segment of a pre-scan burst. -/
def State.refSegment (n : Fin 12) (k : Word) (e offset : Nat) (b : List Byte) (s : State) : State :=
  s.onEntry e (fun x =>
    let sub := offset / 128
    let done := (offset + b.length) % 128 == 0
    let p := if done then x.prescanned ||| (1#32 <<< sub) else x.prescanned
    if x.st = .excluded then x
    else { x with channel := n.val, reference := x.reference ^^^ contribution k offset b, prescanned := p,
                  st := if p = BitVec.allOnes 32 then .armed else .free })

/-- R175: a run of pre-scanned octets of a region from its octet offset, in the region's entries from base on. -/
def State.refRun (n : Fin 12) (base from_ : Nat) (b : List Byte) (s : State) : State :=
  match (s.fpUnit n).key with
  | some k =>
    if (s.fpUnit n).failed then s
    else s.forAll (cutRun from_ b) (fun (x : Nat × List Byte) => State.refSegment n k (base + x.1 / 4096) (x.1 % 4096) x.2)
  | none => s

/-- R175: forgets the references of a region's entries, which are formed again. -/
def State.clearRefs (base pages : Nat) (s : State) : State :=
  s.onCons (fun c => { c with entries := c.entries.filter (fun e => !(base ≤ e.1 && e.1 < base + pages)) })

/-- R175: entries of an unreadable region that are not armed are excluded. -/
def State.excludeUnarmed (n : Fin 12) (base pages : Nat) (s : State) : State :=
  s.forAll (List.range pages) (fun j s =>
    if (s.fpEntry (base + j)).st = .armed ∨ (s.fpEntry (base + j)).st = .excluded then s
    else (s.onEntry (base + j) (fun _ => { FpEntry.free with channel := n.val, st := .excluded })).bumpWord
      (okey 0x2C00 6) 12 n.val)

/-! ## Tables of a unit (R176) -/

/-- R176: the open range of a round in a sub-block. -/
def FpUnit.range (u : FpUnit) (e : Nat) (next : Bool) (sub : Nat) : Option OpenRange :=
  u.ranges.find? (fun r => r.page == e && r.next == next && r.sub == sub)

/-- R176: the segment [lo, hi] of a sub-block fits a round with a mask. -/
def FpUnit.fits (u : FpUnit) (e : Nat) (next : Bool) (mask : BitVec 32) (sub lo hi : Nat) : Bool :=
  !mask.getLsbD sub &&
    match u.range e next sub with
    | none => (lo == 0 && hi == 127) || u.ranges.length < 32
    | some r => lo == r.hi + 1 || hi + 1 == r.lo

/-- R176: marking a fitting segment: the mask and the table after it. -/
def FpUnit.mark (u : FpUnit) (e : Nat) (next : Bool) (mask : BitVec 32) (sub lo hi : Nat) : BitVec 32 × FpUnit :=
  let rest := u.ranges.filter (fun r => !(r.page == e && r.next == next && r.sub == sub))
  let (l, h) := match u.range e next sub with
    | none => (lo, hi)
    | some r => (min lo r.lo, max hi r.hi)
  if l = 0 ∧ h = 127 then (mask ||| (1#32 <<< sub), { u with ranges := rest })
  else (mask, { u with ranges := rest ++ [{ page := e, next, sub, lo := l, hi := h }] })

/-- Frees an entry's open ranges, of both rounds, its next round and its queued fill-in. -/
def FpUnit.forget (e : Nat) (u : FpUnit) : FpUnit :=
  { u with ranges := u.ranges.filter (fun r => r.page != e), nexts := u.nexts.filter (fun x => x.page != e),
           fillIns := u.fillIns.filter (fun x => x != e) }

/-! ## Mismatches (R186 to R188) -/

/-- R187: the region becomes HALTED and its channel is halted. -/
def State.haltRegion (n : Fin 12) (r page : Nat) (s : State) : State :=
  let old := ((kget s.chans[n].regions r).getD Region.initial).verdict
  if old = 7 then s
  else
    let s := s.onChan n (fun c =>
      { c with regions := kupd c.regions r Region.initial (fun x => { x with verdict := 7 }), phase := 6 })
    ((s.pend (.verdict n.val r 7 old 1 s.now page none)).reassertFor n).portOutage n false

/-- R188: a mismatch's event record, at most one a second. -/
def State.mismatchEvent (n : Fin 12) (r page : Nat) (fillIn : Bool) (s : State) : State :=
  let c := s.chans[n]
  let quiet : Bool := match c.mismatchEventAt with | some t => s.now < t + second | none => false
  if quiet then s.onChan n (fun c => { c with mismatchSince := c.mismatchSince + 1 })
  else
    (s.onChan n (fun c => { c with mismatchSince := 0, mismatchEventAt := some s.now })).event 0x4C
      (BitVec.ofNat 48 (n.val * 2 ^ 44 + r % 64 * 2 ^ 38 + page % 2 ^ 17 * 2 ^ 21 + (if fillIn then 2 ^ 20 else 0) +
        min c.mismatchSince 0xFFFFF))

/-- R186: the mismatch of a round: counts, record, and the region's response. -/
def State.mismatch (n : Fin 12) (e : Nat) (fillIn : Bool) (before : BitVec 32) (s : State) : State :=
  let (r, page) := s.pageOf n e
  let response := match s.regionDef n r with | some d => d.response | none => 0
  let s := s.bumpWord (okey 0x2C00 4) 12 n.val
  let s := s.onUnit n (fun u => { u with firstMismatch := some (u.firstMismatch.getD s.now) })
  let s := s.put (okey 0x2C00 0x0B) (.octets (beOctets 1 n.val ++ beOctets 1 r ++ beOctets 3 page ++
    [if fillIn then 1 else 0] ++ beOctets 4 before.toNat ++ beOctets 6 s.now))
  let s := s.mismatchEvent n r page fillIn
  let s := if 2 ≤ response then s.haltRegion n r page else s
  if response = 1 ∨ response = 3 then s.occur 0x26 1 (n.val * 2 ^ 32) else s

/-! ## The sweep (R191) -/

def roundsUncompared : Nat := 0x040001

/-- R191: the sweep ends when no round that it closed is left. -/
def State.settleSweep (s : State) : State :=
  if s.cons.sweeping && !s.cons.entries.any (fun e => e.2.sweepClosed) then
    (if s.cons.sweepLost then s.failCmd (okey 0x2C00 0x20) roundsUncompared else s.doneCmd (okey 0x2C00 0x20)).onCons (fun c =>
      { c with sweeping := false, sweepLost := false })
  else s

/-- A discarded round counts for the sweep that closed it. -/
def State.loseSwept (e : Nat) (s : State) : State :=
  if (s.fpEntry e).sweepClosed then
    (s.onEntry e (fun x => { x with sweepClosed := false })).onCons (fun c => { c with sweepLost := true })
  else s

/-! ## Rounds (R177 to R180) -/

/-- R179: the entry and the unit after a comparison: the next round moves in. -/
def State.rollRound (n : Fin 12) (e : Nat) (s : State) : State :=
  let next := (s.fpUnit n).nexts.find? (fun x => x.page == e)
  let s := s.onEntry e (fun x =>
    { x with accumulator := (next.map NextRound.accumulator).getD 0, mask := (next.map NextRound.mask).getD 0,
             rounds := x.rounds + 1, st := .armed, aged := false, sweepClosed := false })
  s.onUnit n (fun u =>
    { u with ranges := (u.ranges.filter (fun r => r.page != e || r.next)).map (fun r =>
               if r.page = e then { r with next := false } else r),
             nexts := u.nexts.filter (fun x => x.page != e), fillIns := u.fillIns.filter (fun x => x != e) })

/-- R179: one comparison. -/
def State.compareOnce (n : Fin 12) (e : Nat) (fillIn : Bool) (before : BitVec 32) (s : State) : State :=
  let x := s.fpEntry e
  let s := s.bumpWord (okey 0x2C00 2) 12 n.val
  let s := if fillIn then s.bumpWord (okey 0x2C00 3) 12 n.val else s
  let s := (s.rollRound n e).settleSweep
  if x.accumulator = x.reference then s else s.mismatch n e fillIn before

/-- R179: a comparison when the current round's mask is complete, and another when the next round that moved in is complete
as well. -/
def State.compare (n : Fin 12) (e : Nat) (fillIn : Bool) (before : BitVec 32) (s : State) : State :=
  if (s.fpEntry e).mask = BitVec.allOnes 32 then
    let s := s.compareOnce n e fillIn before
    if (s.fpEntry e).mask = BitVec.allOnes 32 then s.compareOnce n e false 0xFFFFFFFF else s
  else s

/-- Octets that were served and not checked (R177). -/
def State.unchecked (n : Fin 12) (k : Nat) (s : State) : State := s.bumpWord (okey 0x2C00 5) 12 n.val k

/-- R177, R180: a current round begins closing: its fill-in is queued. -/
def State.beginClosing (n : Fin 12) (e : Nat) (s : State) : State :=
  (s.onEntry e (fun x => { x with st := .closing })).onUnit n (fun u => { u with fillIns := u.fillIns ++ [e] })

/-- R177: adds a segment to the next round of an entry, which it fits. -/
def State.addNext (n : Fin 12) (k : Word) (e offset : Nat) (b : List Byte) (x : NextRound) (s : State) : State :=
  let lo := offset % 128
  let m := (s.fpUnit n).mark e true x.mask (offset / 128) lo (lo + b.length - 1)
  s.onUnit n (fun _ =>
    { m.2 with nexts := (m.2.nexts.filter (fun y => y.page != e)) ++
      [{ page := e, accumulator := x.accumulator ^^^ contribution k offset b, mask := m.1 }] })

/-- R177: one served segment of a page. -/
def State.serveSegment (n : Fin 12) (e offset : Nat) (b : List Byte) (s : State) : State :=
  let x := s.fpEntry e
  let u := s.fpUnit n
  let lo := offset % 128
  let hi := lo + b.length - 1
  match x.st, u.key with
  | .armed, some k =>
    if u.fits e false x.mask (offset / 128) lo hi then
      let m := u.mark e false x.mask (offset / 128) lo hi
      ((s.onUnit n (fun _ => m.2)).onEntry e (fun x =>
        { x with accumulator := x.accumulator ^^^ contribution k offset b, mask := m.1 })).compare n e false x.mask
    else
      let s := s.beginClosing n e
      if u.nexts.length < 8 && u.fits e true 0 (offset / 128) lo hi then
        s.addNext n k e offset b { page := e, accumulator := 0, mask := 0 }
      else s.unchecked n b.length
  | .closing, some k =>
    match u.nexts.find? (fun y => y.page == e) with
    | some y =>
      if u.fits e true y.mask (offset / 128) lo hi then s.addNext n k e offset b y else s.unchecked n b.length
    | none => s.unchecked n b.length
  | _, _ => s.unchecked n b.length

/-- R170, R177: a run of served octets of a region, from an octet address of its chip select (R123). -/
def State.serveRun (n : Fin 12) (r : Nat) (d : RegionDef) (cs addr : Nat) (b : List Byte) (s : State) : State :=
  s.forAll (cutRun addr b) (fun (x : Nat × List Byte) s =>
    match s.entryOf n r d (cs * 65536 + x.1 / 4096) with
    | some e => s.serveSegment n e (x.1 % 4096) x.2
    | none => s.unchecked n x.2.length)

/-- R178: the offsets of a current round that are not covered, ascending. -/
def State.uncovered (s : State) (n : Fin 12) (e : Nat) : List Nat :=
  let x := s.fpEntry e
  let open_ := (s.fpUnit n).ranges.filter (fun r => r.page == e && !r.next)
  (List.range 4096).filter (fun i =>
    !x.mask.getLsbD (i / 128) && !open_.any (fun r => r.sub == i / 128 && r.lo ≤ i % 128 && i % 128 ≤ r.hi))

/-- FILL_IN (R178): the oldest queued fill-in has read the uncovered offsets. -/
def State.fillIn (n : Fin 12) (b : List Byte) (s : State) : State :=
  match (s.fpUnit n).fillIns, (s.fpUnit n).key with
  | e :: _, some k =>
    let offsets := s.uncovered n e
    if b.length != offsets.length then s
    else
      let x := s.fpEntry e
      let sum := (offsets.zip b).foldl (fun a (p : Nat × Byte) => a ^^^ contribution k p.1 [p.2]) 0
      let s := s.bumpWord (okey 0x2C00 8) 12 n.val b.length
      let s := s.onUnit n (fun u => { u with ranges := u.ranges.filter (fun r => r.page != e || r.next) })
      (s.onEntry e (fun x => { x with accumulator := x.accumulator ^^^ sum, mask := BitVec.allOnes 32 })).compare n e true x.mask
  | _, _ => s

/-- FILL_IN (R178). -/
def execFillIn (n : Fin 12) (octets : List Byte) (s : State) : Host.Outcome State Fault Refusal :=
  .next (s.whenLive (fun s => if s.modes.mode.serving && !s.modes.pfail then s.fillIn n octets else s))

/-- ROUND_AGE_VISIT (R180): a non-empty current round is marked aged, or begins closing when it was. -/
def State.ageVisit (n : Fin 12) (s : State) : State :=
  s.forAll (s.channelEntries n) (fun (e : Nat × FpEntry) s =>
    if e.2.st = .armed ∧ s.roundOpen n e.1 = true then
      if e.2.aged then s.beginClosing n e.1 else s.onEntry e.1 (fun x => { x with aged := true })
    else s)

/-- ROUND_AGE_VISIT (R180). -/
def execRoundAgeVisit (n : Fin 12) (s : State) : Host.Outcome State Fault Refusal :=
  .next (s.whenLive (fun s => if s.modes.mode.serving then s.ageVisit n else s))

/-- R191: every armed current round that is not empty begins closing. -/
def State.closeAll (s : State) : State :=
  s.forAll channels (fun n s =>
    s.forAll (s.channelEntries n) (fun (e : Nat × FpEntry) s =>
      if e.2.st = .armed ∧ s.roundOpen n e.1 = true then
        (s.beginClosing n e.1).onEntry e.1 (fun x => { x with sweepClosed := true })
      else s))

/-- SWEEP (R191). -/
def sweepAction : Action where
  arg := anyArg
  guard := fun _ _ s => if s.modes.mode.serving then 0 else modeRefused
  act := fun _ _ s => (((s.onCons (fun c => { c with sweeping := true, sweepLost := false })).closeAll).settleSweep, .busy)

/-- SWEEP (R191). -/
def execSweep (f : Frame) (s : State) : Host.Outcome State Fault Refusal := .next (s.runCmd (okey 0x2C00 0x20) f sweepAction)

/-- R191: an abort of the sweep: no round counts for it any more, and its object reads Aborted. -/
def State.abortSweep (s : State) : State :=
  (s.onCons (fun c =>
    { c with sweeping := false, sweepLost := false,
             entries := c.entries.map (fun e => (e.1, { e.2 with sweepClosed := false })) })).abortCmd (okey 0x2C00 0x20)
    actionAborted

/-! ## Exclusion and discards (R181, R182) -/

/-- R181: how many rounds of an entry that hold a served octet are discarded with it. -/
def State.openRounds (s : State) (n : Fin 12) (e : Nat) : Nat :=
  (if s.roundOpen n e then 1 else 0) + ((s.fpUnit n).nexts.filter (fun x => x.page == e)).length

/-- R181: an event of the unit. -/
def State.excludeEvent (n : Fin 12) (cause count : Nat) (s : State) : State :=
  if count = 0 then s else s.event 0x4F (detailOf 2 (n.val * 2 ^ 32 + cause * 2 ^ 24 + min count 0xFFFFFF))

/-- R181: takes one entry out of the check. -/
def State.excludeEntry (n : Fin 12) (e : Nat) (s : State) : State :=
  let lost := s.openRounds n e
  let s := (s.loseSwept e).onUnit n (FpUnit.forget e)
  ((s.onEntry e (fun x =>
      { x with st := .excluded, accumulator := 0, mask := 0, aged := false })).bumpWord (okey 0x2C00 6) 12 n.val).bumpWord
    (okey 0x2C00 7) 12 n.val lost

/-- R181: takes entries out of the check for a cause, with one event. -/
def State.exclude (n : Fin 12) (cause : Nat) (es : List Nat) (s : State) : State :=
  let live := es.filter (fun e => (s.fpEntry e).st == .armed || (s.fpEntry e).st == .closing)
  ((s.forAll live (State.excludeEntry n)).excludeEvent n cause live.length).settleSweep

/-- R181: a channel restart: each page that holds an open range or a next round starts again empty. -/
def State.restartRounds (n : Fin 12) (s : State) : State :=
  let u := s.fpUnit n
  let pages := (s.channelEntries n).filter (fun e =>
    u.ranges.any (fun r => r.page == e.1) || u.nexts.any (fun x => x.page == e.1))
  let lost := sumOf (pages.map (fun e => s.openRounds n e.1))
  let s := s.forAll pages (fun (e : Nat × FpEntry) s =>
    let s := (s.loseSwept e.1).onUnit n (FpUnit.forget e.1)
    s.onEntry e.1 (fun x => { x with accumulator := 0, mask := 0, st := .armed, aged := false }))
  ((s.bumpWord (okey 0x2C00 7) 12 n.val lost).excludeEvent n 3 lost).settleSweep

/-- R182: every round of the boot is discarded and counted as abandoned. -/
def State.abandonRounds (s : State) : State :=
  s.forAll channels (fun n s =>
    s.bumpWord (okey 0x2C00 7) 12 n.val (sumOf ((s.channelEntries n).map (fun e => s.openRounds n e.1))))

/-! ## Statistics (R189, R190, R192) -/

/-- R189: the body of a channel. -/
def State.statBody (s : State) (final incomplete : Bool) (n : Fin 12) : List Byte :=
  let c := fun (sub : Nat) => s.countOf (okey 0x2C00 sub) 12 n.val
  let flags := (if final then 1 else 0) + (if incomplete then 2 else 0) + (if (s.fpUnit n).failed then 4 else 0)
  beOctets 1 n.val ++ beOctets 1 flags ++ beOctets 6 (c 2) ++ beOctets 6 (c 3) ++ beOctets 3 (min (c 4) 0xFFFFFF) ++
    beOctets 6 (c 5) ++ beOctets 3 (min (c 6) 0xFFFFFF) ++ beOctets 3 (min (c 7) 0xFFFFFF) ++ beOctets 6 (c 8) ++
    beOctets 3 (min (c 9) 0xFFFFFF) ++ beOctets 6 ((s.fpUnit n).firstMismatch.getD 0) ++ List.replicate 4 0

/-- R192: the 12 bodies, all zero for a channel that is not enabled. -/
def State.statBodies (s : State) (final incomplete : Bool) : List Byte :=
  channels.flatMap (fun n =>
    if (s.chanDesc n).enabled then s.statBody final incomplete n else List.replicate 48 0)

/-- STATISTICS_SAVE (R190). -/
def State.saveStatistics (s : State) : State :=
  (s.put (okey 0x2C00 0x0C) (.octets (s.statBodies true false))).onLedger (fun l => { l with statsSaved := true })

/-- R192: the counters are cleared. -/
def State.clearStatistics (s : State) : State :=
  (s.forAll [2, 3, 4, 5, 6, 7, 8, 9] (fun sub => State.put (okey 0x2C00 sub) (.words (List.replicate 12 0)))).onCons
    (fun c => { c with units := c.units.map (fun u => { u with firstMismatch := none }) })

/-- 0x2C00:09: the pages armed at the end of Gate. -/
def State.countArmed (s : State) : State :=
  s.put (okey 0x2C00 9) (.words (channels.map (fun n =>
    BitVec.ofNat 48 ((s.channelEntries n).filter (fun e => e.2.st == .armed)).length)))

/-! ## Keys and allocation (R172, R173, R183) -/

/-- R172, R183: the previous key and every reference are discarded. -/
def State.clearFingerprints (s : State) : State :=
  s.onCons (fun c => { c with units := c.units.map (fun u =>
    { FpUnit.initial with firstMismatch := u.firstMismatch }), entries := [], sweeping := false, sweepLost := false })

/-- R172: draws words until one is not zero; none when the queue runs out. -/
def drawKey : List Word → Option (Word × List Word)
  | [] => none
  | w :: rest => if w = 0 then drawKey rest else some (w, rest)

/-- R172: a key from the DRBG. -/
def State.drawFingerprintKey (s : State) : Option (Word × State) :=
  (drawKey s.ent.queue).map (fun r => (r.1, s.onEnt (fun e => { e with queue := r.2 })))

/-- R173: a unit loads a key; one that fails the check takes a new key, up to 3 times, and is then failed for the boot. -/
def State.loadUnit (n : Fin 12) (k : Word) : Nat → State → State
  | 0, s => (s.onUnit n (fun u => { u with key := none, failed := true })).event 0x4F (detailOf 1 (n.val * 2 ^ 32))
  | tries + 1, s =>
    if keyValuesOk k then s.onUnit n (fun u => { u with key := some k, failed := false })
    else match s.drawFingerprintKey with
      | some (k', s) => s.loadUnit n k' tries
      | none => s.loadUnit n k tries

/-- R172: the key set-up of a Gate entry. -/
def State.keySetup (k : Word) (s : State) : State := s.forAll channels (fun n => State.loadUnit n k 3)

/-- R183: bases of the regions of the enabled channels from an entry number on, with the next free entry. -/
def allocateBases : Nat → List (Nat × Nat) → KMap Nat × Nat
  | e, [] => ([], e)
  | e, (k, pages) :: rest => let r := allocateBases (e + pages) rest; ((k, e) :: r.1, r.2)

/-- R183: regions that need entries, as channel × 64 + region with their pages. -/
def State.needsEntries (s : State) : List (Nat × Nat) :=
  channels.flatMap (fun n =>
    if (s.chanDesc n).enabled then (s.validRegions n).map (fun e => (n.val * 64 + e.1, e.2.pages)) else [])

/-- FINGERPRINT_ALLOCATION (R183). -/
def State.allocateEntries (s : State) : State :=
  let r := allocateBases 0 s.needsEntries
  s.onCons (fun c => { c with bases := r.1, allocated := r.2 })

/-- R173: after the third failure, every entry of the channel is excluded for the boot. -/
def State.excludeFailed (s : State) : State :=
  s.forAll channels (fun n s =>
    if (s.fpUnit n).failed then
      s.forAll (s.cons.bases.filter (fun b => b.1 / 64 == n.val)) (fun (b : Nat × Nat) s =>
        match s.regionDef n (b.1 % 64) with
        | some d => s.excludeUnarmed n b.2 d.pages
        | none => s)
    else s)

end Sys2Proof.Machine
end

