-- ==== Sys2Proof/Machine/Lanes.lean ====
section
/-! DEFINITION. Faults and self-tests of lanes and public-key units, and the streams by which a channel hashes its regions
(spec/09 R305, R306, R311 to R313; spec/10 R340, R341; spec/04 R130, R132). -/

namespace Sys2Proof.Machine

/-! ## Regions under pre-scan (R130, R132) -/

/-- The state of a region. -/
def State.region (s : State) (n : Fin 12) (r : Nat) : Region := (kget s.chans[n].regions r).getD Region.initial

/-- Updates a region's state. -/
def State.onRegion (n : Fin 12) (r : Nat) (f : Region → Region) (s : State) : State :=
  s.onChan n (fun c => { c with regions := kupd c.regions r Region.initial f })

/-- R130: the region that the channel pre-scans: the first valid one not hashed, once every earlier region of policy Recover
has its verdict (DEDUCED, notes/assumptions/44.md). -/
def State.scanning (s : State) (n : Fin 12) : Option (Nat × RegionDef) :=
  match (s.validRegions n).find? (fun e => !(s.region n e.1).hashed ||
      (e.2.policy == 2 && !(s.region n e.1).complete)) with
  | some e => if (s.region n e.1).hashed then none else some e
  | none => none

/-- R131: the region touches a chip select whose flash failed. -/
def State.onFaulty (s : State) (n : Fin 12) (d : RegionDef) : Bool :=
  (s.chans[n].flash[0].fault && d.start < 65536) || (s.chans[n].flash[1].fault && d.start + d.pages > 65536)

/-- R132, R175: a region's pre-scan has failed. -/
def State.unreadableRegion (n : Fin 12) (r : Nat) (d : RegionDef) (s : State) : State :=
  let s := s.onRegion n r (fun x => { x with hashed := true, unreadable := true, scanned := [], pinned := [] })
  match kget s.cons.bases (n.val * 64 + r) with
  | some b => s.excludeUnarmed n b d.pages
  | none => s

/-- R132: a region restarts from its first page. -/
def State.restartRegion (n : Fin 12) (r : Nat) (d : RegionDef) (s : State) : State :=
  let s := s.onRegion n r (fun x => { x with scanned := [], pinned := [], retries := 0 })
  match kget s.cons.bases (n.val * 64 + r) with
  | some b => s.clearRefs b d.pages
  | none => s

/-! ## Streams (R277, R306) -/

/-- The lane that hashes a channel's stream, 0xFF none. -/
def State.hashingOf (s : State) (n : Fin 12) : Nat := s.eng.hashing[n]

/-- Sets it. -/
def State.setHashing (n : Fin 12) (code : Nat) (s : State) : State :=
  s.onEng (fun e => { e with hashing := e.hashing.set n code })

/-- R306: the unfinished job of a channel's bound stream. -/
def State.streamJob (s : State) (n : Fin 12) : Option Nat :=
  (s.slotsWhere (fun j => j.requester == 4 + n.val && !j.st.isFinal)).head?

/-- R306: a bound stream's job: a SHA-2 job at urgency 15 from requester 4 + n. -/
def streamJobOf (n : Fin 12) (alg : Nat) : Job :=
  { jobOfWords (Vector.replicate 6 0) (4 + n.val) .monitor with
      op := BitVec.ofNat 8 ([2, 1, 3].getD alg 2), urgency := 15, st := .ready }

/-- R305, R306: a stream for the channel's next demand: on its bound lane, or a bound stream's job. False when neither
spare lane is in service, with the event. -/
def State.openStream (n : Fin 12) (alg : Nat) (s : State) : State × Bool :=
  if s.inService n.val then (s.setHashing n n.val, true)
  else if s.inService 12 || s.inService 13 then
    (((s.allocate (streamJobOf n alg)).1.setHashing n 0xFF).bump (okey 0x4100 6), true)
  else (((s.setHashing n 0xFF).bump (okey 0x4100 6)).event 0x51 0, false)

/-- R306: the stream's region has ended: its job is Done and freed. -/
def State.closeStream (n : Fin 12) (s : State) : State :=
  match s.streamJob n with
  | some slot => (s.endJob slot .done 0 0).setHashing n 0xFF
  | none => s

/-- The channel's stream runs: its lane is tested, idle of general jobs and not under test. -/
def State.streamReady (s : State) (n : Fin 12) : Bool :=
  let code := s.hashingOf n
  s.inService code && code != 0xFF && !(s.health code).testing && !(s.health code).untested &&
    (match s.runningOn code with
     | some slot => s.streamJob n == some slot
     | none => code == n.val)

/-- R130, R131, R306: moves on to the next region that can be read: opens its stream; regions of a failed flash, and
regions for which no lane is left, are unreadable. -/
def State.advanceScan (n : Fin 12) : Nat → State → State
  | 0, s => s
  | fuel + 1, s =>
    match s.scanning n with
    | none => s
    | some (r, d) =>
      if s.onFaulty n d then State.advanceScan n fuel (s.unreadableRegion n r d)
      else
        match s.openStream n d.digest with
        | (s, true) => s
        | (s, false) => State.advanceScan n fuel (s.unreadableRegion n r d)

/-- R306: the channel's stream is lost with its lane: the region restarts and finds another lane. -/
def State.takeOver (n : Fin 12) (s : State) : State :=
  match s.scanning n with
  | some (r, d) =>
    if s.modes.mode = .gate ∧ 2 ≤ s.chans[n].phase then
      let s := s.restartRegion n r d
      if (s.streamJob n).isSome then s.setHashing n 0xFF
      else if s.inService 12 || s.inService 13 then
        ((s.allocate (streamJobOf n d.digest)).1.setHashing n 0xFF).bump (okey 0x4100 6)
      else s.advanceScan n 65
    else s
  | none => s

/-- The channels whose stream a lane carries. -/
def State.streamsOn (s : State) (code : Nat) : List (Fin 12) :=
  channels.filter (fun n => s.hashingOf n == code && s.modes.mode == .gate && (s.scanning n).isSome)

/-! ## Faults and self-tests (R311 to R313, R340, R341) -/

/-- R312, R341: the run of self-tests loses an instance, and ends when none is left. -/
def State.settleRun (key : Nat) (run : Option (List Nat × Bool)) (code : Nat) (failed : Bool) (s : State) :
    State × Option (List Nat × Bool) :=
  match run with
  | none => (s, none)
  | some (l, f) =>
    let l' := l.filter (· != code)
    let f' := f || (failed && l.contains code)
    if l'.isEmpty then (if f' then s.failCmd key selfTestFailed else s.doneCmd key, none) else (s, some (l', f'))

/-- R312: the lanes' run. -/
def State.laneRan (code : Nat) (failed : Bool) (s : State) : State :=
  let r := s.settleRun (okey 0x4100 4) s.eng.laneRun code failed
  r.1.onEng (fun e => { e with laneRun := r.2 })

/-- R341: the units' run. -/
def State.unitRan (code : Nat) (failed : Bool) (s : State) : State :=
  let r := s.settleRun (okey 0x4200 4) s.eng.unitRun code failed
  r.1.onEng (fun e => { e with unitRun := r.2 })

/-- R280, R311, R340: an instance reports a fault: its job is re-placed and it is tested. -/
def State.instanceFault (code : Nat) (s : State) : State :=
  let s := s.onHealth code (fun h =>
    { h with testing := true, faultTimes := s.now :: h.faultTimes.filter (fun t => s.now < t + 3600 * second) })
  match s.runningOn code with
  | some slot => s.replaceJob slot
  | none => s

/-- R313: three faults within an hour of vigil time. -/
def State.worn (s : State) (code : Nat) : Bool := 3 ≤ (s.health code).faultTimes.length

/-- R313: an instance leaves service until the next device reset, and an event is logged. -/
def State.retireInstance (code cls source : Nat) (s : State) : State := (s.leaveService code cls).event source 0

/-- LANE_FAULT (R311). -/
def State.laneFault (i : Nat) (s : State) : State :=
  let code := laneCode i
  if !s.inService code then s
  else
    let streams := s.streamsOn code
    let s := (s.bumpWord (okey 0x4100 1) 18 i).instanceFault code
    let s := if s.worn code then (s.retireInstance code (laneClass i) 0x51).laneRan code false else s
    s.forAll streams State.takeOver

/-- LANE_FAULT (R311). -/
def execLaneFault (lane : Fin 18) (s : State) : Host.Outcome State Fault Refusal :=
  .next (s.whenLive (State.laneFault lane.val))

/-- R312, R341: a self-test of an instance is due. -/
def State.testDue (s : State) (code : Nat) (run : Option (List Nat × Bool)) (period : Nat) : Bool :=
  let h := s.health code
  s.inService code && (s.runningOn code).isNone &&
    (h.untested || h.testing || (match run with | some (l, _) => l.contains code | none => false) ||
      h.testedAt + period * second ≤ s.now)

/-- LANE_SELF_TEST (R312, R313): for a bound lane never during a region of its channel's pre-scan, but at the reset and
after a fault. -/
def State.laneTested (i : Nat) (pass : Bool) (s : State) : State :=
  let code := laneCode i
  let h := s.health code
  let scanning := !(s.streamsOn code).isEmpty && !h.untested && !h.testing
  if !s.testDue code s.eng.laneRun (s.objNum (okey 0x4100 3)) || scanning then s
  else if pass then
    (s.onHealth code (fun h => { h with testing := false, untested := false, testedAt := s.now })).laneRan code false
  else
    let streams := s.streamsOn code
    let s := ((s.bumpWord (okey 0x4100 2) 18 i).retireInstance code (laneClass i) 0x51).laneRan code true
    s.forAll streams State.takeOver

/-- LANE_SELF_TEST (R312). -/
def execLaneSelfTest (lane : Fin 18) (pass : Bool) (s : State) : Host.Outcome State Fault Refusal :=
  .next (s.whenLive (State.laneTested lane.val pass))

/-- UNIT_FAULT (R340). -/
def State.unitFault (i : Nat) (s : State) : State :=
  let code := unitCode i
  if !s.inService code then s
  else
    let s := (s.bumpWord (okey 0x4200 5) 3 i).instanceFault code
    if s.worn code then (s.retireInstance code (unitClass i) 0x52).unitRan code false else s

/-- UNIT_FAULT (R340). -/
def execUnitFault (unit : Fin 3) (s : State) : Host.Outcome State Fault Refusal :=
  .next (s.whenLive (State.unitFault unit.val))

/-- UNIT_SELF_TEST (R341). -/
def State.unitTested (i : Nat) (pass : Bool) (s : State) : State :=
  let code := unitCode i
  if !s.testDue code s.eng.unitRun (s.objNum (okey 0x4200 3)) then s
  else if pass then
    (s.onHealth code (fun h => { h with testing := false, untested := false, testedAt := s.now })).unitRan code false
  else (s.retireInstance code (unitClass i) 0x52).unitRan code true

/-- UNIT_SELF_TEST (R341). -/
def execUnitSelfTest (unit : Fin 3) (pass : Bool) (s : State) : Host.Outcome State Fault Refusal :=
  .next (s.whenLive (State.unitTested unit.val pass))

/-- Serve, Maintain and Ceremony only. -/
def servingOnly (_ : Asker) (_ : List Byte) (s : State) : Nat := if s.modes.mode.serving then 0 else modeRefused

/-- RUN_LANE_SELF_TEST (R312, R315): every lane in service runs its test in turn. -/
def runLanesAction : Action where
  arg := anyArg
  guard := servingOnly
  act := fun _ _ s =>
    let l := ((List.range 18).map laneCode).filter s.inService
    if l.isEmpty then (s, .done) else (s.onEng (fun e => { e with laneRun := some (l, false) }), .busy)

/-- RUN_LANE_SELF_TEST (R312). -/
def execRunLaneSelfTest (f : Frame) (s : State) : Host.Outcome State Fault Refusal :=
  .next (s.runCmd (okey 0x4100 4) f runLanesAction)

/-- RUN_UNIT_SELF_TEST (R341, R345). -/
def runUnitsAction : Action where
  arg := anyArg
  guard := servingOnly
  act := fun _ _ s =>
    let l := ((List.range 3).map unitCode).filter s.inService
    if l.isEmpty then (s, .done) else (s.onEng (fun e => { e with unitRun := some (l, false) }), .busy)

/-- RUN_UNIT_SELF_TEST (R341). -/
def execRunUnitSelfTest (f : Frame) (s : State) : Host.Outcome State Fault Refusal :=
  .next (s.runCmd (okey 0x4200 4) f runUnitsAction)

/-- R315, R345: an abort of a run of self-tests. -/
def State.abortLaneRun (s : State) : State :=
  (s.onEng (fun e => { e with laneRun := none })).abortCmd (okey 0x4100 4) actionAborted

/-- R345: an abort of the units' run. -/
def State.abortUnitRun (s : State) : State :=
  (s.onEng (fun e => { e with unitRun := none })).abortCmd (okey 0x4200 4) actionAborted

end Sys2Proof.Machine
end

