-- ==== Sys2Proof/Machine/ChannelGate.lean ====
section
/-! DEFINITION. Gate on one channel: flash initialisation, pre-scan, manifests, verdicts, recovery, halt override; and DQS
training (spec/04_measurement_channels.md, R130 to R144, R161 to R163). -/

namespace Sys2Proof.Machine

/-! ## Training (R161, R162) -/

/-- Longest run of passing reads: from a position on, with the best (start, length) so far and the present one. -/
def longestRun : List Bool → Nat → Nat × Nat → Nat × Nat → Nat × Nat
  | [], _, best, cur => if cur.2 > best.2 then cur else best
  | b :: rest, i, best, cur =>
    if b then longestRun rest (i + 1) best (if cur.2 = 0 then (i, 1) else (cur.1, cur.2 + 1))
    else longestRun rest (i + 1) (if cur.2 > best.2 then cur else best) (0, 0)

/-- R162: centre tap and width of the window; the reads stand at every second tap, and the width counts the taps from the
first passing read to the last (DEDUCED, notes/assumptions/45.md). -/
def dqsWindow (taps : List Bool) : Nat × Nat :=
  let r := longestRun (taps.take 64) 0 (0, 0) (0, 0)
  if r.2 = 0 then (0, 0) else (2 * r.1 + (r.2 - 1), 2 * (r.2 - 1) + 1)

/-- The die temperature: sensor A0 of 0x6000:01, in its 16-bit format (R386). -/
def State.dieTemperature (s : State) : Int := signed 16 (beNat ((s.objOctets (okey 0x6000 1)).take 2))

/-- The objects of 0x2n05 after a training (R161, R167). -/
def State.trained (n : Fin 12) (cs : Fin 2) (delay width tapSize : Nat) (s : State) : State :=
  let s := s.onChan n (fun c =>
    { c with flash := c.flash.set cs { c.flash[cs] with delay, window := width }, trainedAt := s.now,
             trainedTemp := s.dieTemperature })
  (((s.putNum (ckey 5 n 1) (min tapSize 0xFFFF)).putNum (ckey 5 n 2) delay).putNum (ckey 5 n 3) width).bump (ckey 5 n 4)

/-- R162: a window of 8 to 15 taps is logged. -/
def State.marginLow (n : Fin 12) (cs width : Nat) (s : State) : State :=
  if 8 ≤ width ∧ width ≤ 15 then s.event (0x40 + n.val) (detailOf 1 (cs * 2 ^ 32 + width)) else s

/-- R131, R162, R164: the Flash fault phase with its cause. -/
def State.flashFaulty (n : Fin 12) (cs : Fin 2) (cause : Nat) (s : State) : State :=
  (s.onChan n (fun c =>
    { c with phase := 8, flash := c.flash.set cs { c.flash[cs] with ready := false, fault := true } })).event (0x40 + n.val)
    (detailOf 5 (cs.val * 2 ^ 32 + cause * 2 ^ 24))

/-- R131: the outcome of an initialisation: 0, or the cause of R611. A density above 16 MiB disagrees with 3-octet flash
addresses (DEDUCED, notes/assumptions/43.md). -/
def initCause (d : ChanDesc) (r : FlashReply) : Nat :=
  if !r.answered || (r.density > 27 && !d.flashAddr4) then 1
  else if (dqsWindow r.taps).2 < 8 then 2
  else 0

/-- R131: initialises the flash of one chip select. -/
def State.initFlash (n : Fin 12) (cs : Fin 2) (r : FlashReply) (s : State) : State :=
  let cause := initCause (s.chanDesc n) r
  if cause != 0 then s.flashFaulty n cs cause
  else
    let w := dqsWindow r.taps
    let s := s.onChan n (fun c =>
      { c with flash := c.flash.set cs { c.flash[cs] with ready := true, fault := false, id := r.id, sfdp := r.sfdp,
                                                          density := r.density } })
    (s.trained n cs w.1 w.2 r.tapSize).marginLow n cs.val w.2

/-- R131: the initialisation of a chip select has ended or is not needed. -/
def State.initDone (s : State) (n : Fin 12) (cs : Fin 2) : Bool :=
  !(s.chanDesc n).hasFlash cs.val || s.chans[n].flash[cs].ready || s.chans[n].flash[cs].fault

/-! ## Completion of a channel (R140) -/

/-- R140: the channel is complete: its initialisation has ended and all its regions are. -/
def State.chanComplete (s : State) (n : Fin 12) : Bool :=
  s.initDone n 0 && s.initDone n 1 && (s.validRegions n).all (fun e => (s.region n e.1).complete)

/-- R20: every enabled channel is complete. -/
def State.allComplete (s : State) : Bool := channels.all (fun n => !(s.chanDesc n).enabled || s.chanComplete n)

/-- R140: a channel that has become complete says so. -/
def State.checkComplete (n : Fin 12) (s : State) : State :=
  if s.chanComplete n && s.modes.mode == .gate then
    let s := s.onChan n (fun c => { c with phase := if s.halted n then 6 else 4 })
    if s.allComplete then s.onLedger (fun l => { l with lastRegion := s.now }) else s
  else s

/-! ## Initialisation (R131) -/

/-- CHANNEL_FLASH_INIT (R131): in Gate, on a chip select that holds a flash and is not initialised. -/
def State.channelInit (n : Fin 12) (cs : Fin 2) (r : FlashReply) (s : State) : State :=
  if s.modes.mode != .gate || !(s.chanDesc n).enabled || s.initDone n cs then s
  else
    let s := s.initFlash n cs r
    if s.initDone n 0 && s.initDone n 1 then
      let s := if s.chans[n].phase = 8 then s else s.onChan n (fun c => { c with phase := 2 })
      (s.advanceScan n 65).checkComplete n
    else s

/-- CHANNEL_FLASH_INIT (R131). -/
def execChannelFlashInit (n : Fin 12) (cs : Fin 2) (r : FlashReply) (s : State) : Host.Outcome State Fault Refusal :=
  .next (s.whenLive (State.channelInit n cs r))

/-! ## Pre-scan (R132) -/

/-- R132: octets of a burst that remain in the region. -/
def State.burstRoom (s : State) (n : Fin 12) (r : Nat) (d : RegionDef) : Nat :=
  min 65536 (4096 * d.pages - (s.region n r).scanned.length)

/-- R132, R138: a region whose every page has been read. -/
def State.hashRegion (n : Fin 12) (r : Nat) (d : RegionDef) (s : State) : State :=
  let x := s.region n r
  if x.scanned.length = 4096 * d.pages then
    let s := s.onRegion n r (fun x => { x with hashed := true, digest := regionHash d.digest x.scanned })
    (s.closeStream n).advanceScan n 65
  else s

/-- The lane counts octets (0x4100:05). -/
def State.countLane (code octets : Nat) (s : State) : State := s.wrapWord (okey 0x4100 5) 18 (laneIndex code) octets

/-- PRESCAN_BURST (R132): the next burst of the region under pre-scan. -/
def State.prescan (n : Fin 12) (b : List Byte) (s : State) : State :=
  match s.scanning n with
  | none => s
  | some (r, d) =>
    if s.modes.mode != .gate || !(2 ≤ s.chans[n].phase) || !s.initDone n 0 || !s.initDone n 1 || !s.streamReady n ||
        b.isEmpty || s.burstRoom n r d < b.length then s
    else
      let offset := (s.region n r).scanned.length
      let s := match kget s.cons.bases (n.val * 64 + r) with
        | some base => s.refRun n base offset b
        | none => s
      let s := s.countLane (s.hashingOf n) b.length
      let s := s.onRegion n r (fun x =>
        { x with scanned := x.scanned ++ b, retries := 0, pinned := if d.isPinned then x.pinned ++ b else x.pinned })
      s.hashRegion n r d

/-- PRESCAN_BURST (R132). -/
def execPrescanBurst (n : Fin 12) (octets : List Byte) (s : State) : Host.Outcome State Fault Refusal :=
  .next (s.whenLive (State.prescan n octets))

/-- PRESCAN_BURST_STALL (R132): an attempt of the burst failed; the third failure leaves the region unreadable. -/
def State.prescanStall (n : Fin 12) (s : State) : State :=
  match s.scanning n with
  | none => s
  | some (r, d) =>
    if s.modes.mode != .gate || !(2 ≤ s.chans[n].phase) || !s.streamReady n then s
    else if (s.region n r).retries ≥ 2 then ((s.unreadableRegion n r d).closeStream n).advanceScan n 65
    else s.onRegion n r (fun x => { x with retries := x.retries + 1 })

/-- PRESCAN_BURST_STALL (R132). -/
def execPrescanBurstStall (n : Fin 12) (s : State) : Host.Outcome State Fault Refusal :=
  .next (s.whenLive (State.prescanStall n))

/-! ## Manifests (R134, R135) -/

/-- One entry of a manifest. -/
structure ManifestEntry where
  tag : Nat
  pages : Nat
  digest : List Byte
deriving DecidableEq, Repr

/-- One signature of a manifest. -/
structure ManifestSig where
  algorithm : Nat
  key : List Byte
  signature : List Byte
deriving DecidableEq, Repr

/-- A manifest's fields (R134). -/
structure Manifest where
  id : Nat
  version : Nat
  algorithm : Nat
  entries : List ManifestEntry
  /-- Octets 0 to the end of the entries. -/
  signed : List Byte
  sigs : List ManifestSig
deriving DecidableEq, Repr

/-- R134: digest length of an algorithm octet. -/
def manifestDigestLength (alg : Nat) : Nat := [0, 32, 48, 64].getD alg 0

/-- R127, R134: the digest code of a region for a manifest's algorithm octet. -/
def manifestAlgorithm (regionDigest : Nat) : Nat := [2, 1, 3].getD regionDigest 0

/-- R134: entries of a manifest. -/
def parseEntries (d : Nat) : Nat → List Byte → List ManifestEntry
  | 0, _ => []
  | n + 1, b =>
    { tag := beNat (b.take 3), pages := beNat ((b.drop 3).take 3), digest := (b.drop 6).take d } ::
      parseEntries d n (b.drop (6 + d))

/-- R134: signatures of a manifest, which end it. -/
def parseSigs : Nat → List Byte → Option (List ManifestSig)
  | 0, b => if b.isEmpty then some [] else none
  | n + 1, b =>
    let k := beNat ((b.drop 1).take 2)
    let g := beNat ((b.drop (3 + k)).take 2)
    let alg := beNat (b.take 1)
    if b.length < 5 + k + g || alg < 1 || 6 < alg then none
    else (parseSigs n (b.drop (5 + k + g))).map (fun l =>
      { algorithm := alg, key := (b.drop 3).take k, signature := (b.drop (5 + k)).take g } :: l)

/-- R134: reads a manifest. -/
def parseManifest (b : List Byte) : Option Manifest :=
  let alg := beNat ((b.drop 13).take 1)
  let count := beNat ((b.drop 14).take 2)
  let d := manifestDigestLength alg
  let size := 16 + count * (6 + d)
  let sigCount := beNat ((b.drop size).take 1)
  if b.take 4 != [0x4E, 0x4D, 0x46, 0x31] || d == 0 || count < 1 || 1024 < count || 32768 < b.length ||
      b.length ≤ size || sigCount < 1 || 4 < sigCount then none
  else (parseSigs sigCount (b.drop (size + 1))).map (fun sigs =>
    { id := beNat ((b.drop 4).take 3), version := beNat ((b.drop 7).take 6), algorithm := alg,
      entries := parseEntries d count (b.drop 16), signed := b.take size, sigs })

/-- R135: the manifest digest. -/
def Manifest.digest (m : Manifest) : List Byte := sha384 m.signed

/-- R135: the key digest. -/
def Manifest.keyDigest (m : Manifest) : List Byte :=
  sha384 (m.sigs.flatMap (fun x => beOctets 1 x.algorithm ++ beOctets 2 x.key.length ++ x.key))

/-- R134, R135: a signature verifies over the manifest digest. -/
def ManifestSig.verifies (x : ManifestSig) (digest : List Byte) : Bool :=
  match x.algorithm with
  | 1 => Config.ecdsaVerify 1 x.key digest x.signature
  | 2 => Config.ecdsaVerify 2 x.key digest x.signature
  | 3 => Config.mldsaVerify 65 x.key digest [] x.signature
  | 4 => Config.mldsaVerify 87 x.key digest [] x.signature
  | a => Config.signatureVerify a x.key digest x.signature

/-- R135: the four anchors of a 192-octet value; an all-zero one admits none. -/
def anchorsOf (b : List Byte) : List (List Byte) :=
  ([0, 1, 2, 3].map (fun i => (b.drop (48 * i)).take 48)).filter (fun a => a.any (· != 0))

/-- R135: the first two conditions of acceptance. -/
def Manifest.anchored (m : Manifest) (anchors : List Byte) : Bool :=
  m.sigs.all (fun x => x.verifies m.digest) && (anchorsOf anchors).contains m.keyDigest

/-- The minimum version of a slot (0x2n01:11 to :18). -/
def State.slotMinimum (s : State) (n : Fin 12) (slot : Nat) : Nat := s.objNum (ckey 1 n (0x11 + slot))

/-- R135, R232: the status of a manifest in force: 1 accepted, 2 invalid, 3 below the minimum version. -/
def State.manifestStatus (s : State) (n : Fin 12) (slot : Nat) (b : List Byte) : Nat :=
  match parseManifest b with
  | none => 2
  | some m =>
    if !m.anchored s.chans[n].anchors then 2 else if m.version < s.slotMinimum n slot then 3 else 1

/-- MANIFEST_VERIFICATION (R135). -/
def State.verifyManifests (n : Fin 12) (s : State) : State :=
  if s.modes.mode != .gate || !(s.chanDesc n).enabled || s.chans[n].manifestsDecided then s
  else s.onChan n (fun c =>
    { c with manifestsDecided := true, status := c.manifests.map (fun e => (e.1, s.manifestStatus n e.1 e.2)) })

/-- MANIFEST_VERIFICATION (R135). -/
def execManifestVerification (n : Fin 12) (s : State) : Host.Outcome State Fault Refusal :=
  .next (s.whenLive (State.verifyManifests n))

/-- R135: the manifest accepted in a slot at this Gate. -/
def State.acceptedManifest (s : State) (n : Fin 12) (slot : Nat) : Option Manifest :=
  if kget s.chans[n].status slot = some 1 then (kget s.chans[n].manifests slot).bind parseManifest else none

/-- R137: the manifest entry of a region: its tag, with its pages and digest algorithm. -/
def State.manifestEntry (s : State) (n : Fin 12) (d : RegionDef) : Option ManifestEntry :=
  match s.acceptedManifest n d.slot with
  | none => none
  | some m =>
    if m.algorithm != manifestAlgorithm d.digest then none
    else m.entries.find? (fun e => e.tag == d.tag) |>.filter (fun e => e.pages == d.pages)

/-! ## Verdicts (R137 to R140) -/

/-- R137: the verdict of a region before its policy acts. -/
def State.rawVerdict (s : State) (n : Fin 12) (r : Nat) (d : RegionDef) : Nat :=
  let x := s.region n r
  if x.unreadable then 5
  else if d.policy = 0 then 2
  else match s.manifestEntry n d with
  | none => 4
  | some e => if e.digest = x.digest then 1 else 3

/-- R139, R140: a region's verdict is final. -/
def State.finishRegion (n : Fin 12) (r : Nat) (d : RegionDef) (v : Nat) (s : State) : State :=
  let s := s.onRegion n r (fun x =>
    { x with verdict := v, complete := true, recovering := none,
             fromCommons := if v = 6 then d.isPinned || d.recoverySource != 1 else d.isPinned && v != 5 && v != 7 })
  s.checkComplete n

/-- R139: the recovery can be read: its manifest entry is there and its flash, if any, is ready. -/
def State.canRecover (s : State) (n : Fin 12) (d : RegionDef) : Bool :=
  (s.manifestEntry n d).isSome &&
    (d.recoverySource == 2 ||
      ((d.recoveryPage ≥ 65536 || s.chans[n].flash[0].ready) &&
       (d.recoveryPage + d.pages ≤ 65536 || s.chans[n].flash[1].ready)))

/-- After a region's verdict the next one is read. -/
def State.scanOn (n : Fin 12) (s : State) : State :=
  if s.modes.mode = .gate ∧ s.chans[n].phase = 3 then
    ((s.onChan n (fun c => { c with phase := if c.flash[0].fault || c.flash[1].fault then 8 else 2 })).advanceScan n 65).checkComplete
      n
  else s

/-- R139: recovery begins. -/
def State.beginRecovery (n : Fin 12) (r : Nat) (d : RegionDef) (s : State) : State :=
  let s := s.onChan n (fun c => { c with phase := 3 })
  if s.canRecover n d then
    match s.openStream n d.digest with
    | (s, true) => s.onRegion n r (fun x =>
        { x with recovering := some (if d.recoverySource = 2 then .card else .flashRange) })
    | (s, false) => (s.finishRegion n r d 7).scanOn n
  else (s.finishRegion n r d 7).scanOn n

/-- REGION_VERDICT (R138): the region is hashed, or its pre-scan has failed, and the manifests are decided. -/
def State.regionVerdict (n : Fin 12) (r : Nat) (s : State) : State :=
  match s.regionDef n r with
  | none => s
  | some d =>
    let x := s.region n r
    if s.modes.mode != .gate || !d.valid || !x.hashed || x.complete || x.recovering.isSome ||
        !s.chans[n].manifestsDecided then s
    else
      let v := s.rawVerdict n r d
      let s := if d.policy = 1 ∧ v ≠ 1 then s.event (0x40 + n.val) (detailOf 2 (r * 2 ^ 32 + v * 2 ^ 24)) else s
      if d.policy = 2 ∧ v ≠ 1 then s.beginRecovery n r d
      else
        let s := s.finishRegion n r d (if d.policy = 3 ∧ v ≠ 1 then 7 else v)
        if d.policy = 2 then (s.advanceScan n 65).checkComplete n else s

/-- REGION_VERDICT (R138). -/
def execRegionVerdict (n : Fin 12) (r : Fin 64) (s : State) : Host.Outcome State Fault Refusal :=
  .next (s.whenLive (State.regionVerdict n r.val))

/-- R139, R175: the content of a verified recovery takes the region's place. -/
def State.recovered (n : Fin 12) (r : Nat) (d : RegionDef) (digest b : List Byte) (s : State) : State :=
  let s := match d.recoverySource, kget s.cons.bases (n.val * 64 + r) with
    | 1, some base => (s.clearRefs base d.pages).refRun n base 0 b
    | _, _ => s
  s.onRegion n r (fun x =>
    { x with digest := digest, pinned := if d.isPinned || d.recoverySource != 1 then b else x.pinned })

/-- RECOVERY_COMPLETE (R139): the content read, or none. -/
def State.recoveryComplete (n : Fin 12) (r : Nat) (content : Option (List Byte)) (s : State) : State :=
  match s.regionDef n r, (s.region n r).recovering with
  | some d, some _ =>
    if s.modes.mode != .gate || !s.streamReady n then s
    else
      let s := s.closeStream n
      let good := match content, s.manifestEntry n d with
        | some b, some e => if b.length = 4096 * d.pages ∧ regionHash d.digest b = e.digest then some (b, e.digest) else none
        | _, _ => none
      match good with
      | some (b, e) => (((s.countLane (s.hashingOf n) b.length).recovered n r d e b).finishRegion n r d 6).scanOn n
      | none => (s.finishRegion n r d 7).scanOn n
  | _, _ => s

/-- RECOVERY_COMPLETE (R139). -/
def execRecoveryComplete (n : Fin 12) (r : Fin 64) (content : Option (List Byte)) (s : State) :
    Host.Outcome State Fault Refusal :=
  .next (s.whenLive (State.recoveryComplete n r.val content))

/-- MANIFEST_MINIMUM_RAISE (R136): at the primary record each slot's minimum rises to its accepted manifest's version when
every region bound to it took MATCH. -/
def State.raiseMinimums (s : State) : State :=
  s.forAll channels (fun n s =>
    s.forAll (List.range 8) (fun slot s =>
      match s.acceptedManifest n slot with
      | some m =>
        if (s.validRegions n).all (fun e => e.2.slot != slot || (s.region n e.1).verdict == 1) then
          s.putNum (ckey 1 n (0x11 + slot)) (max (s.slotMinimum n slot) m.version)
        else s
      | none => s))

/-- PRIMARY_RECORD_LATE (R35): 2 s after the last region of the Gate phase the primary record is not appended. A record that
waits for room under Hold is no outage of the N4812's own (R36, R248). -/
def execPrimaryRecordLate (s : State) : Host.Outcome State Fault Refusal :=
  .next (s.whenLive (fun s =>
    if s.modes.mode = .gate ∧ s.allComplete = true ∧ s.ledger.full = false then s.primaryOutage true else s))

/-! ## Halt override (R142) -/

/-- R142: the channel's HALTED regions become OVERRIDDEN. -/
def State.overrideRegions (n : Fin 12) (officers : Option (Nat × Nat)) (s : State) : State :=
  s.forAll s.chans[n].regions (fun (e : Nat × Region) s =>
    if e.2.verdict = 7 then
      (s.onRegion n e.1 (fun x => { x with verdict := 8, fromCommons := false })).pend
        (.verdict n.val e.1 8 7 2 s.now 0 officers)
    else s)

/-- HALT_OVERRIDE (R142) of channel n. -/
def haltOverrideAction (n : Fin 12) : Action where
  arg := anyArg
  guard := fun _ _ s =>
    if s.modes.mode != .serve then modeRefused else if s.halted n then 0 else channelNotHalted
  act := fun a _ s =>
    (((s.overrideRegions n a.officers).onChan n (fun c =>
      { c with phase := if c.phase = 6 then 5 else c.phase })).releaseAfterOverride n, .done)

/-- The channel of an object index 0x2n02. -/
def chanOfIndex (index : Nat) : Option (Fin 12) := channels.find? (fun n => index / 256 == 0x20 + n.val)

/-- HALT_OVERRIDE (R142): 0x2n02:05. -/
def execHaltOverride (f : Frame) (s : State) : Host.Outcome State Fault Refusal :=
  .next (match chanOfIndex f.index.toNat with
    | some n => s.runCmd (ckey 2 n 5) f (haltOverrideAction n)
    | none => s)

end Sys2Proof.Machine
end

