-- ==== Sys2Proof/Machine/HostPort.lean ====
section
/-! DEFINITION. The host ports: serving, emulation, command filtering, pinned reloads, retraining, faults and restarts
(spec/04_measurement_channels.md, R120 to R124, R145 to R147, R155 to R160, R163 to R165). -/

namespace Sys2Proof.Machine

/-! ## Which ports answer (R80, R120, R141, R166) -/

/-- R80, R141, R166: the port serves under policy: an enabled channel in Serve, Maintain or Ceremony, not halted, switched
on, in its serving phase or in Flash fault (R164). -/
def State.portEnabled (s : State) (n : Fin 12) : Bool :=
  let c := s.chans[n]
  s.modes.mode.serving && (s.chanDesc n).enabled && !s.halted n && c.port.st == FnState.on && (c.phase == 5 || c.phase == 8)

/-- R124: the port passes through to the flash. -/
def State.portPasses (s : State) (n : Fin 12) : Bool := s.modes.mode.passThrough && s.chans[n].phase == 9

/-- The port answers on a chip select (R80, R120). -/
def State.portAnswers (s : State) (n : Fin 12) (cs : Fin 2) : Bool :=
  (s.portEnabled n || s.portPasses n) && (s.chanDesc n).presents cs.val

/-- An emulated device. -/
def State.emu (s : State) (n : Fin 12) (cs : Fin 2) : EmuDevice := s.chans[n].emu[cs]

/-- Updates an emulated device. -/
def State.onEmu (n : Fin 12) (cs : Fin 2) (f : EmuDevice → EmuDevice) (s : State) : State :=
  s.onChan n (fun c => { c with emu := c.emu.set cs (f c.emu[cs]) })

/-- R157: the descriptor's start values. -/
def EmuDevice.restart (d : ChanDesc) (e : EmuDevice) : EmuDevice :=
  { e with protocol := d.startProtocol, addr4 := d.startAddr4, writeEnable := false, deepDown := false, resetArmed := false }

/-- R157: both emulated devices of a channel take their start values. -/
def State.restartEmu (n : Fin 12) (s : State) : State :=
  let d := s.chanDesc n
  (s.onEmu n 0 (EmuDevice.restart d)).onEmu n 1 (EmuDevice.restart d)

/-- R157, R158: a host command on an answering port: while in deep power-down only 0xAB and 0x66 are answered (and 0x99
after 0x66). Any command but 0x99 ends an armed soft reset unless it arms it. -/
def State.hostCommand (n : Fin 12) (cs : Fin 2) (opcode : Nat) (f : State → State) (s : State) : State :=
  let e := s.emu n cs
  let woken := opcode == 0xAB || opcode == 0x66 || (opcode == 0x99 && e.resetArmed)
  if !s.live || !s.portAnswers n cs || (e.deepDown && !woken) then s
  else (f s).onEmu n cs (fun x => { x with resetArmed := opcode == 0x66 })

/-- Octets that the host port drives. -/
def State.drive (n : Fin 12) (cs : Fin 2) (b : List Byte) (s : State) : State := s.send (.host n cs b)

/-! ## Fast reads (R145 to R147, R155, R158) -/

/-- R158: protocols in which an opcode is a fast read (DEDUCED, notes/assumptions/46.md). -/
def readProtocols (opcode : Nat) : List Nat :=
  if opcode = 0x0B ∨ opcode = 0x0C then [0, 4, 5]
  else if opcode = 0x6B ∨ opcode = 0x6C then [1]
  else if opcode = 0xEB then [2, 3]
  else if opcode = 0xEC then [2, 3, 4, 5]
  else if opcode = 0xEE then [4, 5]
  else []

/-- R121: commands in the one-bit form are shared by protocols 0 to 2, of which the mask decides. -/
def runsProtocol (d : ChanDesc) (now p : Nat) : Bool := p == now || (p ≤ 2 && now ≤ 2 && d.masks p)

/-- R148: opcodes with four address octets whatever the address mode. -/
def fourOctets (opcode : Nat) : Bool := [0x0C, 0x6C, 0xEC, 0x12, 0x34, 0x21, 0xDC].contains opcode

/-- R123: an octet address of the emulated device, which wraps at its end. -/
def State.wrapAddress (s : State) (n : Fin 12) (cs : Fin 2) (a : Nat) : Nat :=
  let size := 2 ^ (s.chans[n].flash[cs].density - 3)
  if s.chans[n].flash[cs].density < 3 then a else a % size

/-- R121, R123, R157: the address of the device that the host's address octets give. -/
def State.hostAddress (s : State) (n : Fin 12) (cs : Fin 2) (opcode addr : Nat) : Nat :=
  let e := s.emu n cs
  s.wrapAddress n cs (if fourOctets opcode || e.addr4 || 4 ≤ e.protocol then addr % 2 ^ 32 else addr % 2 ^ 24)

/-- Where an octet of a host read comes from (R145). -/
inductive HostSource
  | outside
  | commons (r : Nat)
  | flash (r : Option (Nat × RegionDef))
deriving DecidableEq, Repr

/-- R145: the source of the octet at an address. -/
def State.hostSource (s : State) (n : Fin 12) (cs : Fin 2) (a : Nat) : HostSource :=
  if s.portPasses n then .flash none
  else match s.regionAt n (cs.val * 65536 + a / 4096) with
  | none => .outside
  | some (r, d) => if (s.region n r).fromCommons then .commons r else .flash (some (r, d))

/-- The octet that a region's reservation holds for an address (R128). -/
def State.pinnedOctet (s : State) (n : Fin 12) (r : Nat) (cs a : Nat) : Byte :=
  match s.regionDef n r with
  | some d => (s.region n r).pinned.getD ((cs * 65536 + a / 4096 - d.start) * 4096 + a % 4096) 0xFF
  | none => 0xFF

/-- One octet of a host read: source, address and value. -/
structure HostOctet where
  source : HostSource
  addr : Nat
  value : Byte
deriving DecidableEq, Repr

/-- R145: octet i of a read, the flash stream giving its octets at the same places. -/
def State.hostOctet (s : State) (n : Fin 12) (cs : Fin 2) (addr : Nat) (flash : List Byte) (i : Nat) : HostOctet :=
  let a := s.wrapAddress n cs (addr + i)
  let src := s.hostSource n cs a
  { source := src, addr := a,
    value := match src with
      | .outside => 0xFF
      | .commons r => s.pinnedOctet n r cs.val a
      | .flash _ => flash.getD i 0xFF }

/-- R147: octets driven before one that the flash has not delivered. -/
def driven (delivered : Nat) : Nat → List HostOctet → List HostOctet
  | _, [] => []
  | i, o :: rest =>
    match o.source with
    | .flash _ => if i < delivered then o :: driven delivered (i + 1) rest else []
    | _ => o :: driven delivered (i + 1) rest

/-- A run of served flash octets of one region. -/
structure HostRun where
  region : Nat × RegionDef
  addr : Nat
  octets : List Byte
deriving DecidableEq, Repr

/-- R174: the runs of consecutive flash octets. -/
def runsOf : List HostOctet → List HostRun
  | [] => []
  | o :: rest =>
    match o.source with
    | .flash (some x) =>
      match runsOf rest with
      | r :: more =>
        if r.region = x ∧ r.addr = o.addr + 1 then { r with addr := o.addr, octets := o.value :: r.octets } :: more
        else { region := x, addr := o.addr, octets := [o.value] } :: r :: more
      | [] => [{ region := x, addr := o.addr, octets := [o.value] }]
    | _ => runsOf rest

/-- R155, R28: a read of a region's reservation ended UNCORRECTABLE: counted, the alarm source raised, the region served from
flash and reloaded. -/
def State.pinnedFault (n : Fin 12) (r : Nat) (s : State) : State :=
  let s := ((s.bumpWord (okey 0x7100 0x41) 6 0).occur 0x24 4 0).onRegion n r (fun x =>
    { x with fromCommons := false, reloading := true })
  match s.regionDef n r with
  | some d => (s.openStream n d.digest).1
  | none => s

/-- R155: the octet at which the reservation's read fails, when it is a commons octet of the read. -/
def State.readFault (n : Fin 12) (cs : Fin 2) (addr len : Nat) (fault : Option Nat) (s : State) : State × Option (Nat × Nat) :=
  match fault with
  | none => (s, none)
  | some i =>
    if len ≤ i then (s, none)
    else match s.hostSource n cs (s.wrapAddress n cs (addr + i)) with
    | .commons r => (s.pinnedFault n r, some (i, r))
    | _ => (s, none)

/-- R146: a background flash read is in progress or queued. -/
def State.backgroundRead (s : State) (n : Fin 12) : Bool :=
  !(s.fpUnit n).fillIns.isEmpty || s.chans[n].regions.any (fun e => e.2.reloading)

/-- R164: a flash timeout in Serve; the sixteenth within a second begins the phase Flash fault. -/
def State.flashTimeout (n : Fin 12) (cs : Fin 2) (s : State) : State :=
  let s := s.bump (ckey 4 n 7)
  let recent := s.now :: s.chans[n].timeouts.filter (fun t => s.now < t + second)
  let s := s.onChan n (fun c => { c with timeouts := recent })
  if 16 ≤ recent.length ∧ s.chans[n].phase ≠ 8 then
    (s.onChan n (fun c => { c with phase := 8 })).event (0x40 + n.val) (detailOf 5 (cs.val * 2 ^ 32 + 3 * 2 ^ 24))
  else s

/-- R147, R164: a late read; `stopped`: the flash gave nothing within 1 µs of expected. -/
def State.lateRead (n : Fin 12) (cs : Fin 2) (stopped : Bool) (s : State) : State :=
  let s := (s.bump (ckey 4 n 8)).send (.hostFloat n cs)
  if s.portPasses n then s
  else (if stopped && s.chans[n].phase != 8 then s.flashTimeout n cs else s).portOutage n true

/-- R160: reads meet a pending forwarded operation that is not suspended. -/
def State.readsBlocked (s : State) (n : Fin 12) (cs : Fin 2) : Bool :=
  match s.chans[n].forwarded[cs] with
  | some f => !f.suspended
  | none => false

/-- HOST_FAST_READ (R145): a host read of `len` octets; `flash`: what the flash delivered in time, octet by octet;
`stopped`: the flash stopped responding. -/
def State.fastRead (n : Fin 12) (cs : Fin 2) (addr len : Nat) (flash : List Byte) (stopped : Bool) (fault : Option Nat)
    (s : State) : State :=
  let s := s.wrapBy (ckey 4 n 1) 1
  let s := if s.backgroundRead n then s.wrapBy (ckey 4 n 9) 1 else s
  if s.readsBlocked n cs then s.send (.hostFloat n cs)
  else
    let delivered := if s.chans[n].phase = 8 then 0 else flash.length
    let (s', failed) := s.readFault n cs addr len fault
    let octets := (List.range len).map (fun i =>
      match failed with
      | some (k, r) =>
        if i < k then s.hostOctet n cs addr flash i else s'.hostOctet n cs addr flash i
      | none => s.hostOctet n cs addr flash i)
    let d := driven delivered 0 octets
    let flashed := (d.filter (fun o => match o.source with | .flash _ => true | _ => false)).length
    let pinned := (d.filter (fun o => match o.source with | .commons _ => true | _ => false)).length
    let s := ((s'.wrapBy (ckey 4 n 2) flashed).wrapBy (ckey 4 n 3) pinned).drive n cs (d.map HostOctet.value)
    let s := s.forAll (runsOf d) (fun r => State.serveRun n r.region.1 r.region.2 cs.val r.addr r.octets)
    if d.length < len then s.lateRead n cs stopped else s.portOutage n false

/-- HOST_FAST_READ (R145). -/
def execHostFastRead (n : Fin 12) (cs : Fin 2) (opcode : Byte) (addr len : Nat) (flash : List Byte) (stopped : Bool)
    (memFault : Option Nat) (s : State) : Host.Outcome State Fault Refusal :=
  .next (s.hostCommand n cs opcode.toNat (fun s =>
    if (readProtocols opcode.toNat).any (runsProtocol (s.chanDesc n) (s.emu n cs).protocol) then
      s.fastRead n cs (s.hostAddress n cs opcode.toNat addr) len flash stopped memFault
    else s.bump (ckey 4 n 6)))

/-! ## Emulated commands (R148, R150, R157, R158) -/

/-- R126: the flash's own first three ID octets: those that its initialisation read, and free values (Config.flashId) where it
read none (notes/assumptions/117.md). -/
def State.ownId (s : State) (n : Fin 12) (cs : Fin 2) : List Byte :=
  (List.range 3).map (fun i => s.chans[n].flash[cs].id.getD i (Config.flashId n.val cs.val i))

/-- READ_ID (R158): the emulated ID, or the flash's own (R126). -/
def execReadId (n : Fin 12) (cs : Fin 2) (s : State) : Host.Outcome State Fault Refusal :=
  .next (s.hostCommand n cs 0x9F (fun s =>
    let id := (s.chanDesc n).emulatedId
    s.drive n cs (if id = 0 then s.ownId n cs else beOctets 3 id)))

/-- READ_SFDP (R148). -/
def execReadSfdp (n : Fin 12) (cs : Fin 2) (addr len : Nat) (s : State) : Host.Outcome State Fault Refusal :=
  .next (s.hostCommand n cs 0x5A (fun s => s.drive n cs ((List.range len).map (fun i => s.sfdpAt n cs (addr + i)))))

/-- READ_STATUS (R158): bit 0 busy, bit 1 write enable. -/
def execReadStatus (n : Fin 12) (cs : Fin 2) (s : State) : Host.Outcome State Fault Refusal :=
  .next (s.hostCommand n cs 0x05 (fun s =>
    let e := s.emu n cs
    s.drive n cs [BitVec.ofNat 8 ((if e.busy then 1 else 0) + (if e.writeEnable then 2 else 0))]))

/-- HOST_REGISTER_READ (R158): all data octets 0x00. -/
def execHostRegisterRead (n : Fin 12) (cs : Fin 2) (len : Nat) (s : State) : Host.Outcome State Fault Refusal :=
  .next (s.hostCommand n cs 0x15 (State.drive n cs (List.replicate len 0)))

/-- WRITE_ENABLE (R158). -/
def execWriteEnable (n : Fin 12) (cs : Fin 2) (s : State) : Host.Outcome State Fault Refusal :=
  .next (s.hostCommand n cs 0x06 (State.onEmu n cs (fun e => { e with writeEnable := true })))

/-- WRITE_DISABLE (R158). -/
def execWriteDisable (n : Fin 12) (cs : Fin 2) (s : State) : Host.Outcome State Fault Refusal :=
  .next (s.hostCommand n cs 0x04 (State.onEmu n cs (fun e => { e with writeEnable := false })))

/-- SET_HOST_PROTOCOL (R150): accepted with data 0x04 or 0x05, write enable set and the protocol's mask bit set. -/
def execSetHostProtocol (n : Fin 12) (cs : Fin 2) (data : Byte) (s : State) : Host.Outcome State Fault Refusal :=
  .next (s.hostCommand n cs 0x8D (fun s =>
    if (data.toNat = 4 ∨ data.toNat = 5) ∧ (s.emu n cs).writeEnable = true ∧ (s.chanDesc n).masks data.toNat = true then
      s.onEmu n cs (fun e => { e with protocol := data.toNat, writeEnable := false })
    else s))

/-- ENTER_4BYTE (R158). -/
def execEnter4Byte (n : Fin 12) (cs : Fin 2) (s : State) : Host.Outcome State Fault Refusal :=
  .next (s.hostCommand n cs 0xB7 (State.onEmu n cs (fun e => { e with addr4 := true })))

/-- EXIT_4BYTE (R158). -/
def execExit4Byte (n : Fin 12) (cs : Fin 2) (s : State) : Host.Outcome State Fault Refusal :=
  .next (s.hostCommand n cs 0xE9 (State.onEmu n cs (fun e => { e with addr4 := false })))

/-- RESET_ENABLE (R157): 0x66 arms the soft reset. -/
def execResetEnable (n : Fin 12) (cs : Fin 2) (s : State) : Host.Outcome State Fault Refusal :=
  .next (s.hostCommand n cs 0x66 id)

/-- SOFT_RESET (R157): 0x99 right after 0x66 returns the emulated state to its start values. -/
def execSoftReset (n : Fin 12) (cs : Fin 2) (s : State) : Host.Outcome State Fault Refusal :=
  .next (s.hostCommand n cs 0x99 (fun s =>
    if (s.emu n cs).resetArmed then s.onEmu n cs (EmuDevice.restart (s.chanDesc n)) else s))

/-- DEEP_POWER_DOWN (R158). -/
def execDeepPowerDown (n : Fin 12) (cs : Fin 2) (s : State) : Host.Outcome State Fault Refusal :=
  .next (s.hostCommand n cs 0xB9 (State.onEmu n cs (fun e => { e with deepDown := true })))

/-- RELEASE_DEEP_POWER_DOWN (R158). -/
def execReleaseDeepPowerDown (n : Fin 12) (cs : Fin 2) (s : State) : Host.Outcome State Fault Refusal :=
  .next (s.hostCommand n cs 0xAB (State.onEmu n cs (fun e => { e with deepDown := false })))

/-! ## Forwarded and refused commands (R158 to R160) -/

/-- REFUSED_COMMAND (R160). -/
def State.refuseHost (n : Fin 12) (cs : Fin 2) (s : State) : State :=
  let s := (s.onEmu n cs (fun e => { e with writeEnable := false })).bump (ckey 4 n 5)
  let c := s.chans[n]
  let quiet : Bool := match c.refusedEventAt with | some t => s.now < t + second | none => false
  if quiet then s.onChan n (fun c => { c with refusedSince := c.refusedSince + 1 })
  else (s.onChan n (fun c => { c with refusedSince := 0, refusedEventAt := some s.now })).event (0x40 + n.val)
    (detailOf 4 (cs.val * 2 ^ 32 + min (c.refusedSince + 1) (2 ^ 32 - 1)))

/-- R159: every page of a command lies in a region with write class Allow that is not RECOVERED. -/
def State.mayWritePages (s : State) (n : Fin 12) (pages : List Nat) : Bool :=
  pages.all (fun p => match s.regionAt n p with
    | some (r, d) => d.writeAllow && (s.region n r).verdict != 6
    | none => false)

/-- The entries of host-side pages. -/
def State.entriesOfPages (s : State) (n : Fin 12) (pages : List Nat) : List Nat :=
  pages.filterMap (fun p => (s.regionAt n p).bind (fun e => s.entryOf n e.1 e.2 p))

/-- R159, R181: sends a program or erase to the flash, write enable first; its pages leave the check. -/
def State.forwardHost (n : Fin 12) (cs : Fin 2) (octets : List Byte) (pages : List Nat) (erase : Bool) (s : State) : State :=
  let s := (s.send (.flash n cs [0x06])).send (.flash n cs octets)
  let s := s.onChan n (fun c => { c with forwarded := c.forwarded.set cs (some { pages, erase, suspended := false }) })
  let s := (s.onEmu n cs (fun e => { e with writeEnable := false, busy := true })).bump (ckey 4 n 4)
  s.exclude n 1 (s.entriesOfPages n pages)

/-- R159: a program or erase is forwarded or refused; in pass-through it is forwarded. -/
def State.writeHost (n : Fin 12) (cs : Fin 2) (octets : List Byte) (pages : List Nat) (erase : Bool) (s : State) : State :=
  let pending := s.chans[n].forwarded[cs].isSome
  if s.portPasses n || ((s.emu n cs).writeEnable && !pending && s.mayWritePages n pages) then
    s.forwardHost n cs octets pages erase
  else s.refuseHost n cs

/-- Address octets of a host command. -/
def State.addressOctets (s : State) (n : Fin 12) (cs : Fin 2) (opcode addr : Nat) : List Byte :=
  let e := s.emu n cs
  if fourOctets opcode || e.addr4 || 4 ≤ e.protocol then beOctets 4 addr else beOctets 3 addr

/-- HOST_PAGE_PROGRAM (R159): opcodes 0x02, 0x12, 0x32, 0x34; the pages are those of its start address. -/
def execHostPageProgram (n : Fin 12) (cs : Fin 2) (opcode : Byte) (addr : Nat) (data : List Byte) (s : State) :
    Host.Outcome State Fault Refusal :=
  .next (s.hostCommand n cs opcode.toNat (fun s =>
    if [0x02, 0x12, 0x32, 0x34].contains opcode.toNat then
      let a := s.hostAddress n cs opcode.toNat addr
      s.writeHost n cs (opcode :: (s.addressOctets n cs opcode.toNat a ++ data)) [cs.val * 65536 + a / 4096] false
    else s.bump (ckey 4 n 6)))

/-- R159: the pages of an erase: its 4 KiB or 64 KiB block. -/
def erasePages (cs a opcode : Nat) : List Nat :=
  if opcode = 0x20 ∨ opcode = 0x21 then [cs * 65536 + a / 4096]
  else (List.range 16).map (fun i => cs * 65536 + a / 65536 * 16 + i)

/-- HOST_SECTOR_ERASE (R159): opcodes 0x20, 0x21, 0xD8, 0xDC. -/
def execHostSectorErase (n : Fin 12) (cs : Fin 2) (opcode : Byte) (addr : Nat) (s : State) : Host.Outcome State Fault Refusal :=
  .next (s.hostCommand n cs opcode.toNat (fun s =>
    if [0x20, 0x21, 0xD8, 0xDC].contains opcode.toNat then
      let a := s.hostAddress n cs opcode.toNat addr
      s.writeHost n cs (opcode :: s.addressOctets n cs opcode.toNat a) (erasePages cs.val a opcode.toNat) true
    else s.bump (ckey 4 n 6)))

/-- R157, R158: suspend and resume are forwarded while a forwarded operation is pending, and ignored otherwise. The busy bit
mirrors the flash, which is not busy while suspended (DEDUCED, notes/assumptions/118.md). -/
def State.suspendHost (n : Fin 12) (cs : Fin 2) (b : Bool) (s : State) : State :=
  match s.chans[n].forwarded[cs] with
  | some f =>
    (((s.send (.flash n cs [if b then 0x75 else 0x7A])).onChan n (fun c =>
      { c with forwarded := c.forwarded.set cs (some { f with suspended := b }) })).onEmu n cs (fun e =>
      { e with busy := !b })).bump (ckey 4 n 4)
  | none => s

/-- HOST_SUSPEND (R158). -/
def execHostSuspend (n : Fin 12) (cs : Fin 2) (s : State) : Host.Outcome State Fault Refusal :=
  .next (s.hostCommand n cs 0x75 (State.suspendHost n cs true))

/-- HOST_RESUME (R158). -/
def execHostResume (n : Fin 12) (cs : Fin 2) (s : State) : Host.Outcome State Fault Refusal :=
  .next (s.hostCommand n cs 0x7A (State.suspendHost n cs false))

/-- R124, R158: a command that the filter refuses; in pass-through it is forwarded. -/
def State.refusedKind (n : Fin 12) (cs : Fin 2) (octets : List Byte) (busy : Bool) (s : State) : State :=
  if s.portPasses n then
    let s := ((s.send (.flash n cs [0x06])).send (.flash n cs octets)).bump (ckey 4 n 4)
    let s := s.onEmu n cs (fun e => { e with writeEnable := false, busy := e.busy || busy })
    if busy then s.onChan n (fun c =>
      { c with forwarded := c.forwarded.set cs (some { pages := [], erase := true, suspended := false }) })
    else s
  else s.refuseHost n cs

/-- CHIP_ERASE (R158). -/
def execChipErase (n : Fin 12) (cs : Fin 2) (s : State) : Host.Outcome State Fault Refusal :=
  .next (s.hostCommand n cs 0xC7 (State.refusedKind n cs [0xC7] true))

/-- HOST_REGISTER_WRITE (R158). -/
def execHostRegisterWrite (n : Fin 12) (cs : Fin 2) (opcode : Byte) (s : State) : Host.Outcome State Fault Refusal :=
  .next (s.hostCommand n cs opcode.toNat (State.refusedKind n cs [opcode] false))

/-- HOST_UNKNOWN_COMMAND (R158): ignored and counted. -/
def execHostUnknownCommand (n : Fin 12) (cs : Fin 2) (opcode : Byte) (s : State) : Host.Outcome State Fault Refusal :=
  .next (s.hostCommand n cs opcode.toNat (State.bump (ckey 4 n 6)))

/-- HOST_PROTOCOL_ERROR (R120, R164): counted; the command is ignored. -/
def execHostProtocolError (n : Fin 12) (s : State) : Host.Outcome State Fault Refusal :=
  .next (s.whenLive (fun s => if s.portEnabled n || s.portPasses n then s.bump (ckey 4 n 6) else s))

/-- HOST_CLOCK_EXCESS (R153): Hn_CLK measured more than 2 % above the limit of the protocol in use. -/
def execHostClockExcess (n : Fin 12) (cs : Fin 2) (kHz : Nat) (s : State) : Host.Outcome State Fault Refusal :=
  .next (s.whenLive (fun s =>
    let p := (s.emu n cs).protocol
    if s.portAnswers n cs ∧ kHz * 100 > (s.chanDesc n).limit p * 102 then
      s.event (0x40 + n.val) (detailOf 3 (p * 2 ^ 32 + min kHz 0xFFFFFF))
    else s))

/-- FORWARDED_OP_COMPLETE (R157, R159): the flash reports done. -/
def execForwardedOpComplete (n : Fin 12) (cs : Fin 2) (s : State) : Host.Outcome State Fault Refusal :=
  .next (s.whenLive (fun s =>
    (s.onChan n (fun c => { c with forwarded := c.forwarded.set cs none })).onEmu n cs (fun e => { e with busy := false })))

/-! ## Pinned reloads, retraining, faults and restarts (R155, R163 to R165) -/

/-- PINNED_RELOAD_COMPLETE (R155). -/
def State.reloadComplete (n : Fin 12) (r : Nat) (b : List Byte) (s : State) : State :=
  match s.regionDef n r with
  | none => s
  | some d =>
    let x := s.region n r
    if !x.reloading || !s.modes.mode.serving then s
    else
      let s := s.closeStream n
      if regionHash d.digest b = x.digest then
        s.onRegion n r (fun x =>
          { x with reloading := false, pinned := b, fromCommons := x.verdict != 7 && x.verdict != 8 })
      else
        (s.onRegion n r (fun x => { x with reloading := false, reloadFailed := true })).event (0x40 + n.val)
          (detailOf 6 (r * 2 ^ 32))

/-- PINNED_RELOAD_COMPLETE (R155). -/
def execPinnedReloadComplete (n : Fin 12) (r : Fin 64) (content : List Byte) (s : State) : Host.Outcome State Fault Refusal :=
  .next (s.whenLive (fun s => if s.modes.pfail then s else s.reloadComplete n r.val content))

/-- R163: a delay moves by at most 2 taps toward a centre. -/
def moveDelay (delay centre : Nat) : Nat :=
  if delay + 2 < centre then delay + 2 else if centre + 2 < delay then delay - 2 else centre

/-- DQS_RETRAIN (R162, R163). Background reads stop from the fall of PFAIL_N (R601). -/
def State.retrain (n : Fin 12) (cs : Fin 2) (taps : List Bool) (tapSize : Nat) (s : State) : State :=
  let w := dqsWindow taps
  if !s.modes.mode.serving || s.chans[n].phase != 5 || !s.chans[n].flash[cs].ready || s.modes.pfail then s
  else if w.2 < 8 then s.flashFaulty n cs 2
  else (s.trained n cs (moveDelay s.chans[n].flash[cs].delay w.1) w.2 tapSize).marginLow n cs.val w.2

/-- DQS_RETRAIN (R163). -/
def execDqsRetrain (n : Fin 12) (cs : Fin 2) (taps : List Bool) (tapSize : Nat) (s : State) : Host.Outcome State Fault Refusal :=
  .next (s.whenLive (State.retrain n cs taps tapSize))

/-- CHANNEL_LOGIC_ERROR (R164, R165): a restart; outside serving the fault is only counted (DEDUCED,
notes/assumptions/47.md). -/
def State.logicError (n : Fin 12) (s : State) : State :=
  let s := s.bumpBy (ckey 2 n 8) 24 1
  if !s.modes.mode.serving || !(s.chanDesc n).enabled || s.chans[n].phase == 7 then s
  else
    let s := if s.portEnabled n then s.portOutage n true else s
    (s.restartRounds n).onChan n (fun c =>
      { c with phase := 7, flash := c.flash.map (fun f => { f with ready := false, fault := false }) })

/-- CHANNEL_LOGIC_ERROR (R165). -/
def execChannelLogicError (n : Fin 12) (s : State) : Host.Outcome State Fault Refusal :=
  .next (s.whenLive (State.logicError n))

/-- CHANNEL_RESTART_COMPLETE (R165): the configuration is loaded again, with the start values of the emulated state (DEDUCED,
notes/assumptions/118.md), the flash side is initialised again, without pre-scan, and serving resumes. -/
def State.restartComplete (n : Fin 12) (r0 r1 : FlashReply) (s : State) : State :=
  if s.chans[n].phase != 7 then s
  else
    let s := (s.restartEmu n).onChan n (fun c => { c with phase := if s.halted n then 6 else 5 })
    let s := if (s.chanDesc n).hasFlash 0 then s.initFlash n 0 r0 else s
    let s := if (s.chanDesc n).hasFlash 1 then s.initFlash n 1 r1 else s
    s.portOutage n false

/-- CHANNEL_RESTART_COMPLETE (R165). -/
def execChannelRestartComplete (n : Fin 12) (r0 r1 : FlashReply) (s : State) : Host.Outcome State Fault Refusal :=
  .next (s.whenLive (State.restartComplete n r0 r1))

/-! ## Modes and the ports (R80, R84, R124, R140) -/

/-- R140: serving begins on a complete channel: emulated state at its start values. -/
def State.beginServing (n : Fin 12) (s : State) : State :=
  if (s.chanDesc n).enabled && s.chanComplete n then
    (s.restartEmu n).onChan n (fun c => { c with phase := if s.halted n then 6 else 5 })
  else s

/-- R124: every channel passes through. -/
def State.beginPassThrough (s : State) : State :=
  s.forAll channels (fun n s => (s.restartEmu n).onChan n (fun c => { c with phase := 9 }))

/-- R80, R84: every channel stops serving. -/
def State.stopServing (s : State) : State :=
  s.forAll channels (fun n s => s.onChan n (fun c => { c with phase := if (s.chanDesc n).enabled then 0x0A else 0 }))

end Sys2Proof.Machine
end

