-- ==== Sys2Proof/Machine/Ledger.lean ====
section
/-! DEFINITION. The boot ledger: entries, bodies, signatures, the ring in bank 1, room, voiding, the append's steps, the start
checks, acknowledgement, export frames, the tag summary (spec/07_boot_ledger.md). -/

namespace Sys2Proof.Machine

/-! ## Completion codes (R264) -/

def recordGone : Nat := 0x060001
def recordVoid : Nat := 0x060002
def noSuchRecord : Nat := 0x060003
def ledgerFull : Nat := 0x060005
def ledgerWriteFailed : Nat := 0x060006
def rolloverFailed : Nat := 0x060007
def recordDamaged : Nat := 0x060008

/-! ## Entries (R216, R232, R233) -/

/-- Octets filled with zero octets to the 64 of an entry. -/
def entry (b : List Byte) : List Byte := padTo 64 0 b

/-- One octet of a number. -/
def octet (n : Nat) : Byte := BitVec.ofNat 8 n

/-- R232: region measurement entry. -/
def State.regionEntry (s : State) (n : Fin 12) (r : Nat) (d : RegionDef) : List Byte :=
  let x := s.region n r
  entry ([0x4D, octet n.val, octet r, octet x.verdict,
      octet (d.policy + 4 * d.source + 16 * d.digest + 64 * d.recoverySource),
      octet (d.response + (if d.writeAllow then 4 else 0) + 8 * d.slot)] ++
    beOctets 3 d.tag ++ beOctets 3 d.start ++ beOctets 3 d.pages ++ [0] ++
    (if x.verdict = 0 ∨ x.verdict = 5 then [] else padTo 48 0 x.digest))

/-- R232: firmware entry: item, image, security version, generation, digest. -/
def firmwareEntry (item image version generation : Nat) (digest : List Byte) : List Byte :=
  entry ([0x46, octet item, octet image] ++ beOctets 3 version ++ beOctets 6 generation ++ [0, 0, 0, 0] ++ digest)

/-- R232: the code of an image area. -/
def imageCode (b : Bool) : Nat := if b then 1 else 0

/-- R91: the digest field of the option-area copy in use. -/
def State.optionDigestField (s : State) : List Byte :=
  padTo 48 0 (((s.modes.options.words.drop 3).take 8).flatMap wordOctets)

/-- Security version of the running image (R102). -/
def State.runningVersion (s : State) : Nat := match s.modes.running with | some b => s.imageVersion b | none => 0

/-- R232: the firmware entry of the running image, under item 0x02 or 0x82. -/
def State.imageEntry (s : State) (item : Nat) : List Byte :=
  firmwareEntry item ((s.modes.running.map imageCode).getD 0) s.runningVersion 0 s.modes.imageDigest

/-- R232: the firmware entry of the policy programs and manifests. -/
def State.policyEntry (s : State) : List Byte := firmwareEntry 3 0 0 0 s.modes.policyDigest

/-- R233: the four firmware entries of a primary record. -/
def State.firmwareEntries (s : State) : List Byte :=
  firmwareEntry 1 0 0 0 (beOctets 48 Config.bootRomDigest.toNat) ++ s.imageEntry 2 ++ s.policyEntry ++
    firmwareEntry 4 0 0 (s.opt 1).toNat s.optionDigestField

/-- R232: the manifest entry of a slot that holds one. -/
def State.manifestRow (s : State) (n : Fin 12) (slot : Nat) (b : List Byte) : List Byte :=
  let st := octet ((kget s.chans[n].status slot).getD 2)
  match parseManifest b with
  | none => entry [0x4F, octet n.val, octet slot, st]
  | some m =>
    entry ([0x4F, octet n.val, octet slot, st] ++ beOctets 3 m.id ++ beOctets 6 m.version ++ [octet m.algorithm] ++
      beOctets 2 m.entries.length ++ m.digest)

/-- A bit per channel that satisfies a condition. -/
def channelMask (f : Fin 12 → Bool) : Nat := channels.foldl (fun a n => if f n then a + 2 ^ n.val else a) 0

/-- R232: the start entry. -/
def State.startEntry (s : State) : List Byte :=
  entry ([0x53, octet s.ledger.startCause, octet s.lifecycle, 0] ++ beOctets 6 (s.objNum (okey 0x1200 0x11)) ++
    beOctets 3 (s.objNum (okey 0x1200 0x12)) ++ beOctets 3 (s.objNum (okey 0x1200 0x30)) ++
    beOctets 6 (s.objNum (okey 0x1200 0x31)) ++ beOctets 6 (s.objNum (okey 0x1200 0x32)) ++
    beOctets 3 (s.ledger.eventAtGate % 2 ^ 24) ++ beOctets 3 (s.opt 50).toNat ++ beOctets 6 s.ledger.gateEntry ++
    beOctets 6 s.ledger.lastRegion ++ beOctets 2 (channelMask (fun n => (s.chanDesc n).enabled)) ++
    beOctets 2 (channelMask s.halted) ++ beOctets 2 s.modes.holdMask.toNat ++ beOctets 6 s.ledger.eventAtGate)

/-- R232: a consistency entry: relation and body. -/
def consistencyEntry (relation : Nat) (body : List Byte) : List Byte :=
  entry ([0x43, octet relation] ++ List.replicate 14 0 ++ body)

/-- R233: consistency entries of the present boot for the enabled channels. -/
def State.presentBodies (s : State) (final : Bool) : List Byte :=
  channels.flatMap (fun n =>
    if (s.chanDesc n).enabled then consistencyEntry 0 (s.statBody final false n) else [])

/-- R190, R233: consistency entries of the boot before. -/
def State.previousBodies (s : State) : List Byte :=
  channels.flatMap (fun n =>
    if (s.chanDesc n).enabled then consistencyEntry 1 ((s.ledger.prevBodies.drop (48 * n.val)).take 48) else [])

/-- R232: the verdict change entry. -/
def verdictEntry (channel region new old cause time page : Nat) (officers : Option (Nat × Nat)) : List Byte :=
  let o := match officers with | some (a, b) => [octet a, octet b] | none => [0xFF, 0xFF]
  entry ([0x56, octet channel, octet region, octet new, octet old, octet cause] ++ beOctets 6 time ++ beOctets 3 page ++
    [0] ++ (if cause = 2 then o else [0xFF, 0xFF]))

/-- R232: the hold entry. -/
def holdEntry (hold event cause time : Nat) : List Byte :=
  entry ([0x48, octet hold, octet event, octet cause] ++ beOctets 6 time)

/-- R216: the attestation entry of a slot in the primary record or a supplement. -/
def State.attestationEntry (s : State) (supplement : Bool) (k : Nat) : List Byte :=
  let x := s.responder k
  let flags := (if supplement then 1 else 0) + (if x.deferred then 2 else 0) + (if x.cached then 4 else 0) +
    (if (s.slotWord k 1).getLsbD 4 then 8 else 0) + (if x.overridden then 16 else 0)
  entry ([0x41, octet k, octet (if supplement then x.outcome else x.snapshot), octet flags, octet x.version,
      octet (bitsOf (s.slotWord k 1) 11 9)] ++ wordBe (s.slotWord k 0) ++ [octet x.asym, octet x.hash] ++
    beOctets 2 x.blocks ++ (if x.transcript.isEmpty then [] else sha384 x.transcript))

/-- R233: the attestation entries of a primary record: valid Gate-phase slots. -/
def State.gateAttestations (s : State) : List Byte :=
  (List.range 64).flatMap (fun k =>
    if s.slotValid k && !s.slotServe k then s.attestationEntry false k else [])

/-- R233: all entries of a primary record. -/
def State.primaryEntries (s : State) : List Byte :=
  s.startEntry ++ s.firmwareEntries ++
    channels.flatMap (fun n => s.chans[n].manifests.flatMap (fun e => s.manifestRow n e.1 e.2)) ++
    channels.flatMap (fun n =>
      if (s.chanDesc n).enabled then (s.validRegions n).flatMap (fun e => s.regionEntry n e.1 e.2) else []) ++
    s.gateAttestations ++ s.previousBodies

/-- The entry of a pending item that is a verdict change. -/
def PendingItem.verdictPart : PendingItem → List Byte
  | .verdict c r n o k t p f => verdictEntry c r n o k t p f
  | _ => []

/-- The entry of a pending item that is a hold event. -/
def PendingItem.holdPart : PendingItem → List Byte
  | .hold h e c t => holdEntry h e c t
  | _ => []

/-- R233: all entries of a supplement. -/
def State.supplementEntries (s : State) (items : List PendingItem) : List Byte :=
  items.flatMap PendingItem.verdictPart ++ items.flatMap PendingItem.holdPart ++
    (List.range 64).flatMap (fun k => if items.contains (.attestation k) then s.attestationEntry true k else []) ++
    s.presentBodies false

/-- R232: the retirement entry. -/
def State.retirementEntry (s : State) : List Byte :=
  entry ([0x52, 0] ++ beOctets 6 (s.objNum (okey 0x3100 2)) ++ beOctets 6 (s.objNum (okey 0x1200 0x11)) ++ [0, 0] ++
    (match s.ledger.lastPrimary with | some (_, h) => h | none => []))

/-- R225, R233: the entries of a record as its assembly begins. -/
def State.entriesOfKind (s : State) (r : AppendRequest) (items : List PendingItem) : List Byte :=
  match r.kind with
  | .primary => s.primaryEntries
  | .supplement => if r.entries.isEmpty then s.supplementEntries items else r.entries
  | .restart => r.entries
  | .rollover => []
  | .retirement => s.retirementEntry ++ s.presentBodies true

/-! ## Bodies and signatures (R228 to R231, R250, R251) -/

/-- R225: code of a kind. -/
def RecordKind.code : RecordKind → Nat
  | .primary => 1 | .supplement => 2 | .restart => 3 | .rollover => 4 | .retirement => 5

/-- R229: header flags of a record with a sequence. -/
def State.recordFlags (s : State) (a : Append) (q : Nat) : BitVec 16 :=
  let l := s.ledger
  (if q > l.last + 1 then 1 else 0) ||| l.startFlags |||
    (if a.request.kind = .primary ∧ l.unsavedStats = true then 8 else 0) ||| l.hashFlags |||
    (if l.dropped ≠ 0 then 0x40 else 0) ||| (if a.waited then 0x80 else 0) ||| (if a.rest.isEmpty then 0 else 0x100)

/-- R229, R244: the previous hash of the next record: zero under flag bit 5. -/
def State.previousHash (s : State) : List Byte :=
  if s.ledger.hashFlags.getLsbD 5 then List.replicate 48 0 else s.ledger.lastHash

/-- R228: the header. -/
def State.recordHeader (s : State) (a : Append) (q gen attachment : Nat) : List Byte :=
  let count := a.entries.length / 64
  [0x4E, 0x4C, 0x52, 0x31, octet a.request.kind.code, 1] ++ beOctets 2 (s.recordFlags a q).toNat ++ beOctets 6 q ++
    beOctets 6 s.ledger.last ++ beOctets 6 a.request.boot ++ beOctets 6 s.now ++
    beOctets 3 (128 + 64 * count + attachment + 4723) ++ beOctets 2 count ++ beOctets 3 attachment ++ beOctets 2 gen ++
    s.objOctets (okey 0x1000 4) ++ beOctets 3 (min s.ledger.dropped (2 ^ 24 - 1)) ++ List.replicate 7 0 ++
    s.previousHash ++ List.replicate 16 0

/-- R230: an ECDSA P-384 signature over a digest, then the ML-DSA-87 signature over it with a context, by a scalar and a
seed. The per-signature secret and the hedge are fresh draws. -/
def State.signBoth (s : State) (key : List Byte) (digest : List Byte) (context : String) : List Byte × State :=
  (beOctets 96 (Config.ecdsaSign (key.take 48) digest s.free).toNat ++
    (List.range 4627).map (Config.mldsaSign (key.drop 48) digest (ascii context) s.free), { s with free := s.free + 1 })

/-- R230: the public halves of a ledger key: ECDSA (97 octets), then ML-DSA (2,592 octets). -/
def ledgerPublic (key : List Byte) : List Byte := publicP384 (key.take 48) ++ publicMlDsa 87 (key.drop 48)

/-- The identity key's halves in slots 2 and 3 (R355). -/
def State.identityKey (s : State) : List Byte :=
  padTo 48 0 (((s.keySlot 2).map KeySlot.material).getD []) ++ ((s.keySlot 3).map KeySlot.material).getD []

/-- R250: octets of the attachment: with handover under reason 0x03 alone. -/
def attachmentLength (r : AppendRequest) : Nat :=
  if r.kind = .rollover then (if r.reason = 3 then 12139 else 7416) else 0

/-- R250, R251: the attachment of a rollover with a sequence. -/
def State.attachment (s : State) (a : Append) (q : Nat) : List Byte × State :=
  match a.newKey with
  | none => ([], s)
  | some key =>
    let gen := s.objNum (okey 0x3100 5) + 1
    let pub := ledgerPublic key
    let c := sha384 (s.objOctets (okey 0x1000 4) ++ [octet a.request.reason] ++ beOctets 2 gen ++ beOctets 6 q ++
      s.previousHash ++ pub)
    let i := s.signBoth s.identityKey c "NORNEL-LKCERT"
    let old := if a.request.reason = 3 then s.ledgerKey else none
    let h := match old with | some k => i.2.signBoth k c "NORNEL-LKCERT" | none => ([], i.2)
    ([octet a.request.reason, if old.isSome then 1 else 0] ++ beOctets 2 gen ++ pub ++ i.1 ++ h.1, h.2)

/-- R250: the generation of the key that signs a record. -/
def State.signGeneration (s : State) (r : AppendRequest) : Nat :=
  s.objNum (okey 0x3100 5) + (if r.kind = .rollover then 1 else 0)

/-- R234 step 3: the body with a sequence. -/
def State.assembleBody (q : Nat) (a : Append) (s : State) : Append × State :=
  let t := s.attachment a q
  ({ a with sequence := q,
            body := s.recordHeader a q (s.signGeneration a.request) t.1.length ++ a.entries ++ t.1 }, t.2)

/-- R230: the record with its signature block. -/
def State.signRecord (a : Append) (s : State) : Append × State :=
  let old := match s.ledgerKey with | some k => some k | none => s.ledger.freshKey
  let key := (if a.request.kind = .rollover then a.newKey else old).getD []
  let g := s.signBoth key (sha384 a.body) "NORNEL-LEDGER"
  ({ a with record := a.body ++ g.1 }, g.2)

/-! ## The ring (R239 to R243) -/

/-- R239: the ring word after one: word 0 of a sector is its header. -/
def ringNext (p : Nat) : Nat := if p % 2048 = 2047 then (p + 2) % 2 ^ 21 else p + 1

/-- n ring words from one on. -/
def ringSpan : Nat → Nat → List Nat
  | _, 0 => []
  | p, n + 1 => p :: ringSpan (ringNext p) n

/-- R240: the words that a record of L octets and its trailer take. -/
def recordWords (length : Nat) : Nat := (length + 5) / 6 + 9

/-- R239: programs one ring word, and first the sector header when it is word 1. -/
def State.programRing (q : Nat) (e : Nat × Word) (s : State) : State :=
  let s := if e.1 % 2048 = 1 then s.programWord 1 (e.1 - 1) (BitVec.ofNat 48 q) else s
  s.programWord 1 e.1 e.2

/-- R240: a record and its trailer hash, without the commit word, from a ring word on. -/
def State.programRecord (start q : Nat) (record : List Byte) (s : State) : State :=
  let w := packAll record ++ packAll (sha384 record)
  s.forAll ((ringSpan start w.length).zip w) (State.programRing q)

/-- R240: the ring word of a record's commit word. -/
def commitAt (start length : Nat) : Nat := (ringSpan start (recordWords length)).getLast?.getD start

/-- R241: the record is committed: its commit word reads as its sequence. -/
def State.isCommitted (s : State) (r : RecordAt) : Bool :=
  s.flashRead 1 (commitAt r.start r.length) == .value (BitVec.ofNat 48 r.sequence)

/-- The data of ring words; none when one delivers none. -/
def State.ringWords (s : State) (l : List Nat) : Option (List Word) := l.mapM (fun p => (s.flashRead 1 p).word)

/-- R254: a committed record exactly as appended; none when a word of it cannot be read. -/
def State.recordOctets (s : State) (r : RecordAt) : Option (List Byte) :=
  (s.ringWords (ringSpan r.start ((r.length + 5) / 6))).map (fun w => (w.flatMap wordOctets).take r.length)

/-- R244: the hash in a record's trailer. -/
def State.trailerHash (s : State) (r : RecordAt) : Option (List Byte) :=
  (s.ringWords (((ringSpan r.start (recordWords r.length)).drop ((r.length + 5) / 6)).take 8)).map
    (fun w => w.flatMap wordOctets)

/-- R243: a record whose programming had begun is voided: its first word is retired, it is counted, and the next record
begins in the sector after the last that it touched. The model programs a record up to its commit word in one step. -/
def State.voidRing (start length : Nat) (s : State) : State :=
  let last := (ringSpan start (recordWords length - 1)).getLast?.getD start
  let s := s.setCell 1 start (some (.programmed 0))
  (s.bumpBy (okey 0x3100 0x0D) 48 1).onLedger (fun l => { l with head := ((last / 2048 + 1) % 1024) * 2048 + 1 })

/-! ## Room (R245 to R249) -/

/-- The sector reads erased. -/
def State.sectorErased (s : State) (b sector : Nat) : Bool :=
  let l := s.locate b (sector * 2048)
  !s.eraseOpen b (sector * 2048) && !(s.bank l.1).cells.any (fun c => l.2 ≤ c.1 && c.1 < l.2 + 2048)

/-- A record has a word in a ledger sector. -/
def RecordAt.touches (r : RecordAt) (sector : Nat) : Bool :=
  (ringSpan r.start (recordWords r.length)).any (fun p => p / 2048 == sector)

/-- R248: under Hold a sector is reclaimed only when every record with a word in it is exported. -/
def State.mayReclaim (s : State) (sector : Nat) : Bool :=
  s.objNum (okey 0x3100 7) != 1 ||
    s.ledger.records.all (fun r => !r.touches sector || r.sequence ≤ s.objNum (okey 0x3100 2))

/-- R253: E takes a greater value, with its flash counter (R505). -/
def State.raiseExport (q : Nat) (s : State) : State :=
  let v := max (s.objNum (okey 0x3100 2)) q
  ((s.putNum (okey 0x3100 2) v).counterSetTo 1 v).1

/-- R245, R247: the tail passes every record of a sector, which is then erased; unexported ones are counted as dropped, which
lets E pass them, and under Retain one event tells of the reclaimed sector. -/
def State.reclaimLedger (sector : Nat) (s : State) : State :=
  let e := s.objNum (okey 0x3100 2)
  let gone := s.ledger.records.filter (fun r => r.touches sector)
  let lost := gone.filter (fun r => e < r.sequence)
  let s := s.onLedger (fun l =>
    let rest := l.records.filter (fun r => !r.touches sector)
    { l with records := rest, tail := ((rest.head?).map RecordAt.sequence).getD (if l.last = 0 then 0 else l.last + 1),
             dropped := l.dropped + lost.length })
  let s := s.bumpBy (okey 0x3100 0x0C) 48 lost.length
  let s := match lost.getLast? with | some r => s.raiseExport r.sequence | none => s
  let s := if gone.isEmpty || s.objNum (okey 0x3100 7) == 1 then s
    else s.event 0x4E (detailOf 2 (min lost.length 0xFFFF * 2 ^ 24 + sector))
  s.eraseNow 1 sector

/-- R246: of the 6 sectors after the head's, the first that is not erased. -/
def State.nextUnerased (s : State) : Option Nat :=
  ((List.range 6).map (fun i => (s.ledger.head / 2048 + 1 + i) % 1024)).find? (fun x => !s.sectorErased 1 x)

/-- LEDGER_PRE_ERASE (R246): that sector is reclaimed, when the fill policy lets it be. -/
def State.preEraseLedger (s : State) : State :=
  match s.nextUnerased with
  | some x => if s.mayReclaim x then s.reclaimLedger x else s
  | none => s

/-- R246: the words that a record would take lie erased ahead of the head. -/
def State.hasRoom (s : State) (length : Nat) : Bool :=
  (ringSpan s.ledger.head (recordWords length)).all (fun p =>
    (s.cell 1 p).isNone && !s.eraseOpen 1 p && (p % 2048 != 1 || (s.cell 1 (p - 1)).isNone))

/-- R246, R247: makes room as far as the fill policy lets it. -/
def State.makeRoom (s : State) : State := s.forAll (List.range 6) (fun _ => State.preEraseLedger)

/-- R249: words of the ring that unexported records occupy. -/
def State.unexportedWords (s : State) : Nat :=
  sumOf ((s.ledger.records.filter (fun r => s.objNum (okey 0x3100 2) < r.sequence)).map (fun r => recordWords r.length))

/-- 0x3100:09: octets of the records above E. -/
def State.unexportedOctets (s : State) : Nat :=
  sumOf ((s.ledger.records.filter (fun r => s.objNum (okey 0x3100 2) < r.sequence)).map RecordAt.length)

/-- R249: record words of the whole ring. -/
def ringCapacity : Nat := 1024 * 2047

/-- R249: the share of the ring that is unexported lies above the threshold. -/
def State.aboveHighWater (s : State) : Bool :=
  s.unexportedWords * 100 > s.objNum (okey 0x3100 8) * ringCapacity

/-- R249: one event per rise above the threshold. -/
def State.watchHighWater (s : State) : State :=
  let above := s.aboveHighWater
  let s := if above && !s.ledger.highLogged then
      s.event 0x4E (detailOf 3 (min 100 (s.unexportedWords * 100 / ringCapacity))) else s
  s.onLedger (fun l => { l with highLogged := above })

/-- The greatest sequence (R237). -/
def lastSequence : Nat := 2 ^ 48 - 1

/-- 0x3100:0E: the ledger state; 0x03 when the counter reaches its last value (R237). -/
def State.ledgerState (s : State) : Nat :=
  if s.ledger.fault || lastSequence ≤ s.counter 0 then 3 else if s.ledger.full then 2 else if s.aboveHighWater then 1 else 0

/-- R253: an acknowledgement of a committed sequence. -/
def State.acknowledge (q : Nat) (s : State) : State := (s.raiseExport q).watchHighWater

/-! ## The append (R234 to R237) -/

/-- R226: the entries of one record: at most 948, and what is left for the next. -/
def splitEntries (b : List Byte) : List Byte × List Byte := (b.take (948 * 64), b.drop (948 * 64))

/-- R228: octets of the record that an append makes. -/
def Append.length (a : Append) : Nat := 128 + a.entries.length + attachmentLength a.request + 4723

/-- The items of an append that ends without commit are pending again (R226, R236, R262). -/
def State.returnItems (a : Append) (s : State) : State :=
  if a.items.isEmpty then s
  else s.onLedger (fun l =>
    { l with pendingItems := a.items ++ l.pendingItems, pendingSince := some (l.pendingSince.getD s.now) })

/-- Ends the CMD that asked for an append. -/
def State.endAppendCmd (r : AppendRequest) (status code : Nat) (s : State) : State :=
  match r.cmd with
  | some k => s.endCmd k status code
  | none => s

/-- R250: a new ledger key (scalar and seed) of a rollover. Which words of the DRBG become it is free. -/
def State.newLedgerKey (r : AppendRequest) (s : State) : Option (List Byte) × State :=
  if r.kind = .rollover then
    let d := State.drawOctets 14 s
    (some (ecScalar p384 (d.1.take 48) ++ (d.1.drop 48).take 32), d.2)
  else (none, s)

/-- R234 steps 1 to 3: reserves a sequence and assembles the body; an append of the stage before keeps its entries. -/
def State.reserve (a : Append) (s : State) : State :=
  let q := s.counter 0 + 1
  let s := (s.counterInc 0).onLedger (fun l => { l with mirror := some q })
  let r := s.assembleBody q a
  r.2.onLedger (fun l => { l with append := some { r.1 with stage := .signing, record := [], start := none } })

/-- R248: an append that meets no room under Hold: the primary and a rollover or restart of the N4812's own wait; a supplement
is deferred, its items pending; a request ends LEDGER_FULL. Room is awaited before the sequence is reserved (DEDUCED,
notes/assumptions/57.md). -/
def State.lackRoom (a : Append) (s : State) : State :=
  let s := s.onLedger (fun l => { l with full := true })
  if a.request.cmd.isNone && a.request.kind != .supplement then
    s.onLedger (fun l =>
      { l with append := some { a with stage := .waitingRoom, waited := a.request.kind == .primary } })
  else ((s.onLedger (fun l => { l with append := none })).returnItems a).endAppendCmd a.request cmdFailed ledgerFull

/-- Room for an append is sought; with it, the sequence is reserved. -/
def State.seekRoom (a : Append) (s : State) : State :=
  let s := if s.hasRoom a.length then s else s.makeRoom
  if s.hasRoom a.length then (s.onLedger (fun l => { l with full := false })).reserve a
  else s.lackRoom a

/-- R237, R250 and R252: what an append ends with before it begins: 0, or a code. -/
def State.appendCode (s : State) (r : AppendRequest) : Nat :=
  if s.counter 0 ≥ lastSequence then ledgerWriteFailed
  else if r.kind = .rollover ∧ s.objNum (okey 0x3100 5) ≥ 0xFFFF then rolloverFailed
  else 0

/-- Begins the append of a request. -/
def State.beginAppend (r : AppendRequest) (s : State) : State :=
  let c := s.appendCode r
  if c != 0 then
    (if c = ledgerWriteFailed then s.onLedger (fun l => { l with fault := true }) else s).endAppendCmd r cmdFailed c
  else
    let takes := r.kind == .supplement && r.entries.isEmpty
    let items := if takes then s.ledger.pendingItems else r.items
    let e := splitEntries (s.entriesOfKind r items)
    let k := s.newLedgerKey r
    let s := if takes then k.2.onLedger (fun l => { l with pendingItems := [], pendingSince := none }) else k.2
    s.seekRoom { request := r, stage := .waitingRoom, sequence := 0, entries := e.1, body := [], record := [], start := none,
                 tries := 1, items, rest := e.2, waited := false, newKey := k.1 }

/-- R227: one append at a time: the next request of the queue begins when none is in progress. -/
def State.pumpLedger : Nat → State → State
  | 0, s => s
  | fuel + 1, s =>
    if s.ledger.append.isSome then s
    else match s.ledger.queue with
    | [] => s
    | r :: rest => State.pumpLedger fuel ((s.onLedger (fun l => { l with queue := rest })).beginAppend r)

/-- R227: asks for an append. -/
def State.askAppend (kind : RecordKind) (reason : Nat) (cmd : Option Nat) (entries : List Byte) (s : State) : State :=
  let r : AppendRequest := { kind, reason, cmd, entries, items := [], boot := s.objNum (okey 0x3100 4) }
  let s := s.onLedger (fun l => { l with queue := l.queue ++ [r] })
  s.pumpLedger (s.ledger.queue.length + 1)

/-- R226: the closing supplement of a board boot. Behind another append it waits with its entries formed. -/
def State.closingSupplement (s : State) : State :=
  if s.ledger.append.isNone && s.ledger.queue.isEmpty then s.askAppend .supplement 0 none []
  else
    let items := s.ledger.pendingItems
    let r : AppendRequest := { kind := .supplement, reason := 0, cmd := none, entries := s.supplementEntries items, items,
                               boot := s.objNum (okey 0x3100 4) }
    s.onLedger (fun l => { l with queue := l.queue ++ [r], pendingItems := [], pendingSince := none })

/-- R235: an append fails: after the third it is abandoned with the alarm source; before, it is tried again with a new
sequence. -/
def State.appendFails (a : Append) (s : State) : State :=
  let s := match a.start with | some p => s.voidRing p a.record.length | none => s
  if a.tries < 3 ∧ s.counter 0 < lastSequence then s.seekRoom { a with tries := a.tries + 1 }
  else
    let s := (s.onLedger (fun l => { l with append := none })).returnItems a
    (s.occur 0x28 1 (s.counter 0 % 2 ^ 24 * 2 ^ 16)).endAppendCmd a.request cmdFailed ledgerWriteFailed

/-- R231: how many appends failed checks cost: a first check and up to three more, then the append ends. -/
def State.signFailures : Nat → State → State
  | 0, s => s
  | n + 1, s =>
    match s.ledger.append with
    | some b => if b.stage = .signing then State.signFailures n (s.appendFails b) else s
    | none => s

/-- R234 step 6: programs the record up to its commit word. -/
def State.programAppend (a : Append) (s : State) : State :=
  let p := s.ledger.head
  let s := s.programRecord p a.sequence a.record
  s.onLedger (fun l => { l with append := some { a with stage := .programmed, start := some p } })

/-- LEDGER_SIGNATURES_VERIFIED (R231): the failed checks first, four of which end an append; then the record is signed and,
room being there, programmed. -/
def State.signaturesVerified (failed : Nat) (s : State) : State :=
  match s.ledger.append with
  | some a =>
    if a.stage != .signing then s
    else
      let s := s.signFailures (failed / 4)
      match s.ledger.append with
      | some a =>
        if a.stage != .signing then s
        else
          let r := s.signRecord a
          if r.2.hasRoom r.1.record.length then r.2.programAppend r.1
          else
            let t := r.2.makeRoom
            if t.hasRoom r.1.record.length then t.programAppend r.1
            else t.onLedger (fun l => { l with append := some { r.1 with stage := .signed }, full := true })
      | none => s
  | none => s

/-- LEDGER_ROOM_AVAILABLE (R248): an append that waits for room goes on when it is there. -/
def State.roomAvailable (s : State) : State :=
  match s.ledger.append with
  | some a =>
    (match a.stage with
    | .waitingRoom => s.seekRoom a
    | .signed =>
      let s := s.makeRoom
      if s.hasRoom a.record.length then (s.onLedger (fun l => { l with full := false })).programAppend a else s
    | _ => s)
  | none => s

/-- R234 step 7: what a committed record leaves in the ledger's own state. -/
def State.commitState (a : Append) (s : State) : State :=
  let p := a.start.getD s.ledger.head
  let hash := sha384 a.record
  let row : RecordAt := { sequence := a.sequence, kind := a.request.kind.code, start := p, length := a.record.length, hash,
                          boot := a.request.boot }
  let flags : BitVec 16 := BitVec.ofNat 16 (beNat ((a.body.drop 6).take 2))
  let s := s.programRing a.sequence (commitAt p a.record.length, BitVec.ofNat 48 a.sequence)
  s.onLedger (fun l =>
    { l with records := l.records ++ [row], last := a.sequence, lastHash := hash, append := none,
             tail := if l.records.isEmpty then a.sequence else l.tail,
             head := ringNext (commitAt p a.record.length), appendedAt := s.now, dropped := 0, startFlags := 0,
             hashFlags := 0, summaryDue := true,
             primary := if a.request.kind = .primary then some (a.sequence, flags) else l.primary,
             lastPrimary := if a.request.kind = .primary then some (a.sequence, hash) else l.lastPrimary,
             unsavedStats := if a.request.kind = .primary then false else l.unsavedStats })

/-- R250, R252: a committed rollover puts the new key in force. -/
def State.commitRollover (a : Append) (s : State) : State :=
  match a.newKey with
  | none => s
  | some k =>
    let s := s.putNum (okey 0x3100 5) (s.objNum (okey 0x3100 5) + 1)
    (s.wrapLedgerKey k).onLedger (fun l =>
      { l with publicKeys := ledgerPublic k, rolloverDue := none, freshKey := if s.keys.ownerRoot.isNone then some k else none })

/-- R190: a supplement record leaves its consistency bodies for the primary record of the next boot; R206: it carries the
serve-phase outcomes. -/
def State.commitSupplement (a : Append) (s : State) : State :=
  let s := if a.request.boot = s.objNum (okey 0x3100 4) then s.onLedger (fun l => { l with suppBodies := s.statBodies false true })
    else s
  if a.items.any (fun x => match x with | .attestation _ => true | _ => false) then s.onAtt (fun t => { t with recorded := true })
  else s

/-- R226: a further supplement of the same assembly. -/
def State.furtherSupplement (a : Append) (s : State) : State :=
  let e := splitEntries a.rest
  s.seekRoom { a with entries := e.1, rest := e.2, tries := 1, record := [], body := [], start := none, waited := false }

/-- LEDGER_COMMIT (R241): the commit word is programmed, or programming failed (R235). -/
def State.ledgerCommit (ok : Bool) (s : State) : State :=
  match s.ledger.append with
  | some a =>
    if a.stage != .programmed then s
    else if !ok then s.appendFails a
    else
      let s := s.commitState a
      let s := (if a.request.kind = .rollover then s.commitRollover a
        else if a.request.kind = .supplement then s.commitSupplement a else s).watchHighWater
      if a.rest.isEmpty then s.endAppendCmd a.request cmdDone 0 else s.furtherSupplement a
  | none => s

/-- R236, R262: the append in progress is abandoned: voided when its programming has begun. -/
def State.dropAppend (s : State) : State :=
  match s.ledger.append with
  | some a =>
    let s := match a.start with | some p => s.voidRing p a.record.length | none => s
    (s.onLedger (fun l => { l with append := none, full := false })).returnItems a
  | none => s

/-- R236: on entry to Locked, Forensic or Retired: the append in progress and those that wait. -/
def State.abandonLedger (s : State) : State :=
  let s := s.dropAppend
  let kept := s.ledger.queue.flatMap AppendRequest.items
  s.onLedger (fun l =>
    { l with queue := [], pendingItems := l.pendingItems ++ kept,
             pendingSince := if kept.isEmpty then l.pendingSince else some (l.pendingSince.getD s.now) })

/-! ## Start and Gate (R238, R242 to R244, R252) -/

/-- R242, R243: the start search: the records whose commit words read as their sequences; an append cut short is voided.
Pending items are lost (DEDUCED for a device reset, notes/assumptions/58.md). -/
def State.searchLedger (s : State) : State :=
  let s := s.dropAppend
  let l := s.ledger.records.filter s.isCommitted
  s.onLedger (fun x =>
    { x with queue := [], pendingItems := [], pendingSince := none, records := l,
             last := ((l.getLast?).map RecordAt.sequence).getD x.last,
             tail := ((l.head?).map RecordAt.sequence).getD x.tail, rolloverDue := none, full := false })

/-- R238: the cross-check of counter, mirror and last committed sequence. -/
def State.crossCheck (s : State) : State :=
  let c := s.counter 0
  let h := s.ledger.last
  match s.ledger.mirror with
  | some m =>
    if c = m ∧ h ≤ c then s
    else if c = m + 1 ∧ h ≤ c then s.onLedger (fun l => { l with mirror := some c })
    else
      let b := max (max c m) h
      let s := (s.counterSetTo 0 b).1.onLedger (fun l => { l with mirror := some b, startFlags := l.startFlags ||| 2 })
      s.occur 0x28 2 (b % 2 ^ 24 * 2 ^ 16)
  | none =>
    let b := max c h
    let s := (s.counterSetTo 0 b).1.onLedger (fun l => { l with mirror := some b, startFlags := l.startFlags ||| 4 })
    s.event 0x4E (detailOf 1 (b % 2 ^ 40))

/-- R244: the hash of the last committed record: of the record, else of its trailer, else zero. -/
def State.checkLastRecord (s : State) : State :=
  match s.ledger.records.getLast? with
  | none => s
  | some r =>
    match s.recordOctets r with
    | some b => s.onLedger (fun l => { l with lastHash := sha384 b })
    | none =>
      match s.trailerHash r with
      | some h =>
        (s.onLedger (fun l => { l with lastHash := h, hashFlags := 0x10 })).event 0x4E (detailOf 4 (r.sequence % 2 ^ 40))
      | none =>
        (s.onLedger (fun l => { l with lastHash := List.replicate 48 0, hashFlags := 0x20 })).occur 0x28 3
          (r.sequence % 2 ^ 24 * 2 ^ 16)

/-- The ledger's part of a runtime start. -/
def State.startLedger (s : State) : State := s.searchLedger.crossCheck.checkLastRecord

/-- R190: the bodies of a boot that ended without a final save: its last supplement's, or zero counters, with the incomplete
flag (DEDUCED, notes/assumptions/59.md). -/
def State.unsavedBodies (s : State) : List Byte :=
  if s.ledger.suppBodies.isEmpty then
    channels.flatMap (fun n => if (s.chanDesc n).enabled then [octet n.val, 2] ++ List.replicate 46 0 else List.replicate 48 0)
  else s.ledger.suppBodies

/-- Gate entry in the ledger (R190, R228, R252): the boot's statistics pass to the next primary record, the Gate count rises, a
rollover that is due is asked for. The flag says that a rollover is due and no generation is left. -/
def State.gateLedger (s : State) : State × Bool :=
  let boot := s.objNum (okey 0x3100 4)
  let saved := s.ledger.statsSaved
  let s := s.onLedger (fun l =>
    { l with prevBodies := if saved then s.objOctets (okey 0x2C00 0x0C) else s.unsavedBodies,
             unsavedStats := boot != 0 && !saved, statsSaved := false, suppBodies := [], primary := none, primaryAsked := false,
             gateEntry := s.now, lastRegion := s.now, eventAtGate := s.tamper.head })
  let s := s.putNum (okey 0x3100 4) (boot + 1)
  match s.ledgerKey with
  | some k => (s.onLedger (fun l => { l with publicKeys := ledgerPublic k }), false)
  | none =>
    let reason := if s.ledger.keyBlob.isNone then 1 else 2
    if s.objNum (okey 0x3100 5) ≥ 0xFFFF then (s, true)
    else ((s.onLedger (fun l => { l with rolloverDue := some reason })).askAppend .rollover reason none [], false)

/-! ## The window (R254) -/

/-- R254: what a read of 0x3100:11 finds at a cursor: a code, or the record. -/
def State.windowRecord (s : State) (cursor : Nat) : Except Nat (List Byte) :=
  if cursor > s.ledger.last || s.ledger.last == 0 then .error noSuchRecord
  else match s.ledger.records.find? (fun r => r.sequence == cursor) with
  | some r =>
    (match s.recordOctets r with
    | some b => .ok b
    | none => .error recordDamaged)
  | none => if cursor < s.ledger.tail then .error recordGone else .error recordVoid

/-! ## Export rings (R255 to R257, R413) -/

/-- Updates an export ring. -/
def State.onRing (r : Fin 2) (f : ExportRing → ExportRing) (s : State) : State :=
  s.onLedger (fun l => { l with rings := l.rings.set r (f l.rings[r]) })

/-- R257: the modes in which the rings run. -/
def Mode.ringsRun : Mode → Bool
  | .gate | .serve | .maintain | .ceremony | .retired => true
  | _ => false

/-- R255: CTRL. Enabling begins a new count of PROD and CONS (DEDUCED, notes/assumptions/60.md). -/
def ExportRing.control (v : BitVec 32) (x : ExportRing) : ExportRing :=
  let c : BitVec 3 := v.setWidth 3
  if c.getLsbD 0 && !x.ctrl.getLsbD 0 then
    { x with ctrl := c, prod := 0, cons := 0, waiting := false, error := false, skipped := false, frameEnds := [] }
  else { x with ctrl := c, waiting := x.waiting && c.getLsbD 0 }

/-- R255: a host write of a register of the block. All but CTRL accept one only while CTRL bit 0 is clear; a size that the
table does not admit is not taken (DESIGN CHOICE, notes/assumptions/78.md). -/
def ExportRing.write (reg : RingReg) (v : BitVec 32) (x : ExportRing) : ExportRing :=
  let open_ (y : ExportRing) : ExportRing := if x.ctrl.getLsbD 0 then x else y
  match reg with
  | .ctrl => ExportRing.control v x
  | .baseLo => open_ { x with baseLo := v &&& 0xFFFFF000 }
  | .baseHi => open_ { x with baseHi := v }
  | .size => open_ (if ringSizeOk v then { x with size := v } else x)
  | .nextLo => open_ { x with nextSeq := x.nextSeq / 2 ^ 32 * 2 ^ 32 + v.toNat }
  | .nextHi => open_ { x with nextSeq := v.toNat % 2 ^ 16 * 2 ^ 32 + x.nextSeq % 2 ^ 32 }

/-- R257: octets of a ring that are in use. -/
def ExportRing.used (x : ExportRing) : Nat := (x.prod - x.cons).toNat

/-- R257: acknowledgement of the records whose frames a CONS value passes: on ring 0 the ring must be archival (R253). -/
def State.ringAcks (r : Fin 2) (q : Nat) (s : State) : State :=
  if r = 1 then s.ackEvents q
  else if (s.objNum (okey 0x3100 0x0B)).testBit 1 then s.acknowledge q else s

/-- RING_CONS_WRITE (R257), whether or not CTRL bit 0 is set: R255 names other registers as those that it closes. -/
def State.ringCons (r : Fin 2) (v : BitVec 32) (s : State) : State :=
  let x := s.ledger.rings[r]
  let step := (v - x.cons).toNat
  let passed := x.frameEnds.filter (fun e => (BitVec.ofNat 32 e.1 - x.cons).toNat ≤ step)
  let boundary := step == 0 || passed.any (fun e => BitVec.ofNat 32 e.1 == v)
  if step > x.used || !boundary then
    (s.onRing r (fun x => { x with error := true, ctrl := x.ctrl &&& 6, waiting := false })).event
      (if r = 0 then 0x4E else 0x02) 0
  else
    let s := s.onRing r (fun x =>
      { x with cons := v, frameEnds := x.frameEnds.filter (fun e => !passed.contains e) })
    if x.ctrl.getLsbD 1 then
      match (passed.filterMap (fun e => e.2)).getLast? with
      | some q => s.ringAcks r q
      | none => s
    else s

/-- R256: header of a frame. -/
def frameHeader (status q length : Nat) : List Byte :=
  [0x4E, 0x52, 0x46, 0x31, octet status, 0] ++ beOctets 6 q ++ beOctets 4 length

/-- R256: a record's frame: header, record, zero octets to a multiple of 64. -/
def recordFrame (q : Nat) (b : List Byte) : List Byte :=
  padTo ((16 + b.length + 63) / 64 * 64) 0 (frameHeader 0 q b.length ++ b)

/-- R257: writes octets at PROD, which advances past them; the frame's end is kept with the sequence it carries. -/
def State.ringPut (r : Fin 2) (b : List Byte) (q : Option Nat) (s : State) : State :=
  let x := s.ledger.rings[r]
  let s := s.send (.ring r (x.prod.toNat % max 1 x.size.toNat) b)
  let p := x.prod + BitVec.ofNat 32 b.length
  s.onRing r (fun x => { x with prod := p, waiting := false, frameEnds := x.frameEnds ++ [(p.toNat, q)] })

/-- R257: the interrupt of ring r, when it is enabled. -/
def State.ringSignal (r : Fin 2) (s : State) : State :=
  if s.ledger.rings[r].ctrl.getLsbD 2 then s.send (.msix (5 + r.val)) else s

/-- R257: a ring with too little space waits. -/
def State.ringWaits (r : Fin 2) (s : State) : State := s.onRing r (fun x => { x with waiting := true })

/-- The ring is enabled in a mode in which it runs. -/
def State.ringRuns (s : State) (r : Fin 2) : Bool := s.ledger.rings[r].ctrl.getLsbD 0 && s.modes.mode.ringsRun

/-- RING_FRAME_WRITE (R256, R257): the next committed record. A record that cannot be read is passed over, STAT bit 3 set
(DESIGN CHOICE, notes/assumptions/60.md). -/
def State.ringFrame (s : State) : State :=
  let x := s.ledger.rings[(0 : Fin 2)]
  if !s.ringRuns 0 then s
  else match s.ledger.records.find? (fun r => x.nextSeq ≤ r.sequence) with
  | none => s
  | some r =>
    let s := if x.nextSeq < s.ledger.tail ∧ x.nextSeq ≠ 0 then s.onRing 0 (fun x => { x with skipped := true }) else s
    match s.recordOctets r with
    | none => s.onRing 0 (fun x => { x with skipped := true, nextSeq := r.sequence + 1 })
    | some b =>
      let f := recordFrame r.sequence b
      let pos := x.prod.toNat % max 1 x.size.toNat
      let left := x.size.toNat - pos
      let pad := left < f.length
      let need := f.length + (if pad then left else 0)
      if x.size.toNat < x.used + need then s.ringWaits 0
      else
        let s := if pad then s.ringPut 0 (padTo left 0 (frameHeader 1 0 (left - 16))) none else s
        ((s.ringPut 0 f (some r.sequence)).onRing 0 (fun x => { x with nextSeq := r.sequence + 1 })).ringSignal 0

/-- EVENT_RING_ENTRY_WRITE (R413): the next committed event record. -/
def State.eventRingEntry (s : State) : State :=
  let x := s.ledger.rings[(1 : Fin 2)]
  if !s.ringRuns 1 then s
  else match s.tamper.index.find? (fun e => x.nextSeq ≤ e.1) with
  | none => s
  | some e =>
    let s := if x.nextSeq < s.tamper.tail ∧ x.nextSeq ≠ 0 then s.onRing 1 (fun x => { x with skipped := true }) else s
    match s.slotWords e.2.1 with
    | none => s.onRing 1 (fun x => { x with skipped := true, nextSeq := e.1 + 1 })
    | some w =>
      if x.size.toNat < x.used + 32 then s.ringWaits 1
      else ((s.ringPut 1 ([0x45, 0x52] ++ beOctets 6 e.1 ++ wordsBe w) (some e.1)).onRing 1 (fun x =>
        { x with nextSeq := e.1 + 1 })).ringSignal 1

/-- R255: STAT. -/
def State.ringStat (s : State) (r : Fin 2) : Nat :=
  let x := s.ledger.rings[r]
  (if s.ringRuns r then 1 else 0) + (if x.waiting then 2 else 0) + (if x.error then 4 else 0) + (if x.skipped then 8 else 0)

/-! ## The tag summary (R259) -/

/-- Regions whose verdict satisfies a condition, of the valid regions of the enabled channels. -/
def State.countRegions (s : State) (f : Nat → Bool) : Nat :=
  sumOf (channels.map (fun n =>
    if (s.chanDesc n).enabled then ((s.validRegions n).filter (fun e => f (s.region n e.1).verdict)).length else 0))

/-- R259: octets 0 to 111 of the summary. -/
def State.summaryHead (s : State) : List Byte :=
  let l := s.ledger
  let r := l.records.getLast?
  let p := l.primary
  let bit := fun (i : Nat) => match p with | some (_, f) => f.getLsbD i | none => false
  let slots := (List.range 64).filter s.slotValid
  let time := match r.bind s.recordOctets with | some b => (b.drop 26).take 6 | none => List.replicate 6 0
  [0x4E, 0x4C, 0x53, 0x31, octet ((r.map RecordAt.kind).getD 0),
      octet ((if channels.any s.halted then 1 else 0) + (if s.ledgerState = 2 then 2 else 0) + (if bit 1 then 4 else 0) +
        (if bit 2 then 8 else 0))] ++
    s.objOctets (okey 0x1000 4) ++ beOctets 6 l.last ++ beOctets 6 ((p.map (fun x => x.1)).getD 0) ++
    beOctets 6 (s.objNum (okey 0x3100 4)) ++ time ++ beOctets 6 (s.objNum (okey 0x3100 2)) ++ l.lastHash ++
    beOctets 2 (s.countRegions (fun v => v == 1 || v == 2 || v == 6)) ++
    beOctets 2 (s.countRegions (fun v => !(v == 1 || v == 2 || v == 6))) ++
    beOctets 2 (slots.filter (fun k => (s.responder k).outcome == 1 || (s.responder k).outcome == 2)).length ++
    beOctets 2 (slots.filter (fun k => outcomeFailed (s.responder k).outcome)).length ++
    beOctets 3 (min (2 ^ 24 - 1) (sumOf ((List.range 12).map (s.countOf (okey 0x2C00 4) 12)))) ++
    beOctets 2 (s.objNum (okey 0x3100 5)) ++ [0, 0, 0]

/-- R259: the summary, signed by the ledger key. -/
def State.summary (s : State) : List Byte × State :=
  let h := s.summaryHead
  let key := (s.ledgerKey.getD []).take 48
  (h ++ beOctets 96 (Config.ecdsaSign key (sha384 h) s.free).toNat, { s with free := s.free + 1 })

end Sys2Proof.Machine
end

