-- ==== Sys2Proof/Machine/Attestation.lean ====
section
/-! DEFINITION. Collecting attestations from board devices: slots, requests, replies, outcomes, collection phases
(spec/06_device_attestation.md, R195 to R216, R220, R221). -/

namespace Sys2Proof.Machine

/-! ## Slots (R199) -/

def slotDuplicate : Nat := 0x050001
def slotNotHeld : Nat := 0x050002

/-- Updates a responder slot. -/
def State.onSlot (k : Nat) (f : Responder → Responder) (s : State) : State :=
  s.onAtt (fun a => { a with slots := kupd a.slots k Responder.initial f })

/-- R199: transport of a slot. -/
def State.slotTransport (s : State) (k : Nat) : Nat := bitsOf (s.slotWord k 1) 11 9

/-- R199: identity of a slot. -/
def State.slotIdentity (s : State) (k : Nat) : Nat := (s.slotWord k 0).toNat

/-- The valid slots that satisfy a condition, ascending. -/
def State.slotsOf (s : State) (f : Nat → Bool) : List Nat := (List.range 64).filter (fun k => s.slotValid k && f k)

/-- R206: the slots of serve-phase collection: Serve-phase slots and those deferred from Gate. -/
def State.serveSlots (s : State) : List Nat := s.slotsOf (fun k => s.slotServe k || (s.responder k).deferred)

/-- R205: the Gate-phase slots. -/
def State.gateSlots (s : State) : List Nat := s.slotsOf (fun k => !s.slotServe k)

/-- The slot has no outcome yet (R212: NOT_ATTEMPTED or DEFERRED). -/
def Responder.undecided (x : Responder) : Bool := x.outcome == 0 || x.outcome == 0x0C

/-- The slot is in progress (R203). -/
def Responder.inProgress (x : Responder) : Bool := x.await.isSome

/-- R201, R206: the slot's collection is open. -/
def State.collects (s : State) (k : Nat) : Bool :=
  s.slotValid k && (s.responder k).undecided &&
    ((s.att.phase == 1 && !s.slotServe k) || (s.att.phase == 2 && (s.slotServe k || (s.responder k).deferred)))

/-! ## Outcomes (R212 to R214) -/

/-- R213: a failed outcome's event record and alarm. -/
def State.failurePolicy (k outcome : Nat) (s : State) : State :=
  let s := s.event 0x4D 0
  if s.slotPolicy k = 1 ∨ s.slotPolicy k = 3 then s.occur 0x27 1 (k * 2 ^ 32 + outcome * 2 ^ 24) else s

/-- R226: a serve-phase outcome or override pends once. -/
def State.pendSlot (k : Nat) (s : State) : State :=
  if s.ledger.pendingItems.contains (.attestation k) then s else s.pend (.attestation k)

/-- R212 to R214: a slot ends with an outcome. -/
def State.decideSlot (k outcome : Nat) (s : State) : State :=
  let s := s.onSlot k (fun x => { x with outcome, await := none, waiting := none })
  let s := if outcomeFailed outcome then s.failurePolicy k outcome else s
  let s := if s.att.phase = 2 then s.pendSlot k else s
  if !outcomeFailed outcome && 2 ≤ s.slotPolicy k && !s.slotServe k then
    s.releaseFromSlot (Fin.ofNat 16 (s.slotHold k)) 1 0xFF
  else s

/-! ## Requests (R203, R215) -/

/-- Place of a request in R203. -/
def SpdmAwait.code : SpdmAwait → Nat
  | .version => 1 | .capabilities => 2 | .algorithms => 3 | .digests => 4 | .certificate => 5 | .challenge => 6
  | .measurements => 7

/-- R215: the transcript with a message more; none beyond 49,152 octets. -/
def Responder.noted (x : Responder) (b : List Byte) : Option Responder :=
  if x.transcript.length + b.length ≤ 49152 then some { x with transcript := x.transcript ++ b } else none

/-- Sends octets to the device of a slot and keeps them in the transcript; `onFull`: how the slot ends where they exceed it. -/
def State.sendWithin (onFull : State → State) (k : Nat) (b : List Byte) (s : State) : State :=
  match (s.responder k).noted b with
  | some x => (s.onSlot k (fun _ => { x with request := b, waiting := none })).send (.spdmRequest (Fin.ofNat 64 k) b)
  | none => onFull s

/-- R203: sends the next request of a slot. CHALLENGE and GET_MEASUREMENTS carry a fresh nonce. -/
def State.requestNext (onFull : State → State) (k : Nat) (w : SpdmAwait) (s : State) : State :=
  let d := if w == .challenge || w == .measurements then State.drawOctets 6 s else ([], s)
  let x := d.2.responder k
  let s := d.2.onSlot k (fun x => { x with await := some w, resends := 0, busyWaits := 0, notReady := 0 })
  s.sendWithin onFull k (Config.spdmRequest w.code (if x.version = 0 then 0x10 else x.version) (bitsOf (s.slotWord k 1) 3 1)
    x.chain.length (d.1.take 32))

/-- R203: a slot begins at GET_VERSION. -/
def State.beginWithin (onFull : State → State) (k : Nat) (s : State) : State :=
  (s.onSlot k (fun x =>
    { x with version := 0, asym := 0, hash := 0, digest := [], chain := [], cached := false, blocks := 0, ctExponent := 0,
             since := if x.since = 0 then s.now else x.since })).requestNext onFull k .version

/-- The bus of a slot: PCIe or I3C port 0. -/
def State.onPcie (s : State) (k : Nat) : Bool := s.slotTransport k == 3

/-- R204: slots in progress on a bus. -/
def State.progressOn (s : State) (pcie : Bool) : Nat :=
  ((List.range 64).filter (fun k => (s.responder k).inProgress && s.onPcie k == pcie)).length

/-- R204: starts slots in ascending number as places free: at most 8 on I3C port 0 and 16 on PCIe. -/
def State.startSlots (s : State) : State :=
  if s.modes.hotRestart.isSome then s
  else s.forAll (List.range 64) (fun k s =>
    if s.collects k && !(s.responder k).inProgress && (s.responder k).eid.isSome &&
        s.progressOn (s.onPcie k) < (if s.onPcie k then 16 else 8) then s.beginWithin (State.decideSlot k 5) k else s)

/-! ## Collection phases (R205, R206) -/

/-- R205: the Gate-phase snapshot. -/
def State.snapshotGate (s : State) : State :=
  (s.forAll s.gateSlots (fun k s =>
    s.onSlot k (fun x =>
      if x.outcome = 0 then { x with outcome := 0x0C, snapshot := 0x0C, deferred := true }
      else { x with snapshot := x.outcome }))).onAtt (fun a => { a with gateEnded := true })

/-- R19: Gate-phase attestation ends when every Gate-phase slot has an outcome. -/
def State.checkGateEnd (s : State) : State :=
  if s.att.phase = 1 ∧ s.att.gateEnded = false ∧ s.gateSlots.all (fun k => (s.responder k).outcome != 0) = true then
    s.snapshotGate
  else s

/-- R206, R226: at the close every undecided slot ends, a PCIe slot without an endpoint ID ABSENT (R202), others NO_RESPONSE;
a supplement carries the entries of them all. -/
def State.closeCollection (s : State) : State :=
  let s := s.forAll (s.serveSlots.filter (fun k => (s.responder k).undecided)) (fun k s =>
    s.decideSlot k (if s.onPcie k && (s.responder k).eid.isNone then 0x0B else 4))
  let s := s.onAtt (fun a => { a with phase := 3 })
  (s.forAll s.serveSlots State.pendSlot).askAppend .supplement 0 none []

/-- R206: serve-phase collection closes when every slot of it has an outcome. -/
def State.checkServeEnd (s : State) : State :=
  if s.att.phase = 2 ∧ s.serveSlots.all (fun k => !(s.responder k).undecided) = true then s.closeCollection else s

/-- A slot ends in the course of collection: places free, and the phase may end. -/
def State.endSlot (k outcome : Nat) (s : State) : State :=
  (s.decideSlot k outcome).startSlots.checkGateEnd.checkServeEnd

/-- R215: sends octets to the device of a slot; an exchange beyond the transcript's limit ends PROTOCOL_ERROR. -/
def State.sendSpdm (k : Nat) (b : List Byte) (s : State) : State := s.sendWithin (State.endSlot k 5) k b

/-- R203, R215: the next request of a slot in progress. -/
def State.sendNext (k : Nat) (w : SpdmAwait) (s : State) : State := s.requestNext (State.endSlot k 5) k w

/-- R208: a slot begins again at GET_VERSION. -/
def State.beginSlot (k : Nat) (s : State) : State := s.beginWithin (State.endSlot k 5) k

/-- R206: serve-phase collection opens. -/
def State.openServeCollection (s : State) : State :=
  (s.onAtt (fun a => { a with phase := 2, serveSince := s.now })).startSlots.checkServeEnd

/-- R199, R205, R211, R215: Gate entry: the staged table takes effect, the cache of a changed slot is cleared, outcomes and
transcripts of the boot before are gone. -/
def State.gateAttestation (s : State) : State :=
  let t := s.objWords (okey 0x3000 1)
  let changed := (List.range 64).filter (fun k =>
    t.getD (2 * k) 0 != s.slotWord k 0 || t.getD (2 * k + 1) 0 != s.slotWord k 1)
  let s := s.forAll changed (fun k s =>
    (s.onAtt (fun a => { a with caches := kdel a.caches k })).putOctetsAt (okey 0x3000 0x14) (48 * k) (List.replicate 48 0))
  (s.onAtt (fun a =>
    { a with slots := [], table := t, phase := 1, discovered := false, gateEnded := false, recorded := false })).checkGateEnd

/-- R220: slots in progress end ABORTED; the collection is onFull. -/
def State.abortSlots (s : State) : State :=
  (s.forAll ((List.range 64).filter (fun k => (s.responder k).inProgress)) (fun k s => s.decideSlot k 0x0D)).onAtt (fun a =>
    { a with phase := if a.phase = 0 then 0 else 3 })

/-- R220: a board boot ends a boot whose serve-phase outcomes have entered no supplement record: one event with the number
of those slots (DEDUCED for its place in the detail, notes/assumptions/62.md). -/
def State.unrecordedSlots (s : State) : State :=
  let n := s.serveSlots.length
  if s.att.recorded || n == 0 || s.att.phase < 2 then s else s.event 0x4D (BitVec.ofNat 48 n)

/-- R221: a hot restart: each slot in progress abandons its exchange; its transcript stays. -/
def State.suspendSlots (s : State) : State :=
  s.onAtt (fun a => { a with slots := a.slots.map (fun e => (e.1, { e.2 with await := none, waiting := none })) })

/-! ## Discovery (R201, R202) -/

/-- R201: asks a device to take endpoint ID 0x20 + slot number. -/
def State.setEndpoint (k : Nat) (s : State) : State := s.send (.mctp (Config.mctpControl 1 (0x20 + k)))

/-- I3C_DISCOVERY (R201): RSTDAA and ENTDAA have found devices. -/
def State.discover (found : List Word) (s : State) : State :=
  if s.modes.mode != .gate || s.att.discovered || s.att.phase != 1 then s
  else
    let s := s.onAtt (fun a => { a with discovered := true })
    s.forAll (s.slotsOf (fun k => s.slotTransport k == 2 || (s.slotTransport k == 1 && found.contains (s.slotWord k 0))))
      (fun k s => (s.onSlot k (fun x => { x with found := true })).setEndpoint k)

/-- I3C_DISCOVERY (R201). -/
def execI3cDiscovery (found : List Word) (s : State) : Host.Outcome State Fault Refusal :=
  .next (s.whenLive (State.discover found))

/-- DISCOVERY_TIMEOUT (R201): Gate-phase slots whose device has not been found end ABSENT. -/
def execDiscoveryTimeout (s : State) : Host.Outcome State Fault Refusal :=
  .next (s.whenLive (fun s =>
    if s.modes.mode = .gate then
      s.forAll (s.gateSlots.filter (fun k => (s.responder k).eid.isNone && (s.responder k).outcome == 0)) (fun k =>
        State.endSlot k 0x0B)
    else s))

/-- HOT_JOIN (R201): open Serve-phase slots on port 0 whose device has not been found are sought again. -/
def State.hotJoin (identity : Word) (s : State) : State :=
  s.forAll (s.slotsOf (fun k => s.collects k && s.slotServe k && (s.responder k).eid.isNone &&
      (s.slotTransport k == 2 || (s.slotTransport k == 1 && s.slotWord k 0 == identity)))) (fun k s =>
    (s.onSlot k (fun x => { x with found := true })).setEndpoint k)

/-- HOT_JOIN (R201). -/
def execHotJoin (identity : Word) (s : State) : Host.Outcome State Fault Refusal :=
  .next (s.whenLive (State.hotJoin identity))

/-- ENDPOINT_ID_ASSIGNED (R202): the N4812 asks the bus owner for its routing table. -/
def execEndpointIdAssigned (eid : BitVec 8) (s : State) : Host.Outcome State Fault Refusal :=
  .next (s.whenLive (fun s =>
    (s.onAtt (fun a => { a with ownEid := eid.toNat })).send (.mctp (Config.mctpControl 2 eid.toNat))))

/-- MCTP_CONTROL_RESPONSE (R201, R202): an endpoint ID is assigned, or EIDs are resolved. -/
def State.mctpReply (r : MctpReply) (s : State) : State :=
  match r with
  | .setEndpoint k accepted =>
    if accepted && s.slotValid k.val && s.slotTransport k.val != 3 && (s.responder k.val).found then
      (s.onSlot k.val (fun x => { x with eid := some (0x20 + k.val) })).startSlots
    else s
  | .routingTable eids =>
    if s.att.ownEid = 0 then s
    else
      (s.forAll (s.slotsOf (fun k => s.onPcie k && eids.contains (s.slotIdentity k % 256))) (fun k s =>
        s.onSlot k (fun x => { x with eid := some (s.slotIdentity k % 256) }))).startSlots

/-- MCTP_CONTROL_RESPONSE (R201). -/
def execMctpControlResponse (r : MctpReply) (s : State) : Host.Outcome State Fault Refusal :=
  .next (s.whenLive (State.mctpReply r))

/-! ## Replies (R197, R198, R203, R208 to R211) -/

/-- R197: preference order of hash codes. -/
def hashPreference : List Nat := [2, 3, 1, 5, 6, 4]

/-- R197: preference order of asymmetric codes. -/
def asymPreference : List Nat := [2, 3, 1, 5, 4, 9, 8, 7, 6]

/-- R209: a hash of R197's codes onFull octets. -/
def hashBy (code : Nat) (b : List Byte) : List Byte :=
  if code = 2 then sha384 b
  else (List.range ([32, 48, 64, 32, 48, 64].getD (code - 1) 48)).map
    (Config.digest code b ([32, 48, 64, 32, 48, 64].getD (code - 1) 48))

/-- R209 check 2: the anchors that a slot's mask admits. -/
def State.admittedAnchors (s : State) (k : Nat) : List (List Byte) :=
  ((List.range 8).filter (fun j => (s.slotWord k 1).getLsbD (16 + j))).map (fun j =>
    ((s.objOctets (okey 0x3000 3)).drop (48 * j)).take 48)

/-- R209 check 8: the dates admit the current time. -/
def State.datesOk (s : State) (k notBefore : Nat) (notAfter : Option Nat) : Bool :=
  !(s.slotWord k 1).getLsbD 4 ||
    (notBefore ≤ s.now / second && (match notAfter with | some t => s.now / second ≤ t | none => true))

/-- R209, R211: the chain is received whole: accepted and cached, or CERT_INVALID. -/
def State.checkChainOf (k : Nat) (s : State) : State :=
  let x := s.responder k
  match Config.certChain x.hash x.asym x.chain with
  | some (root, notBefore, notAfter, leaf) =>
    if x.chain.length ≤ 32768 && (s.admittedAnchors k).contains (beOctets 48 root.toNat) &&
        hashBy x.hash x.chain == x.digest && s.datesOk k notBefore notAfter then
      ((s.onAtt (fun a =>
        { a with caches := kset a.caches k { digest := x.digest, notBefore, notAfter, leafKey := leaf } })).putOctetsAt
        (okey 0x3000 0x14) (48 * k) (padTo 48 0 x.digest)).sendNext k .challenge
    else s.endSlot k 9
  | none => s.endSlot k 9

/-- R203 step 3, R211: DIGESTS: the cached chain stands, or the chain is fetched. -/
def State.digestsReply (k : Nat) (digest : List Byte) (s : State) : State :=
  let s := s.onSlot k (fun x => { x with digest, chain := [] })
  match kget s.att.caches k with
  | some c =>
    if c.digest = digest then
      (if s.datesOk k c.notBefore c.notAfter then (s.onSlot k (fun x => { x with cached := true })).sendNext k .challenge
       else s.endSlot k 9)
    else s.sendNext k .certificate
  | none => s.sendNext k .certificate

/-- R203 step 3: one portion of the chain. -/
def State.certificateReply (k : Nat) (portion : List Byte) (remaining : Nat) (s : State) : State :=
  if 1024 < portion.length || (portion.isEmpty && remaining != 0) then s.endSlot k 5
  else
    let s := s.onSlot k (fun x => { x with chain := x.chain ++ portion })
    if 32768 < (s.responder k).chain.length then s.endSlot k 9
    else if remaining = 0 then s.checkChainOf k
    else s.sendNext k .certificate

/-- The signature of a response verifies under the slot's leaf key; the transcript holds the messages before it. -/
def State.spdmSigned (s : State) (k : Nat) (before octets signature : List Byte) : Bool :=
  let x := s.responder k
  match kget s.att.caches k with
  | some c => Config.spdmVerify x.version x.asym x.hash c.leafKey before octets signature
  | none => false

/-- R210: the outcome of a slot whose measurements verify. -/
def State.measured (s : State) (k : Nat) (record : List Byte) : Nat :=
  if (s.slotWord k 1).getLsbD 5 then
    (if sha384 record = ((s.objOctets (okey 0x3000 2)).drop (48 * k)).take 48 then 1 else 3)
  else 2

/-- R203, R208: a reply to the outstanding request. -/
def State.slotReply (k : Nat) (w : SpdmAwait) (before octets : List Byte) (reply : SpdmReply) (s : State) : State :=
  let x := s.responder k
  match w, reply with
  | .version, .version offered =>
    (match [0x13, 0x12].find? offered.contains with
    | some v => (s.onSlot k (fun x => { x with version := v })).sendNext k .capabilities
    | none => s.endSlot k 8)
  | .capabilities, .capabilities cert chal meas ct =>
    if cert && chal && meas == 2 && ct ≤ 20 then
      (s.onSlot k (fun x => { x with ctExponent := ct })).sendNext k .algorithms
    else s.endSlot k 6
  | .algorithms, .algorithms hashes measurementHashes asyms dmtf =>
    (match hashPreference.find? hashes.contains, asymPreference.find? asyms.contains with
    | some h, some a =>
      if dmtf && hashPreference.any measurementHashes.contains then (s.onSlot k (fun x => { x with hash := h, asym := a })).sendNext k .digests else s.endSlot k 7
    | _, _ => s.endSlot k 7)
  | .digests, .digests d => s.digestsReply k d
  | .certificate, .certificate p r => s.certificateReply k p r
  | .challenge, .challengeAuth g =>
    if s.spdmSigned k before octets g then s.sendNext k .measurements else s.endSlot k 0x0A
  | .measurements, .measurements blocks record g =>
    if 12288 < record.length then s.endSlot k 5
    else
      let s := s.onSlot k (fun x => { x with blocks })
      if s.spdmSigned k before octets g then s.endSlot k (s.measured k record) else s.endSlot k 0x0A
  | _, .busy =>
    if x.busyWaits < 3 then s.onSlot k (fun x => { x with waiting := some none, busyWaits := x.busyWaits + 1 })
    else s.endSlot k 4
  | _, .notReady rdt =>
    if 20 < rdt then s.endSlot k 6
    else if x.notReady < 3 then
      s.onSlot k (fun x => { x with waiting := some (some rdt), notReady := x.notReady + 1 })
    else s.endSlot k 4
  | _, .resynch =>
    if x.resyncs = 0 then (s.onSlot k (fun x => { x with resyncs := 1 })).beginSlot k else s.endSlot k 5
  | _, _ => s.endSlot k 5

/-- SPDM_RESPONSE (R203, R208, R215): for a slot in progress; one that waits expects none. -/
def State.spdmReply (k : Nat) (reply : SpdmReply) (octets : List Byte) (s : State) : State :=
  let x := s.responder k
  match x.await with
  | none => s
  | some w =>
    match x.noted octets with
    | none => s.endSlot k 5
    | some y =>
      let s := s.onSlot k (fun _ => y)
      if x.waiting.isSome then s.endSlot k 5 else s.slotReply k w x.transcript octets reply

/-- SPDM_RESPONSE (R203). -/
def execSpdmResponse (slot : Fin 64) (reply : SpdmReply) (octets : List Byte) (s : State) : Host.Outcome State Fault Refusal :=
  .next (s.whenLive (State.spdmReply slot.val reply octets))

/-- SPDM_TIMEOUT (R208): a resend, or NO_RESPONSE after two. -/
def State.spdmTimeout (k : Nat) (s : State) : State :=
  let x := s.responder k
  if !x.inProgress || x.waiting.isSome then s
  else if x.resends < 2 then (s.onSlot k (fun x => { x with resends := x.resends + 1 })).sendSpdm k x.request
  else s.endSlot k 4

/-- SPDM_TIMEOUT (R208). -/
def execSpdmTimeout (slot : Fin 64) (s : State) : Host.Outcome State Fault Refusal :=
  .next (s.whenLive (State.spdmTimeout slot.val))

/-- SPDM_RETRY_WAIT (R208): after Busy the request again, after ResponseNotReady RESPOND_IF_READY. -/
def State.spdmRetry (k : Nat) (s : State) : State :=
  let x := s.responder k
  match x.waiting with
  | none => s
  | some none => s.sendSpdm k x.request
  | some (some _) => s.sendSpdm k (Config.spdmRequest 8 x.version 0 0 [])

/-- SPDM_RETRY_WAIT (R208). -/
def execSpdmRetryWait (slot : Fin 64) (s : State) : Host.Outcome State Fault Refusal :=
  .next (s.whenLive (State.spdmRetry slot.val))

/-- SPDM_SLOT_TIME_LIMIT (R208): a slot of serve-phase collection in progress for 30 s. -/
def execSpdmSlotTimeLimit (slot : Fin 64) (s : State) : Host.Outcome State Fault Refusal :=
  .next (s.whenLive (fun s =>
    if s.att.phase = 2 ∧ (s.responder slot.val).inProgress = true then s.endSlot slot.val 4 else s))

/-! ## Cut-off, close, override -/

/-- GATE_ATTESTATION_CUTOFF (R205): after the last region of the last channel completes. -/
def execGateAttestationCutoff (s : State) : Host.Outcome State Fault Refusal :=
  .next (s.whenLive (fun s =>
    if s.modes.mode = .gate ∧ s.allComplete = true ∧ s.att.gateEnded = false then s.snapshotGate else s))

/-- SERVE_COLLECTION_WINDOW_EXPIRY (R206). -/
def execServeCollectionWindowExpiry (s : State) : Host.Outcome State Fault Refusal :=
  .next (s.whenLive (fun s => if s.att.phase = 2 then s.closeCollection else s))

/-- CLOSE_SERVE_COLLECTION (R206): without open collection nothing is left to close. -/
def closeCollectionAction : Action where
  arg := anyArg
  guard := noGuard
  act := fun _ _ s => (if s.att.phase = 2 then s.closeCollection else s, .done)

/-- CLOSE_SERVE_COLLECTION (R206). -/
def execCloseServeCollection (f : Frame) (s : State) : Host.Outcome State Fault Refusal :=
  .next (s.runCmd (okey 0x3000 0x21) f closeCollectionAction)

/-- R214: an override of a slot that keeps its hold asserted. -/
def State.overrideSlot (k : Nat) (s : State) : State :=
  let h : Fin 16 := Fin.ofNat 16 (s.slotHold k)
  ((s.onSlot k (fun x => { x with overridden := true })).pendSlot k).releaseFromSlot h 5 k

/-- ATTESTATION_HOLD_OVERRIDE (R214). -/
def attestationOverrideAction : Action where
  arg := argOf 1 (fun b => beNat b < 64)
  guard := fun _ b s =>
    let k := beNat b
    if s.modes.mode != .serve then modeRefused
    else if s.slotKeeps k && (s.modes.holds[Fin.ofNat 16 (s.slotHold k)]).isLow then 0 else slotNotHeld
  act := fun _ b s => (s.overrideSlot (beNat b), .done)

/-- ATTESTATION_HOLD_OVERRIDE (R214). -/
def execAttestationHoldOverride (f : Frame) (s : State) : Host.Outcome State Fault Refusal :=
  .next (s.runCmd (okey 0x3000 0x20) f attestationOverrideAction)

/-! ## Values of its objects (R200, R223) -/

/-- R200: the checks of a slot table. -/
def slotTableCode (w : List Word) : Nat :=
  let valid := (List.range 64).filter (fun k => (w.getD (2 * k + 1) 0).getLsbD 0)
  let word := fun (k i : Nat) => w.getD (2 * k + i) 0
  let bad := fun (k : Nat) =>
    let t := bitsOf (word k 1) 11 9
    t == 0 || 3 < t || bitsOf (word k 1) 23 16 == 0 || (t == 3 && !(word k 1).getLsbD 8) ||
      (2 ≤ bitsOf (word k 1) 7 6 && (word k 1).getLsbD 8)
  let twin := fun (k : Nat) => valid.any (fun j =>
    j != k && bitsOf (word j 1) 11 9 == bitsOf (word k 1) 11 9 && word j 0 == word k 0)
  if valid.any twin then slotDuplicate else if valid.any bad then valueRange else 0

/-- R211: a change of the certificate anchors clears every cache. -/
def State.clearChainCaches (s : State) : State :=
  (s.onAtt (fun a => { a with caches := [] })).put (okey 0x3000 0x14) (.octets (List.replicate 3072 0))

end Sys2Proof.Machine
end

