-- ==== Sys2Proof/Machine/OptionArea.lean ====
section
/-! DEFINITION. The option-area copy in force, its rewrites, the image order and the image on trial (spec/03 R91, R93, R100,
R103; spec/15 R509). -/

namespace Sys2Proof.Machine

/-! ## The option area in force (R91, R93) -/

/-- R93: the copy selected, and the validity of both. -/
def State.takeOptions (s : State) : State :=
  let a := (s.optionCopy 0).isSome
  let b := (s.optionCopy 1).isSome
  s.onModes (fun m =>
    { m with options := match s.optionSelect with
      | some (c, w) => { copy := some (c == 1), validA := a, validB := b, words := w }
      | none => OptionInForce.none })

/-- R93: the single copy that is not valid is rewritten from the valid one, and an event logged. The copy in use stays the one
selected until the next start. -/
def State.repairOptions (s : State) : State :=
  let o := s.modes.options
  if o.validA == o.validB then s
  else
    ((s.optionRewriteNow o.words).event 0x30 (detailOf 1 (if o.validA then 1 else 0))).onModes (fun m =>
      { m with options := { o with validA := true, validB := true } })

/-- R509: an option rewrite with new words, and whether it ended without OPTION_WRITE_FAILED, which the part's cells decide: a
free bit. After a failure the copy that was being written is not valid. -/
def State.tryRewrite (w : List Word) (s : State) : State × Bool :=
  let d := s.drawFree
  if d.1.getLsbD 0 then ((d.2.optionRewriteNow w).takeOptions, true) else (d.2.optionSpoil.takeOptions, false)

/-- R91: minimum security version; 0 when no copy is valid (R103). -/
def State.minimumVersion (s : State) : Nat := bitsOf (s.opt 50) 23 0

/-- R91: word 49 for a preferred image, a trial bit and the trial starts remaining. -/
def bootOrder (preferredB trial : Bool) (left : Nat) : Word :=
  BitVec.ofNat 48 ((if preferredB then 1 else 0) + (if trial then 2 else 0) + left % 16 * 4)

/-- R91: the trial starts remaining in word 49. -/
def trialLeft (w : Word) : Nat := bitsOf w 5 2

/-- R100: the image to try first. With the trial bit set the count falls, or at zero the trial ends and the other image is
preferred. The order follows the count, whatever becomes of the rewrite (DESIGN CHOICE, notes/assumptions/71.md). -/
def State.stepTrial (s : State) : Bool × State :=
  let w := s.opt 49
  let p := w.getLsbD 0
  if !w.getLsbD 1 then (p, s)
  else if trialLeft w = 0 then (!p, (s.tryRewrite (s.modes.options.words.set 49 (bootOrder (!p) false 0))).1)
  else (p, (s.tryRewrite (s.modes.options.words.set 49 (bootOrder p true (trialLeft w - 1)))).1)

/-- R100: the runtime confirms an image on trial at an entry to Serve: trial bit clear, minimum version raised. -/
def State.confirmTrial (s : State) : State :=
  let w := s.opt 49
  match s.modes.running with
  | some b =>
    if w.getLsbD 1 && b == w.getLsbD 0 then
      (s.tryRewrite ((s.modes.options.words.set 49 (bootOrder b false (trialLeft w))).set 50
        (BitVec.ofNat 48 (max s.minimumVersion (s.imageVersion b))))).1
    else s
  | none => s

end Sys2Proof.Machine
end

