-- ==== Sys2Proof/Machine/Closing.lean ====
section
/-! DEFINITION. What a mode entry ends: sessions, presentations, card operations, Busy commands, keys; entry to Locked, Forensic
and Retired; the erase line (R56, R84, R85, R220, R236, R367, R368, R401, R538, R553). -/

namespace Sys2Proof.Machine

/-! ## Presentations (R538) -/

/-- Purposes of a presentation: 1 elevation, 2 unlock, 3 enrolment. -/
def purposeElevation : Nat := 1
def purposeUnlock : Nat := 2
def purposeEnrolment : Nat := 3

/-- The presentation closes; the CMD that opened it ends. -/
def State.closePresentation (status code : Nat) (s : State) : State :=
  match s.tag.presentation with
  | none => s
  | some p =>
    (s.onTag (fun t => { t with presentation := none, purpose := 0, rejected := [], selectedTokens := [] })).endCmd p.cmd
      status code

/-- R538: the presentation ends Aborted. -/
def State.abortPresentation (s : State) : State := s.closePresentation cmdAborted actionAborted

/-! ## Sessions (R56) -/

/-- R56: a session closes: its keys, values and segmented writes are gone, and so is a presentation of purpose 0x01 or 0x03
that it opened (R538). -/
def State.endSession (id : Word) (s : State) : State :=
  let mine := match s.tag.presentation with
    | some p => p.session == some id && s.tag.purpose != purposeUnlock
    | none => false
  let s := if mine then s.abortPresentation else s
  s.onDict (fun d =>
    { d with sessions := d.sessions.filter (fun x => x.id != id),
             segments := d.segments.filter (fun w => w.writer != some id) })

/-- R56: every session closes, and every setup in progress ends. -/
def State.endSessions (s : State) : State :=
  (s.forAll (s.dict.sessions.map Session.id) State.endSession).onDict (fun d => { d with setups := [] })

/-! ## Card operations (R553) -/

/-- R553: an abort of the card operation leaves its entry in doubt; the CMD that it serves ends. -/
def State.abortCardOp (code : Nat) (s : State) : State :=
  match s.cards.op with
  | none => s
  | some o =>
    let s := match o.cmd with | some k => s.abortCmd k code | none => s
    s.onCards (fun c =>
      { c with op := none, archive := if o.entry.op = .archive then 0 else c.archive,
               unresolved := c.unresolved.map (fun e => if e.at_ = o.entry.at_ then { e with inDoubt := true } else e) })

/-- R553: the operation and the CMDs that wait for the bus end Aborted. -/
def State.abortCards (s : State) : State :=
  ((s.forAll s.cards.waiting (fun w => State.abortCmd w.1 actionAborted)).onCards (fun c => { c with waiting := [] })).abortCardOp
    actionAborted

/-! ## Entry to Locked, Forensic and Retired -/

/-- R84, R85: every Busy CMD but one ends Aborted; a mode request, provisioning commit, hot restart or board boot with
TRANSITION_PREEMPTED. -/
def State.abortBusy (keep : Option Nat) (s : State) : State :=
  s.onDict (fun d =>
    { d with boardBoot := none,
             objs := d.objs.map (fun e =>
               match e.2 with
               | .cmd 1 _ =>
                 if keep = some e.1 then e
                 else if [okey 0x1200 3, okey 0x1200 5, okey 0x1200 7, okey 0x1200 8].contains e.1 then
                   (e.1, .cmd cmdAborted transitionPreempted)
                 else (e.1, .cmd cmdAborted actionAborted)
               | _ => e) })

/-- R115: a switchable function whose change a mode entry cuts short reads OFF. -/
def Switchable.cut (x : Switchable) : Switchable :=
  match x.st with
  | .starting | .draining => { st := .off, queued := false }
  | _ => { x with queued := false }

/-- The switchable functions after every Busy CMD has ended. -/
def State.cutFunctions (s : State) : State :=
  ((s.onChans (fun v => v.map (fun c => { c with port := c.port.cut }))).onTag (fun t => { t with fn := t.fn.cut })).onCards
    (fun c => { c with fn := c.fn.cut })

/-- R84, R236, R367: key slots, K_R, CDI1, B and IWK are cleared; commands and jobs end. -/
def State.closeKeys (s : State) : State := ((s.endKeyCommands .aborted actionAborted).clearKeys).hubClosed

/-- R84, R220, R236, R538, R553: what entry to Locked, Forensic or Retired ends but the key slots. `keep` is the CMD whose own
action the entry is; an unlock presentation outlives entry to Locked. -/
def State.endForClosed (m : Mode) (keep : Option Nat) (s : State) : State :=
  let s := s.reckon.assertHolds.stopServing.endOutages
  let s := if m == .locked && s.tag.purpose == purposeUnlock then s else s.abortPresentation
  let s := (s.abortCards.abortSlots).abandonLedger
  let s := ((s.abortSweep.abortLaneRun).abortUnitRun).cutFunctions
  let s := if m == .locked && s.tag.purpose == purposeUnlock then s.abortBusy (some (okey 0x6100 0x30)) else s.abortBusy keep
  (s.endSessions).onModes (fun x =>
    { x with mode := m, limitExpired := false, hotRestart := none, hotRestartWaiting := none, startPending := none })

/-- Bits of the sticky Locked flag and the cause (R399, R401). -/
def State.latchLock (cause second : Nat) (s : State) : State :=
  (s.setFlag flagLocked true).put (okey 0x6100 6) (.octets [octet cause, octet second])

/-- R84: Locked is entered and latched, with its cause; `keep` is the CMD whose own effect the entry is. -/
def State.enterLocked (keep : Option Nat) (cause second : Nat) (s : State) : State :=
  (s.endForClosed .locked keep).closeKeys.latchLock cause second

/-- R84: Forensic is entered on a mode request. -/
def State.enterForensic (keep : Option Nat) (s : State) : State := (s.endForClosed .forensic keep).closeKeys

/-- R84, R86: Retired is entered by a retirement; the erase line clears the key slots at its end. -/
def State.enterRetired (keep : Option Nat) (s : State) : State := s.endForClosed .retired keep

/-- R368, R538: the erase line acts; a presentation ends Aborted. -/
def State.eraseLine (s : State) : State := s.abortPresentation.eraseSecrets.countEraseLine

/-- R368: the erase line outside retirement: Locked is entered with the cause of its trigger. A machine that is Locked
already stays so; a Forensic or Retired one keeps its mode. -/
def State.eraseAndLock (keep : Option Nat) (cause second : Nat) (s : State) : State :=
  let s := s.eraseLine
  if s.modes.mode.closed then s.latchLock cause second else s.enterLocked keep cause second

/-! ## Applying a response (R382, R383, R393, R403) -/

/-- R87, R383: the mode returns to Serve from Maintain or Ceremony; an image still on trial is confirmed (R100), and a request
that waited for it is Done. -/
def State.backToServe (s : State) : State :=
  if s.modes.mode = .maintain ∨ s.modes.mode = .ceremony then
    ((s.onModes (fun m => { m with mode := .serve, limitExpired := false })).confirmTrial).doneCmd (okey 0x1200 3)
  else s

/-- R87: objects whose Busy action is an operation of Maintain or Ceremony: installations; ceremony operations. -/
def limitOperations : Mode → List Nat
  | .maintain => [okey 0x7000 4, okey 0x7000 5]
  | .ceremony => [okey 0x3100 0x21, okey 0x5000 0x20, okey 0x5000 0x21, okey 0x8000 0x23, okey 0x8000 0x24]
  | _ => []

/-- R87: an operation of the mode is Busy. -/
def State.operationBusy (s : State) : Bool := (limitOperations s.modes.mode).any s.busy

/-- R87, R383: the mode returns to Serve once no operation of it is Busy. -/
def State.leaveForServe (s : State) : State :=
  if s.modes.mode = .maintain ∨ s.modes.mode = .ceremony then
    (if s.operationBusy then s.onModes (fun m => { m with limitExpired := true }) else s.backToServe)
  else s

/-- R87: an expired limit takes effect when the operation has ended: at the next vigil tick, within the bound of R83. -/
def State.settleLimit (s : State) : State :=
  if s.modes.limitExpired && !s.operationBusy then s.backToServe else s

/-- R83: modes from which a Lock or Erase response enters Locked. -/
def Mode.locks : Mode → Bool
  | .provision | .gate | .serve | .maintain | .ceremony | .recover => true
  | _ => false

/-- R403: an accepted unlock is preempted. -/
def State.preemptUnlock (s : State) : State :=
  if s.tamper.unlockAccepted then
    (s.onTamper (fun t => { t with unlockAccepted := false })).failCmd (okey 0x6100 0x30) unlockPreempted
  else s

/-- R402: a raised Lock or Erase source ends an unlock whose presentation is open. -/
def State.endUnlockPresentation (s : State) : State :=
  if s.tag.purpose = purposeUnlock then s.closePresentation cmdFailed sourceActive else s

/-- R382, R392: the most severe response of the tick, with its source. In a mode that R83 names none from, a Lock is latched
without a change of mode (DEDUCED, notes/assumptions/64.md). -/
def State.applyResponse (r source : Nat) (s : State) : State :=
  let s := if 0 < r then s.putNum (okey 0x6100 4) (max r (s.objNum (okey 0x6100 4))) else s
  if r < 2 then s
  else if r = 2 then (s.setFlag flagRestrained true).leaveForServe
  else
    let s := s.preemptUnlock.endUnlockPresentation
    let s := if r = 4 then s.eraseLine else s
    if s.modes.mode.locks then s.enterLocked none 1 source
    else if s.modes.mode == .blank || s.modes.mode == .factory then s
    else if s.modes.mode == .locked then s.setFlag flagLocked true
    else s.latchLock 1 source

/-- R392: the end of a vigil tick: its records are numbered, and the most severe response applied. -/
def State.applyTick (s : State) : State :=
  let r := s.tamper.tickResponse
  let n := s.tamper.tickSource
  (((s.issueTick).onTamper (fun t => { t with tickResponse := 0, tickSource := 0 })).applyResponse r n).settleLimit

end Sys2Proof.Machine
end

