-- ==== Sys2Proof/Machine/Sensors.lean ====
section
/-! DEFINITION. The tamper watch's sensors, the vigil domain's watch, restraint, the cell-change window, zeroise
(spec/12_tamper_and_evidence.md, R385 to R397, R404; R368). -/

namespace Sys2Proof.Machine

/-! ## Analog sensors (R386, R388) -/

/-- R386: A0 and A7 are signed. -/
def sensorSigned (k : Nat) : Bool := k == 0 || k == 7

/-- The 16-bit output of sensor k as a number. -/
def sensorValue (k v : Nat) : Int := if sensorSigned k then signed 16 v else v

/-- The bounds of an output format. -/
def sensorLimits (k : Nat) : Int × Int := if sensorSigned k then (-32768, 32767) else (0, 65535)

/-- R386: offset o (sQ16.8) and gain g (uQ8.16) of a calibration word. -/
def calOffset (w : Word) : Int := signed 24 (bitsOf w 47 24)
def calGain (w : Word) : Nat := bitsOf w 23 0

/-- R386: the calibrated value of a raw code. -/
def State.calibrated (s : State) (k code : Nat) : Int :=
  let w := (s.objWords (okey 0x6000 3)).getD k 0
  let l := sensorLimits k
  clampInt l.1 l.2 (roundHalfEven ((calGain w : Int) * ((code : Int) * 256 - calOffset w)) (2 ^ 24))

/-- R388: T_lo, H_lo, T_hi and H_hi of a sensor as they are stored. -/
def State.threshold (s : State) (k i : Nat) : Nat := beNat (((s.objOctets (okey 0x6000 6)).drop (8 * k + 2 * i)).take 2)

/-- R388: the lower threshold and its clearing threshold; none when unused. -/
def State.lowThreshold (s : State) (k : Nat) : Option (Int × Int) :=
  if s.threshold k 0 = 0x8000 ∧ s.threshold k 1 = 0 then none
  else some (sensorValue k (s.threshold k 0), sensorValue k (s.threshold k 0) + s.threshold k 1)

/-- R388: the upper threshold and its clearing threshold; none when unused. -/
def State.highThreshold (s : State) (k : Nat) : Option (Int × Int) :=
  if s.threshold k 2 = 0x7FFF ∧ s.threshold k 3 = 0 then none
  else some (sensorValue k (s.threshold k 2), sensorValue k (s.threshold k 2) - s.threshold k 3)

/-- R388: v lies beyond the lower (false) or upper (true) threshold; a saturated v counts as beyond on its side. -/
def State.beyond (s : State) (k : Nat) (upper : Bool) (v : Int) : Bool :=
  let l := sensorLimits k
  if upper then (match s.highThreshold k with | some (t, _) => decide (t ≤ v) || v == l.2 | none => false)
  else (match s.lowThreshold k with | some (t, _) => decide (v ≤ t) || v == l.1 | none => false)

/-- R388: v lies in the clearing band. -/
def State.insideBand (s : State) (k : Nat) (v : Int) : Bool :=
  !s.beyond k false v && !s.beyond k true v &&
    (match s.lowThreshold k with | some (_, c) => decide (c < v) | none => true) &&
    (match s.highThreshold k with | some (_, c) => decide (v < c) | none => true)

/-- R381: the source of a sensor's side; none where no source watches it. -/
def sideSource (k : Nat) (upper : Bool) : Option Nat :=
  match k with
  | 0 => some (if upper then 0x19 else 0x1A)
  | 1 => some 0x1D
  | 2 | 3 | 4 | 5 => some 0x1E
  | 6 => some 0x1C
  | 7 => some 0x1B
  | 8 => some 0x29
  | _ => none

/-- A side's place among the sides. -/
def sideKey (k : Nat) (upper : Bool) : Nat := 2 * k + (if upper then 1 else 0)

/-- The state of a side. -/
def State.side (s : State) (i : Nat) : Source := (kget s.tamper.sides i).getD Source.initial

/-- Updates a side. -/
def State.onSide (i : Nat) (f : Source → Source) (s : State) : State :=
  s.onTamper (fun t => { t with sides := kupd t.sides i Source.initial f })

/-- R405: detail of an analog source: v in [47:32], c in [31:16]. -/
def analogDetail (v : Int) (code : Nat) : Word := BitVec.ofNat 48 (unsigned 16 v * 2 ^ 32 + code * 2 ^ 16)

/-- R388: confirmation count K. -/
def State.confirmations (s : State) : Nat := max 1 (s.objNum (okey 0x6000 7))

/-- R388: one sample of a side: raised after K consecutive samples beyond. -/
def State.sampleSide (k : Nat) (upper : Bool) (v : Int) (code : Nat) (s : State) : State :=
  let i := sideKey k upper
  if s.beyond k upper v then
    let s := s.onSide i (fun x => { x with beyond := x.beyond + 1 })
    if s.confirmations ≤ (s.side i).beyond then
      let s := s.onSide i (fun x => { x with raised := true })
      match sideSource k upper with
      | some n => s.raiseSource n (analogDetail v code)
      | none => s
    else s
  else s.onSide i (fun x => { x with beyond := 0 })

/-- The sides that raise a source. -/
def sidesOf (n : Nat) : List Nat :=
  (List.range 9).flatMap (fun k =>
    [false, true].filterMap (fun u => if sideSource k u = some n then some (sideKey k u) else none))

/-- R388: one sample against the clearing band: cleared after K consecutive samples inside. -/
def State.sampleBand (k : Nat) (v : Int) (code : Nat) (s : State) : State :=
  let i := sideKey k false
  if s.insideBand k v then
    let s := s.onSide i (fun x => { x with inside := x.inside + 1 })
    if s.confirmations ≤ (s.side i).inside then
      let s := (s.onSide i (fun x => { x with raised := false })).onSide (sideKey k true) (fun x => { x with raised := false })
      s.forAll [false, true] (fun u s =>
        match sideSource k u with
        | some n =>
          if (sidesOf n).any (fun j => (s.side j).raised) then s else s.clearSource n (analogDetail v code)
        | none => s)
    else s
  else s.onSide i (fun x => { x with inside := 0 })

/-- R381, R387, R388: source 0x2C is cleared when no calibration is held and no last code stands at a rail (DEDUCED,
notes/assumptions/65.md). -/
def State.settleSensorFault (k code : Nat) (v : Int) (s : State) : State :=
  let codes := s.objOctets (okey 0x6000 2)
  let railed := (List.range 9).any (fun j =>
    let c := beNat ((codes.drop (2 * j)).take 2)
    c == 0xFFFF || (c == 0 && j == k))
  if railed || s.tamper.calHeld.toList.any id then s else s.clearSource 0x2C (analogDetail v code)

/-- SENSOR_SAMPLE (R385, R386, R388): an analog sensor. A7 is not sampled with main power. -/
def State.analogSample (k code : Nat) (s : State) : State :=
  if k = 7 then s
  else
    let v := s.calibrated k code
    let s := (s.putOctetsAt (okey 0x6000 1) (2 * k) (beOctets 2 (unsigned 16 v))).putOctetsAt (okey 0x6000 2) (2 * k)
      (beOctets 2 code)
    let s := ((s.sampleSide k false v code).sampleSide k true v code).sampleBand k v code
    if code = 0 ∨ code = 0xFFFF then s.raiseSource 0x2C (analogDetail v code) else s.settleSensorFault k code v

/-! ## Meshes, switches, clocks (R385, R390, R405) -/

/-- R405: code of a mesh reading. -/
def meshCode : MeshReading → Nat
  | .intact => 0 | .open => 1 | .short => 2 | .mismatch => 3

/-- R390: the fitted masks. -/
def State.meshFitted (s : State) (i : Fin 4) : Bool := (s.objNum (okey 0x6000 9)).testBit i.val
def State.switchFitted (s : State) (i : Fin 4) : Bool := (s.objNum (okey 0x6000 0x0A)).testBit i.val

/-- R390: a ball level is a switch's alarm level. -/
def State.switchAlarm (s : State) (i : Fin 4) (level : Bool) : Bool := level != (s.objNum (okey 0x6000 0x0B)).testBit i.val

/-- Raises or clears a source by a condition. -/
def State.watch (n : Nat) (bad : Bool) (detail : Word) (s : State) : State :=
  if bad then s.raiseSource n detail else s.clearSource n detail

/-- R385, R405: the Lining or a mesh as sampled with main power. -/
def State.meshSample (n : Nat) (r : MeshReading) (s : State) : State :=
  s.watch n (r != .intact) (detailOf (meshCode r) 0)

/-- SENSOR_SAMPLE (R385). Source 0x1F stays raised while a PLL has lost lock (R381). -/
def State.sensorSample (i : SensorInput) (s : State) : State :=
  match i with
  | .analog k code => s.analogSample k.val code.toNat
  | .mesh i r => if s.meshFitted i then s.meshSample (0x11 + i.val) r else s
  | .lining r => s.meshSample 0x10 r
  | .refClock good => if good && s.power.pll == 2 then s else s.watch 0x1F (!good) 0
  | .peClock good => s.watch 0x20 (!good) 0

/-- SENSOR_SAMPLE (R385). -/
def execSensorSample (i : SensorInput) (s : State) : Host.Outcome State Fault Refusal :=
  .next (s.whenLive (State.sensorSample i))

/-- VCORE_GLITCH (R381, R385): the comparator raises the core supply source, with the last reading of A1. -/
def execVcoreGlitch (s : State) : Host.Outcome State Fault Refusal :=
  .next (s.whenLive (fun s =>
    let at1 := fun (key : Nat) => beNat (((s.objOctets key).drop 2).take 2)
    (s.onSide (sideKey 1 false) (fun x => { x with inside := 0 })).raiseSource 0x1D
      (BitVec.ofNat 48 (at1 (okey 0x6000 1) * 2 ^ 32 + at1 (okey 0x6000 2) * 2 ^ 16))))

/-- R381, R611: the block of a canary. -/
def canaryCode : CanaryBlock → Nat
  | .pair p => p.val | .keyUnit => 0x10 | .cryptoFabric => 0x20

/-- FAULT_INJECTION_CANARY (R381). -/
def execFaultInjectionCanary (block : CanaryBlock) (s : State) : Host.Outcome State Fault Refusal :=
  .next (s.whenLive (State.occur 0x22 1 (canaryCode block * 2 ^ 32)))

/-! ## Calibration (R387, R389) -/

/-- R389: floor(o + T ÷ g) in codes. -/
def rawUpper (w : Word) (t : Int) : Option Nat :=
  if calGain w = 0 then none
  else some ((calOffset w * calGain w + t * 2 ^ 24) / (256 * (calGain w : Int))).toNat

/-- R389: ceiling(o + T ÷ g) in codes. -/
def rawLower (w : Word) (t : Int) : Option Nat :=
  if calGain w = 0 then none
  else some (-(-(calOffset w * calGain w + t * 2 ^ 24) / (256 * (calGain w : Int)))).toNat

/-- R389: raw thresholds of a sensor: T_lo, its clearing threshold, T_hi, its clearing threshold. -/
def State.rawOf (s : State) (k : Nat) : List (Option Nat) :=
  let w := (s.objWords (okey 0x6000 3)).getD k 0
  [(s.lowThreshold k).bind (fun t => rawLower w t.1), (s.lowThreshold k).bind (fun t => rawLower w t.2),
    (s.highThreshold k).bind (fun t => rawUpper w t.1), (s.highThreshold k).bind (fun t => rawUpper w t.2)]

/-- R389, R575: the runtime writes the raw thresholds of A6, A7 and A8, and the band boundaries −20 + 20(b − 1) °C of bands 1
to 7 as raw A7 codes, converted as upper thresholds. -/
def State.writeRawThresholds (s : State) : State :=
  let w := (s.objWords (okey 0x6000 3)).getD 7 0
  s.onVigil (fun v =>
    { v with rawThresholds := s.rawOf 6 ++ s.rawOf 7 ++ s.rawOf 8,
             bandCodes := (List.range 7).filterMap (fun i => rawUpper w (((i : Int) * 20 - 20) * 256)) })

/-- R387: v_a or v_b of a sensor. -/
def State.referenceValue (s : State) (k i : Nat) : Int :=
  sensorValue k (beNat (((s.objOctets (okey 0x6000 5)).drop (4 * k + 2 * i)).take 2))

/-- A quotient rounded half to even (R10) with a divisor of either sign. -/
def divRound (n d : Int) : Int := if d < 0 then roundHalfEven (-n) (-d).toNat else roundHalfEven n d.toNat

/-- R387: the targets lie within their bounds of the factory values: |g* − g₀| ≤ g₀ ÷ 32 and |o* − o₀| ≤ 64 codes, with
d = c_b − c_a and n = v_b − v_a, exactly. Without a quotient there is none. -/
def targetsOk (g0 : Nat) (o0 ca d n va : Int) : Bool :=
  d != 0 && n != 0 &&
    decide ((n * 2 ^ 24 - g0 * d).natAbs * 32 ≤ g0 * d.natAbs) &&
    decide (((ca - o0) * n - va * d).natAbs ≤ 16384 * n.natAbs)

/-- R387: the calibration after a recalibration: o moves by at most 0.5 code, g by at most g₀ ÷ 4,096. -/
def recalibrated (w w0 : Word) (ca d n va : Int) : Word :=
  let g := (calGain w : Int)
  let step : Int := ((calGain w0 / 4096 : Nat) : Int)
  let o := calOffset w + clampInt (-128) 128 (divRound (ca * n - va * d) n - calOffset w)
  let g := g + clampInt (-step) step (divRound (n * 2 ^ 24) d - g)
  BitVec.ofNat 48 (unsigned 24 o * 2 ^ 24 + unsigned 24 g)

/-- SENSOR_RECALIBRATION (R387, R389) of a sensor from c_a and c_b in sQ16.8. -/
def State.recalibrate (k : Fin 9) (ca cb : Int) (s : State) : State :=
  let w := (s.objWords (okey 0x6000 3)).getD k.val 0
  let w0 := (s.objWords (okey 0x6000 4)).getD k.val 0
  let va := s.referenceValue k.val 0
  let n := s.referenceValue k.val 1 - va
  let s := if targetsOk (calGain w0) (calOffset w0) ca (cb - ca) n va then
      let c := s.objWords (okey 0x6000 3)
      let s := (s.put (okey 0x6000 3) (.words (c.set k.val (recalibrated w w0 ca (cb - ca) n va)))).onTamper (fun t =>
        { t with calHeld := t.calHeld.set k false })
      let code := beNat (((s.objOctets (okey 0x6000 2)).drop (2 * k.val)).take 2)
      if code = 0 then s else s.settleSensorFault k.val code (s.calibrated k.val code)
    else (s.onTamper (fun t => { t with calHeld := t.calHeld.set k true })).raiseSource 0x2C 0
  s.writeRawThresholds

/-- SENSOR_RECALIBRATION (R387). -/
def execSensorRecalibration (k : Fin 9) (ca cb : Int) (s : State) : Host.Outcome State Fault Refusal :=
  .next (s.whenLive (State.recalibrate k ca cb))

/-! ## The vigil domain (R394 to R397) -/

/-- R381: the sources that the vigil domain evaluates. -/
def vigilSource (n : Nat) : Bool :=
  (0x10 ≤ n && n ≤ 0x18) || n == 0x1B || n == 0x1C || n == 0x21 || n == 0x29 || n == 0x2A

/-- R395, R404: the response that the vigil domain applies: of its copy, Record at most for 0x29 and 0x2A in the window. -/
def State.vigilResponse (s : State) (n : Nat) : Nat :=
  let r := s.vigil.responses.getD (n - 0x10) 0
  if s.vigil.windowSince.isSome && (n == 0x29 || n == 0x2A) then min r 1 else r

/-- R396, R397: writes a vigil record, or counts it in record 15. -/
def State.vigilRecord (n r : Nat) (cleared : Bool) (s : State) : State :=
  let w := BitVec.ofNat 48 (n * 2 ^ 40 + r * 2 ^ 36 + (if s.vigil.windowSince.isSome then 2 ^ 33 else 0) +
    (if cleared then 2 ^ 32 else 0))
  if s.vigil.records.length < 16 then
    (s.onVigil (fun v => { v with records := v.records ++ [{ word0 := w, time := v.time }] })).setFlag flagRecords true
  else
    ((s.onVigil (fun v =>
      { v with records := v.records.mapIdx (fun i x =>
          if i = 15 ∧ bitsOf x.word0 31 16 < 0xFFFF then { x with word0 := x.word0 + 0x10000 } else x) })).setFlag
      flagOverflow true)

/-- R395: a raising on the cell, or one that the tamper watch has not acknowledged (R394). -/
def State.vigilRaise (n : Nat) (s : State) : State :=
  if (s.source n).raised then s
  else
    let r := s.vigilResponse n
    let erase := r == 4
    let s := s.onSource n (fun x => { x with raised := true })
    let s := if erase then
        ((s.onKeys (fun u => { u with vigilRoot := none })).setFlag flagVPresent false).setFlag flagErase true
      else s
    let s := if 3 ≤ r then s.setFlag flagLocked true else if r = 2 then s.setFlag flagRestrained true else s
    s.vigilRecord n r erase

/-- R394: a condition of a cell source: to the tamper watch while it runs, else into a vigil record. -/
def State.vigilWatch (n : Nat) (bad : Bool) (detail : Word) (s : State) : State :=
  if s.live then s.watch n bad detail
  else if bad then s.vigilRaise n
  else s.onSource n (fun x => { x with raised := false })

/-- R389: K = 1 against raw thresholds: the first of lo, clear lo, hi, clear hi stands at an offset of the list. -/
def State.rawWatch (n off code : Nat) (s : State) : State :=
  let t := fun (i : Nat) => (s.vigil.rawThresholds.getD (off + i) none)
  let low := match t 0 with | some x => decide (code ≤ x) | none => false
  let high := match t 2 with | some x => decide (x ≤ code) | none => false
  let clear := (match t 1 with | some x => decide (x < code) | none => true) &&
    (match t 3 with | some x => decide (code < x) | none => true)
  if low || high then s.vigilWatch n true 0 else if clear then s.vigilWatch n false 0 else s

/-- R404: VBAT below 1.0 V: with the window open, the cell-absent flag; the source 0x2A. -/
def State.cellRemoved (b : Bool) (s : State) : State :=
  let s := if b && s.vigil.windowSince.isSome then s.setFlag flagCellAbsent true else s
  s.vigilWatch 0x2A b 0

/-- R385, R405: an intrusion switch after its debounce. -/
def State.switchSample (i : Fin 4) (level : Bool) (s : State) : State :=
  let s := s.onTamper (fun t => { t with switchLevels := t.switchLevels.set i level })
  if s.switchFitted i then s.vigilWatch (0x15 + i.val) (s.switchAlarm i level) (if level then 1 else 0) else s

/-- VIGIL_SAMPLE (R385, R394): light and temperature are compared on the cell only; with main power the tamper watch samples
A6 and A8 itself. -/
def State.vigilSample (i : VigilInput) (s : State) : State :=
  match i with
  | .mesh i r => if s.meshFitted i then s.vigilWatch (0x11 + i.val) (r != .intact) (detailOf (meshCode r) 0) else s
  | .lining r => s.vigilWatch 0x10 (r != .intact) (detailOf (meshCode r) 0)
  | .light code => if s.live then s else s.rawWatch 0x1C 0 code.toNat
  | .temperature code =>
    let s := s.onVigil (fun v => { v with temperatureCode := some code.toNat })
    if s.live then s else s.rawWatch 0x1B 4 code.toNat
  | .cell code removed => (if s.live then s else s.rawWatch 0x29 8 code.toNat).cellRemoved removed
  | .crystal good => s.vigilWatch 0x21 (!good) 0
  | .switch i level => s.switchSample i level

/-- The vigil domain is supplied: it evaluates its sources. -/
def State.watching (s : State) : Bool := s.vigil.supply != VigilSupply.none

/-- VIGIL_SAMPLE (R385). -/
def execVigilSample (i : VigilInput) (s : State) : Host.Outcome State Fault Refusal :=
  .next (if s.watching then s.vigilSample i else s)

/-- SWITCH_DEBOUNCE_EXPIRY (R385). -/
def execSwitchDebounceExpiry (i : Fin 4) (level : Bool) (s : State) : Host.Outcome State Fault Refusal :=
  .next (if s.watching then s.switchSample i level else s)

/-- VIGIL_ACK_TIMEOUT (R394): a raising of a cell source that the tamper watch has not acknowledged. -/
def execVigilAckTimeout (source : BitVec 8) (s : State) : Host.Outcome State Fault Refusal :=
  .next (if s.watching && vigilSource source.toNat then s.vigilRaise source.toNat else s)

/-! ## Restraint (R383) -/

/-- CLEAR_RESTRAINT (R383). -/
def clearRestraintAction : Action where
  arg := anyArg
  guard := fun _ _ s => if s.someRaised 2 then sourceActive else 0
  act := fun _ _ s => (s.setFlag flagRestrained false, .done)

/-- CLEAR_RESTRAINT (R383). -/
def execClearRestraint (f : Frame) (s : State) : Host.Outcome State Fault Refusal :=
  .next (s.runCmd (okey 0x6100 0x20) f clearRestraintAction)

/-! ## The cell-change window (R404) -/

/-- R404: source 0x29 or 0x2A, when its condition still holds, is raised afresh under its configured response. -/
def State.raiseAfresh (n : Nat) (s : State) : State :=
  if (s.source n).raised then
    let s := s.onSource n (fun x => { x with raised := false })
    if s.live then
      let a8 := fun (key : Nat) => beNat (((s.objOctets key).drop 16).take 2)
      s.raiseSource n (if n = 0x29 then BitVec.ofNat 48 (a8 (okey 0x6000 1) * 2 ^ 32 + a8 (okey 0x6000 2) * 2 ^ 16) else 0)
    else s.vigilRaise n
  else s

/-- R404: the window closes for a reason: 1 time limit, 2 cell restored, 3 abort. -/
def State.closeCellWindow (reason : Nat) (s : State) : State :=
  if s.vigil.windowSince.isNone then s
  else
    let s := (s.onVigil (fun v => { v with windowSince := none })).setFlag flagWindow false
    let s := if s.live then s.event 0x09 (detailOf 2 reason) else s
    let s := s.endCmd (okey 0x6100 0x40) (if reason = 3 then cmdAborted else cmdDone) (if reason = 3 then actionAborted else 0)
    (s.raiseAfresh 0x29).raiseAfresh 0x2A

/-- CELL_CHANGE_WINDOW (R404), with whether VAUX lies within its recommended range. -/
def cellWindowAction (vauxInRange : Bool) : Action where
  arg := anyArg
  guard := fun _ _ _ => if vauxInRange then 0 else cellWindowRefused
  act := fun a _ s =>
    if a.glovePair then
      (((s.onVigil (fun v => { v with windowSince := some s.now })).setFlag flagWindow true).event 0x09 (detailOf 1 0), .busy)
    else (s, .failed presenceRequired)

/-- CELL_CHANGE_WINDOW (R404). -/
def execCellChangeWindow (f : Frame) (vauxInRange : Bool) (s : State) : Host.Outcome State Fault Refusal :=
  .next (s.runCmd (okey 0x6100 0x40) f (cellWindowAction vauxInRange))

/-- CELL_WINDOW_EXPIRY (R404). -/
def execCellWindowExpiry (s : State) : Host.Outcome State Fault Refusal := .next (s.closeCellWindow 1)

/-- CELL_RESTORED (R404): after the cell-absent sighting. -/
def execCellRestored (s : State) : Host.Outcome State Fault Refusal :=
  .next (if s.flag flagCellAbsent then s.closeCellWindow 2 else s)

/-! ## Zeroise (R368) -/

/-- ZEROISE (R368). -/
def zeroiseAction : Action where
  arg := anyArg
  guard := noGuard
  act := fun a _ s =>
    if a.glovePair then (s.eraseAndLock (some (okey 0x5000 0x22)) 7 0, .done) else (s, .failed presenceRequired)

/-- ZEROISE (R368). -/
def execZeroise (f : Frame) (s : State) : Host.Outcome State Fault Refusal :=
  .next (s.runCmd (okey 0x5000 0x22) f zeroiseAction)

/-! ## Source states (R416) -/

/-- 0x6000:0C: 0x00 normal, 0x01 raised, 0x02 not fitted, 0x03 calibration held. -/
def State.sourceState (s : State) (n : Nat) : Nat :=
  if 0x11 ≤ n ∧ n ≤ 0x14 ∧ (s.objNum (okey 0x6000 9)).testBit (n - 0x11) = false then 2
  else if 0x15 ≤ n ∧ n ≤ 0x18 ∧ (s.objNum (okey 0x6000 0x0A)).testBit (n - 0x15) = false then 2
  else if n = 0x2C ∧ s.tamper.calHeld.toList.any id = true then 3
  else if (s.source n).raised then 1 else 0

/-- 0x6000:0C. -/
def State.sourceStates (s : State) : List Byte := (List.range 32).map (fun i => octet (s.sourceState (0x10 + i)))

end Sys2Proof.Machine
end

