-- ==== Sys2Proof/Machine/Contactless.lean ====
section
/-! DEFINITION. The contactless tag, its memory and APDUs, the officer reader, presentations, roster, unlock
(spec/16_contactless.md; R52, R88, R402). -/

namespace Sys2Proof.Machine

def fieldBusy : Nat := 0x0D0001
def rosterMinimum : Nat := 0x0D0002
def rosterEntry : Nat := 0x0D0003
def recordProtected : Nat := 0x0D0004

/-! ## Tag memory (R528 to R531) -/

/-- R528: the copy is committed. -/
def TagCopy.committed (c : TagCopy) : Bool := c.flag == 0xC3

/-- R528: the current copy of a record: 0 or 1; none when the record is empty. -/
def currentCopy (r : Vector TagCopy 2) : Option (Fin 2) :=
  match r[0].committed, r[1].committed with
  | true, true => if r[1].generation = (r[0].generation + 1) % 2 ^ 24 then some 1 else some 0
  | true, false => some 0
  | false, true => some 1
  | false, false => none

/-- The committed content of a record; none when it is empty. -/
def State.recordData (s : State) (r : Fin 32) : Option (List Byte) :=
  (currentCopy s.tag.records[r]).map (fun i => s.tag.records[r][i].data)

/-- R529: a write through the shadow copy, to its end. -/
def State.writeTag (r : Fin 32) (b : List Byte) (s : State) : State :=
  s.onTag (fun t =>
    let rec_ := t.records[r]
    let cur := currentCopy rec_
    let shadow : Fin 2 := match cur with | some 0 => 1 | _ => 0
    let gen := match cur with | some i => (rec_[i].generation + 1) % 2 ^ 24 | none => 1
    { t with records := t.records.set r (rec_.set shadow { generation := gen, flag := 0xC3, data := b }) })

/-- R530: attributes of a record; records 0 and 1 are field read only. -/
def State.tagAttr (s : State) (r : Fin 32) : Nat :=
  if r.val < 2 then 1 else ((s.objOctets (okey 0x8100 1)).getD r.val 0).toNat

/-- R531: wired writes that waited for a field command on another record apply when it ends. -/
def State.settleWrites (s : State) : State :=
  (s.forAll s.tag.waitingWrites (fun e => State.writeTag (Fin.ofNat 32 e.1) e.2)).onTag (fun t => { t with waitingWrites := [] })

/-- R530: content of record 1. -/
def State.identityRecord (s : State) : List Byte :=
  [0x4E, 0x49, 0x44, 0x31] ++ s.objOctets (okey 0x8000 1) ++ s.objOctets (okey 0x1000 4) ++ s.objOctets (okey 0x8000 2)

/-- R259, R531: the summary goes into record 0, unless a field command holds it. -/
def State.putSummary (held : Option (Fin 32)) (s : State) : State :=
  if held = some 0 then (s.wrapBy (okey 0x8100 2) 1).onLedger (fun l => { l with summaryRetry := true, summaryDue := false })
  else
    let r := s.settleWrites.summary
    (r.2.writeTag 0 r.1).onLedger (fun l => { l with summaryRetry := false, summaryDue := false })

/-- TAG_SUMMARY_WRITE (R259): after a committed record. -/
def execTagSummaryWrite (held : Option (Fin 32)) (s : State) : Host.Outcome State Fault Refusal :=
  .next (s.whenLive (fun s => if s.ledger.summaryDue then s.putSummary held else s))

/-- TAG_SUMMARY_RETRY (R259). -/
def execTagSummaryRetry (held : Option (Fin 32)) (s : State) : Host.Outcome State Fault Refusal :=
  .next (s.whenLive (fun s => if s.ledger.summaryRetry then s.putSummary held else s))

/-! ## The tag side (R519 to R525, R532) -/

/-- R519: the island has a supply. -/
def State.tagSupplied (s : State) : Bool := s.modes.mainPower || s.vigil.vaux

/-- R525, R532: the tag may answer: ON, out of Doff, in a mode that admits it, or without main power as 0x8000:06 says. -/
def State.tagMay (s : State) : Bool :=
  s.vigil.doff.isNone && s.power.frozen.isNone &&
    (if s.modes.mainPower then
      s.tag.fn.st == .on && !s.modes.starting && s.modes.startPending.isNone && (s.modes.mode.serving || s.modes.mode == .retired)
     else s.vigil.vaux && s.tag.onAtFall && s.objNum (okey 0x8000 6) == 1)

/-- A frame of an external reader reaches a tag that answers. -/
def State.whenTag (f : State → State) (s : State) : State := if s.tag.field && s.tagMay then f s else s

/-- Sets the tag's state. -/
def State.tagState (x : TagState) (s : State) : State := s.onTag (fun t => { t with st := x })

/-- Sends octets by load modulation. -/
def State.tagSend (b : List Byte) (s : State) : State := s.send (.tag b)

/-- ISO/IEC 14443-3: a frame that a state does not expect returns the tag to IDLE, or to HALT from a starred state; IDLE, HALT
and PROTOCOL stay (PRESUMED from the standard, notes/assumptions/67.md). -/
def TagState.unexpected : TagState → TagState
  | .ready1 | .ready2 | .active => .idle
  | .ready1Star | .ready2Star | .activeStar => .halt
  | x => x

/-- The tag does not answer a frame that its state does not expect. -/
def State.tagUnexpected (s : State) : State := s.onTag (fun t => { t with st := t.st.unexpected })

/-- R521: ATQA. -/
def atqa : List Byte := [0x44, 0x00]

/-- REQA (R521). -/
def execReqa (s : State) : Host.Outcome State Fault Refusal :=
  .next (s.whenTag (fun s => if s.tag.st = .idle then (s.tagState .ready1).tagSend atqa else s.tagUnexpected))

/-- WUPA (R521). -/
def execWupa (s : State) : Host.Outcome State Fault Refusal :=
  .next (s.whenTag (fun s =>
    if s.tag.st = .idle then (s.tagState .ready1).tagSend atqa
    else if s.tag.st = .halt then (s.tagState .ready1Star).tagSend atqa
    else s.tagUnexpected))

/-- R521: the five octets of a cascade level. -/
def State.cascade (s : State) (level : Fin 2) : List Byte :=
  let u := s.objOctets (okey 0x8000 1)
  let c := if level = 0 then 0x88 :: u.take 3 else (u.drop 3).take 4
  c ++ [c.foldl (· ^^^ ·) 0]

/-- Bits of octets as ISO/IEC 14443-3 sends them, least significant first. -/
def bitsOfOctets (b : List Byte) : List Bool := b.flatMap (fun o => (List.range 8).map o.getLsbD)

/-- Octets of such bits; the last is filled with zero bits. -/
def octetsOfBits : Nat → List Bool → List Byte
  | 0, _ => []
  | n + 1, b =>
    BitVec.ofNat 8 ((b.take 8).foldr (fun x a => 2 * a + (if x then 1 else 0)) 0) :: octetsOfBits n (b.drop 8)

/-- The state stands at a cascade level. -/
def TagState.atLevel (x : TagState) (level : Fin 2) : Bool :=
  if level = 0 then x == .ready1 || x == .ready1Star else x == .ready2 || x == .ready2Star

/-- ANTICOLLISION (R521): when the known bits begin its level, the tag sends the rest. -/
def execAnticollision (level : Fin 2) (bits : List Bool) (s : State) : Host.Outcome State Fault Refusal :=
  .next (s.whenTag (fun s =>
    let all := bitsOfOctets (s.cascade level)
    if !s.tag.st.atLevel level then s.tagUnexpected
    else if bits.isPrefixOf all then
      let rest := all.drop bits.length
      s.tagSend (octetsOfBits ((rest.length + 7) / 8) rest)
    else s))

/-- TAG_SELECT (R521): SAK 0x04 after level 1, 0x20 after level 2. -/
def execTagSelect (level : Fin 2) (uid : List Byte) (s : State) : Host.Outcome State Fault Refusal :=
  .next (s.whenTag (fun s =>
    if !s.tag.st.atLevel level || uid.take 4 != (s.cascade level).take 4 then s.tagUnexpected
    else
      let star := s.tag.st == .ready1Star || s.tag.st == .ready2Star
      if level = 0 then (s.tagState (if star then .ready2Star else .ready2)).tagSend [0x04]
      else (s.tagState (if star then .activeStar else .active)).tagSend [0x20]))

/-- The tag is selected and not yet in PROTOCOL. -/
def TagState.isActive (x : TagState) : Bool := x == .active || x == .activeStar

/-- HLTA (R521). -/
def execHlta (s : State) : Host.Outcome State Fault Refusal :=
  .next (s.whenTag (fun s => if s.tag.st.isActive then s.tagState .halt else s.tagUnexpected))

/-- RATS (R521): the ATS; PROTOCOL begins. -/
def execRats (s : State) : Host.Outcome State Fault Refusal :=
  .next (s.whenTag (fun s =>
    if s.tag.st.isActive then
      (s.onTag (fun t =>
        { t with st := .protocol, selected := false, chained := [], blockNumber := true, lastReply := [] })).tagSend
        [0x05, 0x78, 0x80, 0x70, 0x02]
    else s.tagUnexpected))

/-- PPS (R521): refused: no answer, no change of the bit rate. -/
def execPps (s : State) : Host.Outcome State Fault Refusal := .next s

/-- R_BLOCK (R521): under ISO/IEC 14443-4 the block number in force asks for the last response again; R(NAK) with the other one is
answered R(ACK) (PRESUMED, notes/assumptions/67.md). -/
def execRBlock (ack : Bool) (number : Bool) (s : State) : Host.Outcome State Fault Refusal :=
  .next (s.whenTag (fun s =>
    if s.tag.st != .protocol then s.tagUnexpected
    else if number == s.tag.blockNumber then s.tagSend s.tag.lastReply
    else if ack then s
    else s.tagSend [if s.tag.blockNumber then 0xA3 else 0xA2]))

/-- S_DESELECT (R521). -/
def execSDeselect (s : State) : Host.Outcome State Fault Refusal :=
  .next (s.whenTag (fun s =>
    if s.tag.st = .protocol then
      (s.onTag (fun t => { t with st := .halt, selected := false, chained := [] })).tagSend [0xC2]
    else s.tagUnexpected))

/-- DOFF (R525): the ACK, then silence until the deadline. -/
def execDoff (s : State) : Host.Outcome State Fault Refusal :=
  .next (s.whenTag (fun s =>
    if s.tag.st.isActive then
      (((s.tagSend [0x0A]).bump (okey 0x8000 0x0A)).tagState .powerOff).onVigil (fun v =>
        { v with doff := some (s.now + s.objNum (okey 0x8000 7) * second) })
    else if s.tag.st = .protocol then s
    else s.tagUnexpected))

/-- R525: Doff ends; with a field present the tag enters IDLE. -/
def State.leaveDoff (s : State) : State :=
  if s.vigil.doff.isNone then s
  else (s.onVigil (fun v => { v with doff := none })).onTag (fun t => { t with st := if t.field then .idle else .powerOff })

/-- DOFF_DEADLINE (R525): vigil time has reached the deadline. -/
def execDoffDeadline (s : State) : Host.Outcome State Fault Refusal :=
  .next (match s.vigil.doff with
    | some d => if d ≤ s.now then s.leaveDoff else s
    | none => s)

/-- END_DOFF (R525). -/
def endDoffAction : Action where
  arg := anyArg
  guard := noGuard
  act := fun _ _ s => (s.leaveDoff, .done)

/-- END_DOFF (R525). -/
def execEndDoff (f : Frame) (s : State) : Host.Outcome State Fault Refusal := .next (s.runCmd (okey 0x8000 9) f endDoffAction)

/-- FIELD_ON (R520). -/
def execFieldOn (s : State) : Host.Outcome State Fault Refusal :=
  .next (if s.tagSupplied then
      s.onTag (fun t => { t with field := true, st := if s.vigil.doff.isNone then .idle else .powerOff })
    else s)

/-- FIELD_LOSS (R529): the exchange is abandoned; a chained write has changed nothing. -/
def execFieldLoss (s : State) : Host.Outcome State Fault Refusal :=
  .next (s.settleWrites.onTag (fun t =>
    { t with field := false, st := .powerOff, selected := false, chained := [], lastReply := [] }))

/-! ## APDUs (R524) -/

/-- Answers an APDU: data and status words, kept for a retransmission; the block number turns. -/
def State.apduAnswer (b : List Byte) (s : State) : State :=
  (s.onTag (fun t => { t with lastReply := b, blockNumber := !t.blockNumber })).tagSend b

/-- An APDU in PROTOCOL. -/
def State.whenProtocol (f : State → State) (s : State) : State :=
  s.whenTag (fun s => if s.tag.st = .protocol then f s.settleWrites else s.tagUnexpected)

/-- An APDU of the selected application; before SELECT it is another command, which receives 6d 00 (R524; DEDUCED,
notes/assumptions/67.md). -/
def State.whenSelected (f : State → State) (s : State) : State :=
  s.whenProtocol (fun s => if s.tag.selected then f s else s.apduAnswer [0x6D, 0x00])

/-- R524: the application identifier. -/
def tagAid : List Byte := [0xF0, 0x4E, 0x4F, 0x52, 0x4E, 0x4C]

/-- APDU_SELECT (R524). -/
def execApduSelect (aid : List Byte) (s : State) : Host.Outcome State Fault Refusal :=
  .next (s.whenProtocol (fun s =>
    if aid = tagAid then (s.onTag (fun t => { t with selected := true })).apduAnswer [0x90, 0x00]
    else s.apduAnswer [0x6D, 0x00]))

/-- READ_RECORD (R524, R531). A number beyond the 32 records names none. -/
def execReadRecord (r : Fin 256) (s : State) : Host.Outcome State Fault Refusal :=
  .next (s.whenSelected (fun s =>
    if 32 ≤ r.val then s.apduAnswer [0x6A, 0x83]
    else if (s.tagAttr (Fin.ofNat 32 r.val)).testBit 0 then
      match s.recordData (Fin.ofNat 32 r.val) with
      | some b => s.apduAnswer (b ++ [0x90, 0x00])
      | none => s.apduAnswer [0x6A, 0x83]
    else s.apduAnswer [0x69, 0x82]))

/-- WRITE_RECORD (R524, R529): chained blocks gather in the receive buffer; the last one runs the write. -/
def execWriteRecord (r : Fin 256) (data : List Byte) (more : Bool) (s : State) : Host.Outcome State Fault Refusal :=
  .next (s.whenSelected (fun s =>
    let b := s.tag.chained ++ data
    if more then
      (s.onTag (fun t => { t with chained := b, blockNumber := !t.blockNumber })).tagSend
        [if s.tag.blockNumber then 0xA2 else 0xA3]
    else
      let s := s.onTag (fun t => { t with chained := [] })
      if 32 ≤ r.val || !(s.tagAttr (Fin.ofNat 32 r.val)).testBit 1 then s.apduAnswer [0x69, 0x82]
      else if 1008 < b.length then s.apduAnswer [0x6A, 0x80]
      else (s.writeTag (Fin.ofNat 32 r.val) b).apduAnswer [0x90, 0x00]))

/-- DIRECTORY (R524). -/
def execDirectory (s : State) : Host.Outcome State Fault Refusal :=
  .next (s.whenSelected (fun s =>
    s.apduAnswer ((List.ofFn (fun r : Fin 32 => r)).flatMap (fun r =>
      beOctets 2 ((s.recordData r).getD []).length ++ [octet (s.tagAttr r)]) ++ [0x90, 0x00])))

/-- UNKNOWN_APDU (R524). -/
def execUnknownApdu (s : State) : Host.Outcome State Fault Refusal :=
  .next (s.whenProtocol (State.apduAnswer [0x6D, 0x00]))

/-! ## The roster (R533, R537) -/

/-- State of a roster entry: 0 empty, 1 in force, 2 revoked. -/
def State.rosterState (s : State) (e : Nat) : Nat := ((s.objOctets (okey 0x8000 0x20)).getD e 0).toNat

/-- Key digest of a roster entry. -/
def State.rosterDigest (s : State) (e : Nat) : List Byte := ((s.objOctets (okey 0x8000 0x21)).drop (48 * e)).take 48

/-- Keys of a roster entry: ECDSA (97 octets), then ML-DSA-87 (2,592 octets). -/
def State.rosterKeys (s : State) (e : Nat) : List Byte :=
  ((padTo 43024 0 (s.objOctets (okey 0x8000 0x22))).drop (2689 * e)).take 2689

/-- The entries in force. -/
def State.rosterInForce (s : State) : List Nat := (List.range 16).filter (fun e => s.rosterState e == 1)

/-- The entry in force of a key digest. -/
def State.rosterOf (s : State) (digest : List Byte) : Option Nat := s.rosterInForce.find? (fun e => s.rosterDigest e == digest)

/-- Some entry, in force or revoked, holds a key digest. -/
def State.rosterKnows (s : State) (digest : List Byte) : Bool :=
  (List.range 16).any (fun e => s.rosterState e != 0 && s.rosterDigest e == digest)

/-- Enters keys into a roster entry. -/
def State.enrol (e : Nat) (keys : List Byte) (s : State) : State :=
  let s := s.put (okey 0x8000 0x22) (.octets (padTo 43024 0 (s.objOctets (okey 0x8000 0x22))))
  ((s.putOctetsAt (okey 0x8000 0x20) e [1]).putOctetsAt (okey 0x8000 0x21) (48 * e) (sha384 keys)).putOctetsAt
    (okey 0x8000 0x22) (2689 * e) keys

/-- R536: the two signatures over a message digest, by a key pair of 97 and 2,592 octets. -/
def hybridOk (keys digest ecSig mlSig : List Byte) (context : String) : Bool :=
  Config.ecdsaVerify 1 (keys.take 97) digest ecSig && Config.mldsaVerify 87 (keys.drop 97) digest (ascii context) mlSig

/-! ## Presentations (R534 to R538) -/

/-- R534: opens a presentation. -/
def State.openPresentation (purpose cmd : Nat) (a : Asker) (argument : List Byte) (s : State) : State :=
  let d := State.drawOctets 6 s
  d.2.onTag (fun t =>
    { t with presentation := some { cmd, session := a.session, since := s.now, accepted := [], tokens := [], argument },
             purpose, nonce := d.1.take 32, rejected := [], selectedTokens := [] })

/-- R534: a presentation is open. -/
def State.presenting (s : State) : Bool := s.tag.presentation.isSome

/-- OFFICER_ELEVATION (R52). -/
def elevationAction : Action where
  arg := anyArg
  guard := fun a _ s => if s.presenting then busyCode else if a.session.isNone then sessionRequired else 0
  act := fun a b s => (s.openPresentation purposeElevation (okey 0x1100 0x20) a b, .busy)

/-- OFFICER_ELEVATION (R52). -/
def execOfficerElevation (f : Frame) (s : State) : Host.Outcome State Fault Refusal :=
  .next (s.runCmd (okey 0x1100 0x20) f elevationAction)

/-- UNLOCK (R402). -/
def unlockAction : Action where
  arg := anyArg
  guard := fun _ _ s =>
    if s.modes.mode != .locked then notLocked else if s.presenting || s.tamper.unlockAccepted then busyCode else 0
  act := fun a b s => (s.openPresentation purposeUnlock (okey 0x6100 0x30) a b, .busy)

/-- UNLOCK (R402). -/
def execUnlock (f : Frame) (s : State) : Host.Outcome State Fault Refusal := .next (s.runCmd (okey 0x6100 0x30) f unlockAction)

/-- ROSTER_ADD (R537): the entry must be empty. -/
def rosterAddAction : Action where
  arg := argOf 1 (fun b => beNat b < 16)
  guard := fun _ b s => if s.presenting then busyCode else if s.rosterState (beNat b) = 0 then 0 else rosterEntry
  act := fun a b s =>
    if a.glovePair then (s.openPresentation purposeEnrolment (okey 0x8000 0x23) a b, .busy) else (s, .failed presenceRequired)

/-- ROSTER_ADD (R537). -/
def execRosterAdd (f : Frame) (s : State) : Host.Outcome State Fault Refusal := .next (s.runCmd (okey 0x8000 0x23) f rosterAddAction)

/-- ROSTER_REVOKE (R533). -/
def rosterRevokeAction : Action where
  arg := argOf 1 (fun b => beNat b < 16)
  guard := fun _ b s => if s.rosterState (beNat b) = 1 ∧ s.rosterInForce.length ≤ 2 then rosterMinimum else 0
  act := fun a b s =>
    if !a.glovePair then (s, .failed presenceRequired)
    else if s.rosterState (beNat b) = 1 then (s.putOctetsAt (okey 0x8000 0x20) (beNat b) [2], .done)
    else (s, .done)

/-- ROSTER_REVOKE (R533). -/
def execRosterRevoke (f : Frame) (s : State) : Host.Outcome State Fault Refusal :=
  .next (s.runCmd (okey 0x8000 0x24) f rosterRevokeAction)

/-- READER_POLL (R534, R535): skipped with an external field; else the tokens that answer are resolved. -/
def State.readerPoll (external : Bool) (tokens : List (List Byte)) (s : State) : State :=
  if !s.presenting then s
  else if external then s.wrapBy (okey 0x8000 0x14) 1
  else (s.send (.reader [0x26])).onTag (fun t =>
    { t with selectedTokens := tokens.filter (fun u => !t.rejected.contains u) })

/-- READER_POLL (R534). -/
def execReaderPoll (external : Bool) (tokens : List (List Byte)) (s : State) : Host.Outcome State Fault Refusal :=
  .next (s.whenLive (State.readerPoll external tokens))

/-- R536: a rejection for a failed step. -/
def State.rejectToken (uid : List Byte) (step : Nat) (s : State) : State :=
  let tail := beNat (uid.drop (uid.length - 3))
  ((s.event 0x5C (detailOf 1 (s.tag.purpose * 2 ^ 32 + step * 2 ^ 24 + tail))).bumpBy (okey 0x8000 0x13) 24 1).onTag
    (fun t => { t with rejected := uid :: t.rejected })

/-- R536: what the token signs. -/
def State.gloveChallenge (s : State) (t : TokenReply) : List Byte :=
  sha384 (ascii "NORNEL-GLOVE" ++ s.objOctets (okey 0x1000 4) ++ [octet s.tag.purpose] ++ s.tag.nonce ++ t.uid ++ t.keyDigest)

/-- R88, R537: elevation enrols: in Provision, with fewer than two entries in force. -/
def State.enrols (s : State) : Bool :=
  s.tag.purpose == purposeElevation && s.modes.mode == .provision && s.rosterInForce.length < 2

/-- The tokens enrolled so far with the empty entries that they are to fill, ascending (R537). -/
def State.enrolments (s : State) (p : Presentation) : List (Nat × List Byte) :=
  ((List.range 16).filter (fun e => s.rosterState e == 0)).zip p.tokens

/-- R537: the entry that a token counts as, for elevation and unlock. -/
def State.tokenEntry (s : State) (p : Presentation) (digest : List Byte) : Option Nat :=
  match s.rosterOf digest with
  | some e => some e
  | none => ((s.enrolments p).find? (fun x => sha384 x.2 == digest)).map (fun x => x.1)

/-- R402: a source whose response is Lock or Erase is raised. -/
def State.lockRaised (s : State) : Bool := s.someRaised 3

/-- R363: a new V. -/
def State.newVigilRoot (s : State) : State :=
  let d := State.drawOctets 11 s
  (((d.2.onKeys (fun u => { u with vigilRoot := some (BitVec.ofNat 512 (beNat (d.1.take 64))) })).setFlag flagVPresent
    true).putNum (okey 0x5000 3) 1).putNum (okey 0x5000 4) 1

/-- R402 step 3: the unlock is accepted; the device reset follows (DEVICE_RESET). -/
def State.acceptUnlock (lo hi : Nat) (s : State) : State :=
  let fresh := s.keys.vigilRoot.isNone
  let s := (s.setFlag flagLocked false).setFlag flagRestrained false
  let s := s.event 0x08 (detailOf 1 ((if fresh then 2 ^ 16 else 0) + lo * 2 ^ 8 + hi))
  let s := if fresh then s.newVigilRoot else s
  s.onTamper (fun t => { t with unlockAccepted := true })

/-- The presentation closes and leaves its CMD Busy. -/
def State.dropPresentation (s : State) : State :=
  s.onTag (fun t => { t with presentation := none, purpose := 0, rejected := [], selectedTokens := [] })

/-- R537: a presentation whose pair is complete. -/
def State.pairComplete (p : Presentation) (a b : Nat) (s : State) : State :=
  let lo := min a b
  let hi := max a b
  let s := s.put (okey 0x8000 0x12) (.octets [octet lo, octet hi])
  if s.tag.purpose = purposeUnlock then
    (if s.lockRaised then s.closePresentation cmdFailed sourceActive else s.dropPresentation.acceptUnlock lo hi)
  else
    let s := s.forAll (if s.enrols then s.enrolments p else []) (fun e => State.enrol e.1 e.2)
    match p.session.bind s.session with
    | some x =>
      (s.onSession x.id (fun y => { y with role := .officer, glovePair := true, officers := some (lo, hi) })).closePresentation
        cmdDone 0
    | none => s.closePresentation cmdFailed elevationFailed

/-- R537: a token has been accepted as an entry. -/
def State.acceptEntry (e : Nat) (s : State) : State :=
  match s.tag.presentation with
  | none => s
  | some p =>
    let p : Presentation := if p.accepted.contains e then p else { p with accepted := p.accepted ++ [e] }
    let s := s.onTag (fun t => { t with presentation := some p })
    match p.accepted with
    | a :: b :: _ => s.pairComplete p a b
    | _ => s

/-- R536: keys presented for enrolment belong to the key digest. -/
def tokenKeysOk (t : TokenReply) : Bool := t.keys.length == 2689 && sha384 t.keys == t.keyDigest

/-- R536: authentication for elevation or unlock under an entry's keys, or an enrolment of R88. -/
def State.authenticatePair (p : Presentation) (t : TokenReply) (s : State) : State :=
  let c := s.gloveChallenge t
  match s.tokenEntry p t.keyDigest with
  | some e =>
    let keys := match s.rosterOf t.keyDigest with | some x => s.rosterKeys x | none => t.keys
    if hybridOk keys c t.ecSig t.mlSig "NORNEL-GLOVE" then s.acceptEntry e else s.rejectToken t.uid 5
  | none =>
    if !s.enrols then s.rejectToken t.uid 6
    else if !tokenKeysOk t then s.rejectToken t.uid 2
    else if !hybridOk t.keys c t.ecSig t.mlSig "NORNEL-GLOVE" then s.rejectToken t.uid 5
    else
      let q : Presentation := { p with tokens := p.tokens ++ [t.keys] }
      let s := s.onTag (fun x => { x with presentation := some q })
      match s.tokenEntry q t.keyDigest with
      | some e => s.acceptEntry e
      | none => s

/-- R536, R537: authentication for a roster addition. -/
def State.authenticateAdd (p : Presentation) (t : TokenReply) (s : State) : State :=
  if !tokenKeysOk t then s.rejectToken t.uid 2
  else if !hybridOk t.keys (s.gloveChallenge t) t.ecSig t.mlSig "NORNEL-GLOVE" then s.rejectToken t.uid 5
  else if s.rosterKnows t.keyDigest then s.rejectToken t.uid 6
  else if s.rosterState (beNat p.argument) != 0 then s.closePresentation cmdFailed rosterEntry
  else (s.enrol (beNat p.argument) t.keys).closePresentation cmdDone 0

/-- TOKEN_AUTHENTICATION (R536): of a token that the last poll resolved. -/
def State.authenticate (t : TokenReply) (s : State) : State :=
  match s.tag.presentation with
  | none => s
  | some p =>
    if !s.tag.selectedTokens.contains t.uid then s
    else
      let s := s.onTag (fun x => { x with selectedTokens := x.selectedTokens.filter (fun u => u != t.uid) })
      if t.left then s
      else match t.failedStep with
      | some n => s.rejectToken t.uid n
      | none => if s.tag.purpose = purposeEnrolment then s.authenticateAdd p t else s.authenticatePair p t

/-- TOKEN_AUTHENTICATION (R536). -/
def execTokenAuthentication (t : TokenReply) (s : State) : Host.Outcome State Fault Refusal :=
  .next (s.whenLive (State.authenticate t))

/-- PRESENTATION_TIMEOUT (R537, R402): a failed unlock is counted. -/
def execPresentationTimeout (s : State) : Host.Outcome State Fault Refusal :=
  .next (s.whenLive (fun s =>
    let s := if s.tag.purpose = purposeUnlock then s.bumpBy (okey 0x6100 0x31) 24 1 else s
    s.closePresentation cmdFailed elevationFailed))

/-- 0x8000:10. -/
def State.presentationState (s : State) : Nat :=
  match s.tag.presentation with
  | none => 0
  | some p => if p.accepted.isEmpty then 1 else 2

/-- 0x8000:08: seconds of Doff remaining, rounded up. -/
def State.doffRemaining (s : State) : Nat :=
  match s.vigil.doff with
  | some d => (d - s.now + second - 1) / second
  | none => 0

end Sys2Proof.Machine
end

