-- ==== Sys2Proof/Machine/Cards.lean ====
section
/-! DEFINITION. The keeper card bus: identification, labels, the card-intent journal, archive, stage and prepare
(spec/17_keeper_cards.md). -/

namespace Sys2Proof.Machine

/-! ## Codes (R560) -/

def cardAbsent : Nat := 0x0E0001
def cardNotPrepared : Nat := 0x0E0002
def cardFull : Nat := 0x0E0003
def cardError : Nat := 0x0E0004
def journalInDoubt : Nat := 0x0E0005
def cardMode : Nat := 0x0E0006

/-! ## The keeper label (R549) -/

/-- An empty directory entry. -/
def CardImage.none : CardImage := { number := 0, kind := 0, start := 0, length := 0, digest := List.replicate 48 0 }

/-- R549: the 74 octets of a directory entry. -/
def CardImage.octets (i : CardImage) : List Byte :=
  [octet i.number, octet i.kind] ++ beOctets 4 i.start ++ beOctets 4 i.length ++ padTo 48 0 i.digest ++ List.replicate 16 0

/-- R549: octets 0 to 507 of a label. -/
def Label.body (l : Label) : List Byte :=
  [0x4B, 0x50, 0x52, 0x31, 1, octet l.role] ++ beOctets 6 l.generation ++ padTo 12 0 l.serial ++ beOctets 6 l.lastSequence ++
    beOctets 4 l.nextBlock ++ beOctets 4 l.split ++ List.replicate 26 0 ++
    (List.range 6).flatMap (fun k => (l.images.getD k CardImage.none).octets)

/-- R549: the 512 octets of a label. -/
def Label.octets (l : Label) : List Byte := l.body ++ beOctets 4 (crc32 l.body).toNat

/-- A directory entry from its 74 octets. -/
def CardImage.ofOctets (b : List Byte) : CardImage :=
  { number := beNat (b.take 1), kind := beNat ((b.drop 1).take 1), start := beNat ((b.drop 2).take 4),
    length := beNat ((b.drop 6).take 4), digest := (b.drop 10).take 48 }

/-- R549: a label copy is valid when its magic, format and CRC are correct. -/
def Label.ofOctets (b : List Byte) : Option Label :=
  if b.length = 512 ∧ b.take 5 = [0x4B, 0x50, 0x52, 0x31, 1] ∧ b.drop 508 = beOctets 4 (crc32 (b.take 508)).toNat then
    some { role := beNat ((b.drop 5).take 1), generation := beNat ((b.drop 6).take 6), serial := (b.drop 12).take 12,
           lastSequence := beNat ((b.drop 24).take 6), nextBlock := beNat ((b.drop 30).take 4),
           split := beNat ((b.drop 34).take 4),
           images := (List.range 6).map (fun k => CardImage.ofOctets ((b.drop (64 + 74 * k)).take 74)) }
  else none

/-- R549: the card's label, the valid copy of higher generation, with its block. -/
def Card.label (c : Card) : Option (Fin 2 × Label) :=
  match c.labels[(0 : Fin 2)], c.labels[(1 : Fin 2)] with
  | some a, some b => if a.generation < b.generation then some (1, b) else some (0, a)
  | some a, none => some (0, a)
  | none, some b => some (1, b)
  | none, none => none

/-- R549: the block that the next label write goes to. -/
def Card.otherCopy (c : Card) : Fin 2 :=
  match c.label with
  | some (i, _) => if i = 0 then 1 else 0
  | none => 0

/-- R549: the generation of the next label write. -/
def Card.nextGeneration (c : Card) : Nat :=
  match c.label with
  | some (_, l) => (l.generation + 1) % 2 ^ 48
  | none => 1

/-- R548: the CID digest. -/
def cidDigest (cid : List Byte) : List Byte := (sha384 cid).take 12

/-! ## Identification (R546, R547) -/

/-- The card of an index. -/
def State.card (s : State) (i : Fin 4) : Option Card := s.cards.table[i]

/-- Sets the card of an index. -/
def State.setCard (i : Fin 4) (c : Option Card) (s : State) : State :=
  s.onCards (fun x => { x with table := x.table.set i c })

def cardIndexes : List (Fin 4) := [0, 1, 2, 3]

/-- The bus is ON. -/
def State.cardsOn (s : State) : Bool := s.cards.fn.st == .on

/-- R544, R546, R548, R549: the entry of an identified card. -/
def cardEntry (c : CardReply) : Card :=
  { cid := cidDigest c.cid, capacity := c.capacity,
    mode := if c.fourBit && c.highSpeed then 3 else if c.fourBit then 2 else 1,
    labels := #v[Label.ofOctets c.labels.1, Label.ofOctets c.labels.2] }

/-- R546, R547: a seated card is identified and takes the lowest free address; a fifth stays without one. -/
def State.insertCard (k : Fin 4) (c : CardReply) (s : State) : State :=
  if !s.cardsOn || s.cards.detect[k] then s
  else
    let s := s.onCards (fun x => { x with detect := x.detect.set k true })
    if !c.ready then s
    else match cardIndexes.find? (fun i => (s.card i).isNone) with
    | some i => (s.setCard i (some (cardEntry c))).onCards (fun x => { x with staged := x.staged.set i (List.replicate 6 0) })
    | none => s.event 0x5D 0

/-- CARD_INSERTION (R547); at a start and when the bus reaches ON every seated card is identified so (R546; DESIGN CHOICE,
notes/assumptions/68.md). -/
def execCardInsertion (k : Fin 4) (c : CardReply) (s : State) : Host.Outcome State Fault Refusal :=
  .next (s.whenLive (State.insertCard k c))

/-- R547: the addresses that answer no CMD13 are freed. -/
def State.removeCard (k : Fin 4) (answers : List Bool) (s : State) : State :=
  if !s.cardsOn || !s.cards.detect[k] then s
  else
    let s := (s.onCards (fun x => { x with detect := x.detect.set k false })).abortCardOp actionAborted
    s.forAll cardIndexes (fun i s =>
      if answers.getD i.val false then s
      else (s.setCard i none).onCards (fun x => { x with staged := x.staged.set i (List.replicate 6 0) }))

/-- The card table as after a start or a stop of the bus: no card is identified (R546). -/
def State.forgetCards (s : State) : State :=
  s.onCards (fun x =>
    { x with table := Vector.replicate 4 none, detect := Vector.replicate 4 false,
             staged := Vector.replicate 4 (List.replicate 6 0), archive := 0 })

/-! ## The journal (R554) -/

/-- Word offset of journal entry i in bank 0. -/
def journalAt (i : Nat) : Nat := 1044 * 2048 + 16 * i

/-- R554: code of an operation. -/
def CardOpKind.code : CardOpKind → Nat
  | .archive => 1 | .stage => 2 | .prepare => 3

/-- R554: words 0 to 14 of an entry. -/
def JournalEntry.entryWords (e : JournalEntry) : List Word :=
  [BitVec.ofNat 48 (0x4B4A45 * 2 ^ 24 + e.op.code * 2 ^ 16)] ++ packWords 2 (padTo 12 0 e.cid) ++
    [BitVec.ofNat 48 e.first, BitVec.ofNat 48 (e.blocks * 2 ^ 24 + e.records * 2 ^ 8 + e.labelBlock % 2),
     BitVec.ofNat 48 e.generation, BitVec.ofNat 48 e.item] ++ packWords 8 (padTo 48 0 e.digest)

/-- R554: an entry takes the next place of the ring. -/
def State.placeEntry (e : JournalEntry) (s : State) : State :=
  let at_ := journalAt s.cards.journalNext
  (s.programWords 0 at_ e.entryWords).onCards (fun c =>
    { c with unresolved := c.unresolved ++ [{ e with at_ := at_ }], journalNext := (c.journalNext + 1) % 1024 })

/-- R554: the unresolved entries of a sector are copied forward and the old copies retired; then the sector is erased. -/
def State.eraseJournal (sector : Nat) (s : State) : State :=
  let old := s.cards.unresolved.filter (fun e => e.at_ / 2048 == sector)
  let s := s.forAll old (fun (e : JournalEntry) s =>
    ((s.onCards (fun c => { c with unresolved := c.unresolved.filter (fun x => x.at_ != e.at_) })).placeEntry e).programWord 0
      (e.at_ + 15) 0)
  s.eraseNow 0 sector

/-- R551 step 1: programs an entry. The sector ahead is erased while the present one has room for four copies (DESIGN
CHOICE, notes/assumptions/68.md). -/
def State.journalCard (e : JournalEntry) (s : State) : State :=
  let n := s.cards.journalNext
  let s := if n % 128 = 124 ∧ s.sectorErased 0 (1044 + (n / 128 + 1) % 8) = false then s.eraseJournal (1044 + (n / 128 + 1) % 8)
    else s
  s.placeEntry e

/-- The outcome word of a done operation (R554). -/
def outcomeDone : Word := 0x00AC4B000001

/-- R554: finishes an entry with its outcome word: done, or the retire pattern for rolled back. -/
def State.closeEntry (e : JournalEntry) (w : Word) (s : State) : State :=
  (s.programWord 0 (e.at_ + 15) w).onCards (fun c => { c with unresolved := c.unresolved.filter (fun x => x.at_ != e.at_) })

/-! ## Operations (R551) -/

/-- R555: a present card with an in-doubt entry. -/
def State.inDoubt (s : State) (c : Card) : Bool := s.cards.unresolved.any (fun e => e.inDoubt && e.cid == c.cid)

/-- R557: a resolution is due. -/
def State.resolutionDue (s : State) : Bool := s.cards.table.toList.any (fun c => match c with | some x => s.inDoubt x | none => false)

/-- R557: a recovery read for Gate from a card is in progress. -/
def State.cardRecovery (s : State) : Bool :=
  s.chans.toList.any (fun c => c.regions.any (fun e => e.2.recovering == some RecoveryRead.card))

/-- The modes in which the runtime uses cards (DESIGN CHOICE, notes/assumptions/68.md). -/
def Mode.usesCards : Mode → Bool
  | .gate | .serve | .maintain | .ceremony => true
  | _ => false

/-- The bus may take an operation below a resolution now. -/
def State.cardBusFree (s : State) : Bool :=
  s.cardsOn && s.modes.mode.usesCards && s.cards.op.isNone && !s.cardRecovery && !s.resolutionDue && !s.dict.restarting

/-- The card at an index has this label copy. -/
def State.setLabel (i : Fin 4) (block : Nat) (l : Option Label) (s : State) : State :=
  match s.card i with
  | some c => s.setCard i (some { c with labels := if block = 0 then c.labels.set 0 l else c.labels.set 1 l })
  | none => s

/-- Step 4: the label is written. -/
def State.writeLabel (o : CardOp) (s : State) : State :=
  (s.onCards (fun c => { c with op := some { o with step := 5, busy := true, missed := 0 } })).send (.card o.index
    ([0x58] ++ beOctets 4 o.entry.labelBlock ++ o.label.octets))

/-- Steps 1 and 2: the entry is journalled, the data blocks are written; an operation without data goes to step 4. -/
def State.startCard (index : Fin 4) (op : CardOpKind) (first records item more : Nat) (data : List Byte) (label : Label)
    (cmd : Option Nat) (s : State) : State :=
  match s.card index with
  | none => s
  | some c =>
    let block := c.otherCopy
    let e : JournalEntry :=
      { op, cid := c.cid, first, blocks := data.length / 512, records, labelBlock := block.val, generation := label.generation,
        item, digest := sha384 (data ++ label.octets), at_ := journalAt s.cards.journalNext, inDoubt := false }
    let s := s.journalCard e
    let e := (s.cards.unresolved.getLast?).getD e
    let o : CardOp := { entry := e, index, step := 3, busy := true, missed := 0, label, more, cmd }
    if data.isEmpty then s.writeLabel o
    else (s.onCards (fun c => { c with op := some o })).send (.card index
      ([0x57] ++ beOctets 4 e.blocks ++ [0x59] ++ beOctets 4 first ++ data))

/-! ## Archive (R556) -/

/-- R556: the archive card: the lowest index whose label is an archive's with this device's serial. -/
def State.archiveCard (s : State) : Option (Fin 4 × Card × Label) :=
  cardIndexes.findSome? (fun i =>
    match s.card i with
    | some c =>
      (match c.label with
      | some (_, l) => if l.role = 1 ∧ l.serial = s.objOctets (okey 0x1000 4) then some (i, c, l) else none
      | none => none)
    | none => none)

/-- R550: a record's frame on a card. -/
def cardFrame (q : Nat) (b : List Byte) : List Byte := padTo ((16 + b.length + 511) / 512 * 512) 0 (frameHeader 0 q b.length ++ b)

/-- R550, R556: the frames that follow one another before the split block, with the sequence of the last. -/
def fitFrames : Nat → Nat → List (Nat × List Byte) → List (Nat × List Byte)
  | _, _, [] => []
  | 0, _, _ => []
  | n + 1, room, (q, f) :: rest => if f.length / 512 ≤ room then (q, f) :: fitFrames n (room - f.length / 512) rest else []

/-- R556: the committed records above a sequence, as card frames. -/
def State.archiveFrames (s : State) (above : Nat) : List (Nat × List Byte) :=
  (s.ledger.records.filter (fun r => above < r.sequence)).filterMap (fun r =>
    (s.recordOctets r).map (fun b => (r.sequence, cardFrame r.sequence b)))

/-- Archive states of 0x8200:08. -/
def State.archiveState (n : Nat) (s : State) : State := s.onCards (fun c => { c with archive := n })

/-- R556: an archive operation starts, when one is due. -/
def State.archive (s : State) : State :=
  if s.objNum (okey 0x3100 0x22) = 0 ∨ s.cardBusFree = false then s
  else match s.archiveCard with
  | none => s.archiveState 3
  | some (i, c, l) =>
    let due := s.archiveFrames l.lastSequence
    let fit := fitFrames 64 (l.split - l.nextBlock) due
    if due.isEmpty then s.archiveState 0
    else if fit.isEmpty then (if s.cards.archive = 2 then s else (s.archiveState 2).event 0x5D 0)
    else
      let data := fit.flatMap (fun e => e.2)
      let last := (fit.getLast?.map (fun e => e.1)).getD 0
      let label := { l with generation := c.nextGeneration, lastSequence := last, nextBlock := l.nextBlock + data.length / 512 }
      (s.archiveState 1).startCard i .archive l.nextBlock fit.length last 0 data label none

/-- CARD_ARCHIVE (R556). -/
def execCardArchive (s : State) : Host.Outcome State Fault Refusal := .next (s.whenLive State.archive)

/-! ## Prepare and stage (R549, R550, R559) -/

/-- R550: blocks that an image takes. -/
def CardImage.blocks (i : CardImage) : Nat := (i.length + 511) / 512

/-- R550: the lowest free range of n blocks in the image area. -/
def Label.freeRange (l : Label) (capacity n : Nat) : Option Nat :=
  let used := l.images.filter (fun i => i.kind != 0)
  let starts := (l.split :: used.map (fun i => i.start + i.blocks)).filter (fun a =>
    l.split ≤ a && a + n ≤ capacity && used.all (fun i => a + n ≤ i.start || i.start + i.blocks ≤ a))
  starts.min?

/-- The directory place of an image number: the entry it replaces, or the first empty one. -/
def Label.placeOf (l : Label) (number : Nat) : Option Nat :=
  match l.images.findIdx? (fun i => i.kind != 0 && i.number == number) with
  | some k => some k
  | none => l.images.findIdx? (fun i => i.kind == 0)

/-- The card index that the first octet of a payload names. -/
def cardOf (b : List Byte) : Fin 4 := ⟨beNat (b.take 1) % 4, Nat.mod_lt _ (by decide)⟩

/-- R549: the label that prepare writes. A prepared card starts empty (DESIGN CHOICE, notes/assumptions/68.md). -/
def State.preparedLabel (s : State) (c : Card) (role split : Nat) : Label :=
  { role, generation := c.nextGeneration, serial := if role = 1 then s.objOctets (okey 0x1000 4) else List.replicate 12 0,
    lastSequence := 0, nextBlock := if role = 1 then 2 else 0, split, images := List.replicate 6 CardImage.none }

/-- What a prepare or stage is refused for when its turn comes: 0, or its code. -/
def State.cardCode (s : State) (cmd : Nat) (b : List Byte) : Nat :=
  match s.card (cardOf b) with
  | none => cardAbsent
  | some c =>
    if s.inDoubt c then journalInDoubt
    else if cmd = okey 0x8200 0x20 then (if beNat ((b.drop 1).take 1) = 2 ∧ c.mode ≠ 3 then cardMode else 0)
    else match c.label with
    | none => cardNotPrepared
    | some (_, l) =>
      if l.role ≠ 2 then cardNotPrepared
      else if c.mode ≠ 3 then cardMode
      else
        let n := ((s.objOctets (okey 0x8200 0x22)).length + 511) / 512
        if (l.freeRange c.capacity n).isNone || (l.placeOf (beNat ((b.drop 1).take 1))).isNone then cardFull else 0

/-- R549, R559: prepare begins; `more` copies follow this one. -/
def State.startPrepare (i : Fin 4) (role split more : Nat) (s : State) : State :=
  match s.card i with
  | none => s
  | some c => s.startCard i .prepare 0 0 0 more [] (s.preparedLabel c role split) (some (okey 0x8200 0x20))

/-- R550, R551: stage begins. -/
def State.startStage (i : Fin 4) (number kind : Nat) (s : State) : State :=
  match s.card i with
  | none => s
  | some c =>
    match c.label with
    | none => s
    | some (_, l) =>
      let content := s.objOctets (okey 0x8200 0x22)
      let data := padTo ((content.length + 511) / 512 * 512) 0 content
      match l.freeRange c.capacity (data.length / 512), l.placeOf number with
      | some start, some k =>
        let image : CardImage := { number, kind, start, length := content.length, digest := sha384 content }
        s.startCard i .stage start 0 (number * 2 ^ 40 + content.length % 2 ^ 32) 0 data
          { l with generation := c.nextGeneration, images := l.images.set k image } (some (okey 0x8200 0x21))
      | _, _ => s

/-- R557: a prepare or stage whose turn has come. -/
def State.runCard (cmd : Nat) (b : List Byte) (s : State) : State :=
  let code := s.cardCode cmd b
  if code != 0 then s.failCmd cmd code
  else if cmd = okey 0x8200 0x20 then s.startPrepare (cardOf b) (beNat ((b.drop 1).take 1)) (beNat ((b.drop 2).take 4)) 1
  else s.startStage (cardOf b) (beNat ((b.drop 1).take 1)) (beNat ((b.drop 2).take 1))

/-- R557: while the bus is free, an archive that is due goes first, then the CMDs that wait, in order. -/
def State.pumpCards : Nat → State → State
  | 0, s => s
  | n + 1, s =>
    match s.cards.waiting with
    | [] => s
    | (cmd, b) :: rest =>
      if !s.cardBusFree then s
      else
        let t := s.archive
        if t.cards.op.isSome then t
        else State.pumpCards n ((t.onCards (fun c => { c with waiting := rest })).runCard cmd b)

/-- The free bus is given to what waits for it. -/
def State.turnCards (s : State) : State := s.pumpCards (s.cards.waiting.length + 1)

/-- CARD_REMOVAL (R547): the bus then goes to what waits for it (R557). -/
def execCardRemoval (k : Fin 4) (answers : List Bool) (s : State) : Host.Outcome State Fault Refusal :=
  .next (s.whenLive (fun s => (s.removeCard k answers).turnCards))

/-- Prepare and stage wait for their turn, unless the card is not there or not fit. -/
def cardAction (cmd : Nat) (arg : List Byte → Nat) : Action where
  arg := arg
  guard := noGuard
  act := fun _ b s =>
    let code := s.cardCode cmd b
    if code != 0 then (s, .failed code)
    else ((s.onCards (fun c => { c with waiting := c.waiting ++ [(cmd, b)] })).turnCards, .busy)

/-- PREPARE_CARD: card index, role, split block. -/
def prepareAction : Action :=
  cardAction (okey 0x8200 0x20) (argOf 6 (fun b =>
    beNat (b.take 1) < 4 && (beNat ((b.drop 1).take 1) == 1 || beNat ((b.drop 1).take 1) == 2) && 2 ≤ beNat ((b.drop 2).take 4)))

/-- PREPARE_CARD (R549, R559): 0x8200:20. -/
def execPrepareCard (f : Frame) (s : State) : Host.Outcome State Fault Refusal :=
  .next (s.runCmd (okey 0x8200 0x20) f prepareAction)

/-- STAGE_IMAGE: card index, image number, kind. -/
def stageAction : Action :=
  cardAction (okey 0x8200 0x21) (argOf 3 (fun b =>
    beNat (b.take 1) < 4 && (beNat ((b.drop 2).take 1) == 1 || beNat ((b.drop 2).take 1) == 2)))

/-- STAGE_IMAGE (R551, R559): 0x8200:21. -/
def execStageImage (f : Frame) (s : State) : Host.Outcome State Fault Refusal :=
  .next (s.runCmd (okey 0x8200 0x21) f stageAction)

/-! ## The end of a step (R552) -/

/-- R551 step 7: the device-side state of an entry that is done. -/
def State.advanceCard (e : JournalEntry) (index : Fin 4) (label : Label) (s : State) : State :=
  match e.op with
  | .archive =>
    let s := s.archiveState 0
    if (s.objNum (okey 0x3100 0x0B)).testBit 2 then s.acknowledge e.item else s
  | .stage =>
    let number := e.item / 2 ^ 40
    match label.images.findIdx? (fun i => i.kind != 0 && i.number == number) with
    | some k => s.onCards (fun c => { c with staged := c.staged.set index (c.staged[index].set k number) })
    | none => s
  | .prepare => s

/-- Steps 6 and 7, and the second copy of a prepare. -/
def State.finishCard (o : CardOp) (i : Fin 4) (s : State) : State :=
  let s := ((s.onCards (fun c => { c with op := none })).closeEntry o.entry outcomeDone).setLabel i o.entry.labelBlock (some o.label)
  let s := s.advanceCard o.entry i o.label
  if o.more = 0 then (match o.cmd with | some k => s.doneCmd k | none => s).turnCards
  else s.startPrepare i o.label.role o.label.split (o.more - 1)

/-- R552: rolled back at once. -/
def State.rollbackNow (o : CardOp) (s : State) : State :=
  let s := (s.onCards (fun c => { c with op := none, archive := if o.entry.op = .archive then 0 else c.archive })).closeEntry o.entry 0
  (match o.cmd with | some k => s.failCmd k cardError | none => s).turnCards

/-- R552: in doubt. -/
def State.leaveInDoubt (o : CardOp) (s : State) : State :=
  let s := match o.cmd with | some k => s.failCmd k journalInDoubt | none => s
  (s.abortCardOp journalInDoubt).turnCards

/-- R552: a response that did not come, or is worth none: CMD13 is sent a second time. -/
def State.missCard (o : CardOp) (s : State) : State :=
  if o.missed + 1 < 2 then
    (s.onCards (fun c => { c with op := some { o with busy := false, missed := o.missed + 1 } })).send (.card o.index [0x4D])
  else s.leaveInDoubt o

/-- R552: a failure that the card itself reports. -/
def State.failCard (o : CardOp) (s : State) : State := if o.step = 3 then s.rollbackNow o else s.leaveInDoubt o

/-- CARD_WRITE_BUSY_END (R552): CMD13 follows. -/
def State.busyEnd (s : State) : State :=
  match s.cards.op with
  | some o =>
    if o.busy then (s.onCards (fun c => { c with op := some { o with busy := false } })).send (.card o.index [0x4D]) else s
  | none => s

/-- CARD_WRITE_BUSY_END (R552). -/
def execCardWriteBusyEnd (s : State) : Host.Outcome State Fault Refusal := .next (s.whenLive State.busyEnd)

/-- R552: error bits [31:19] and bit 7 of a CMD13 response. -/
def cardErrors (bits : BitVec 32) : Bool := bits.toNat / 2 ^ 19 != 0 || bits.getLsbD 7

/-- CARD_STATUS_RESPONSE (R552). A response without an error in another state than tran proves nothing: CMD13 is sent again
(DEDUCED, notes/assumptions/68.md). -/
def State.cardStatus (r : CardStatus) (s : State) : State :=
  match s.cards.op with
  | none => s
  | some o =>
    match r with
    | .badToken => s.failCard o
    | .missing => if o.busy then s else (s.missCard o)
    | .response bits =>
      if o.busy then s
      else if cardErrors bits then s.failCard o
      else if bits.toNat / 2 ^ 9 % 16 ≠ 4 then s.send (.card o.index [0x4D])
      else if o.step = 3 then s.writeLabel o
      else s.finishCard o o.index

/-- CARD_STATUS_RESPONSE (R552). -/
def execCardStatusResponse (r : CardStatus) (s : State) : Host.Outcome State Fault Refusal :=
  .next (s.whenLive (State.cardStatus r))

/-- CARD_BUSY_TIMEOUT (R552): a missing response. -/
def execCardBusyTimeout (s : State) : Host.Outcome State Fault Refusal :=
  .next (s.whenLive (fun s =>
    match s.cards.op with
    | some o => if o.busy then s.missCard o else s
    | none => s))

/-! ## Resolution (R555) -/

/-- R555: the entry of a present card that is resolved next. -/
def State.doubtOf (s : State) (i : Fin 4) : Option JournalEntry :=
  match s.card i with
  | some c => s.cards.unresolved.find? (fun e => e.inDoubt && e.cid == c.cid)
  | none => none

/-- R555 step 4: the roll back; a rewrite of the label may be needed, and may fail. -/
def State.rollbackEntry (e : JournalEntry) (i : Fin 4) (found : Option Label) (rewriteOk : Bool) (s : State) : State :=
  let other : Option Label := (s.card i).bind (fun c => if e.labelBlock = 0 then c.labels[(1 : Fin 2)] else c.labels[(0 : Fin 2)])
  let newer := match found with | some l => l.generation == e.generation | none => false
  match newer, other with
  | true, some l =>
    let back := { l with generation := (e.generation + 1) % 2 ^ 48 }
    let s := s.send (.card i ([0x58] ++ beOctets 4 e.labelBlock ++ back.octets))
    if rewriteOk then ((s.setLabel i e.labelBlock (some back)).closeEntry e 0).bumpBy (okey 0x8200 7) 24 1 else s
  | _, _ => ((s.setLabel i e.labelBlock found).closeEntry e 0).bumpBy (okey 0x8200 7) 24 1

/-- JOURNAL_RESOLUTION (R555): the data blocks and the label block that the entry names are read. -/
def State.resolveEntry (i : Fin 4) (content : List Byte) (rewriteOk : Bool) (s : State) : State :=
  match s.doubtOf i with
  | none => s
  | some e =>
    if !s.cardsOn || !s.modes.mode.usesCards || s.cards.op.isSome || s.cardRecovery || content.length ≠ 512 * (e.blocks + 1) then s
    else
      let found := Label.ofOctets (content.drop (512 * e.blocks))
      match decide (sha384 content = e.digest), found with
      | true, some l => (((s.closeEntry e outcomeDone).setLabel i e.labelBlock (some l)).advanceCard e i l).turnCards
      | _, _ => (s.rollbackEntry e i found rewriteOk).turnCards

/-- JOURNAL_RESOLUTION (R555). -/
def execJournalResolution (index : Fin 4) (content : List Byte) (rewriteOk : Bool) (s : State) :
    Host.Outcome State Fault Refusal :=
  .next (s.whenLive (State.resolveEntry index content rewriteOk))

/-! ## Objects (R559) -/

/-- 0x8200:04. -/
def State.cardTable (s : State) : List Byte :=
  cardIndexes.flatMap (fun i =>
    match s.card i with
    | some c => beOctets 2 (i.val + 1) ++ padTo 12 0 c.cid ++ beOctets 4 c.capacity ++
        [octet ((c.label.map (fun e => e.2.role)).getD 0), octet c.mode]
    | none => List.replicate 20 0)

/-- 0x8200:05. -/
def State.stagedImages (s : State) : List Byte := s.cards.staged.toList.flatMap (fun l => (List.range 6).map (fun k => octet (l.getD k 0)))

/-- R111: at a device reset the operation in progress is cut: its entry is in doubt. -/
def State.resetCards (s : State) : State :=
  (((s.abortCards).forgetCards).onCards (fun c =>
    { c with fn := Switchable.initial, unresolved := c.unresolved.map (fun e => { e with inDoubt := true }) }))

end Sys2Proof.Machine
end

