-- ==== Sys2Proof/Machine/Functions.lean ====
section
/-! DEFINITION. The switchable functions: host ports, tag, keeper card bus (R115, R116, R166, R532, R559). -/

namespace Sys2Proof.Machine

/-- The index and the subindexes of a function's Enable and Disable. -/
def fnEnable : FnId → Nat
  | .hostPort n => ckey 2 n 2
  | .tag => okey 0x8000 3
  | .cards => okey 0x8200 1

def fnDisable : FnId → Nat
  | .hostPort n => ckey 2 n 3
  | .tag => okey 0x8000 4
  | .cards => okey 0x8200 2

/-- The function whose Enable or Disable object has this index. -/
def fnOfIndex (index : Nat) : Option FnId :=
  if index = 0x8000 then some .tag
  else if index = 0x8200 then some .cards
  else (channels.find? (fun n => index == 0x2002 + 256 * n.val)).map FnId.hostPort

/-- The state of a function. -/
def State.fn (s : State) : FnId → Switchable
  | .hostPort n => s.chans[n].port
  | .tag => s.tag.fn
  | .cards => s.cards.fn

/-- Sets the state of a function. -/
def State.setFn (i : FnId) (x : Switchable) (s : State) : State :=
  match i with
  | .hostPort n => s.onChan n (fun c => { c with port := x })
  | .tag => s.onTag (fun t => { t with fn := x })
  | .cards => s.onCards (fun c => { c with fn := x })

/-- What the start of a drain ends: an outage of the port (R166); card operations (R553). -/
def State.fnDrains (i : FnId) (s : State) : State :=
  match i with
  | .hostPort n => s.portOutage n false
  | .tag => s
  | .cards => s.abortCards

/-- What reaching OFF does: the tag stops modulating (R532); no card is in use. -/
def State.fnOff (i : FnId) (s : State) : State :=
  match i with
  | .hostPort _ => s
  | .tag => s.onTag (fun t => { t with st := .powerOff, selected := false, chained := [] })
  | .cards => s.forgetCards

/-- What reaching ON does: a restart of the channel is an outage of the port again (R35); the tag answers a field that is
present; the cards are identified (R546). -/
def State.fnOn (i : FnId) (s : State) : State :=
  match i with
  | .hostPort n => if s.chans[n].phase = 7 then s.portOutage n true else s
  | .tag => s.onTag (fun t => { t with st := if t.field then .idle else .powerOff })
  | .cards => s.forgetCards

/-- Modes that admit the change (R166). -/
def State.fnMode (s : State) : FnId → Nat
  | .hostPort _ => if s.modes.mode.serving then 0 else modeRefused
  | _ => 0

/-- R115, column "Enable written". -/
def enableAction (i : FnId) : Action where
  arg := anyArg
  guard := fun _ _ s => if s.fnMode i != 0 then s.fnMode i else if (s.fn i).st = .starting then busyCode else 0
  act := fun _ _ s =>
    match (s.fn i).st with
    | .off => (s.setFn i { st := .starting, queued := false }, .busy)
    | .starting => (s, .busy)
    | .on => (s, .done)
    | .draining => (s.setFn i { st := .draining, queued := true }, .busy)

/-- R115, column "Disable written". -/
def disableAction (i : FnId) : Action where
  arg := anyArg
  guard := fun _ _ s => if s.fnMode i != 0 then s.fnMode i else if (s.fn i).st = .draining then busyCode else 0
  act := fun _ _ s =>
    match (s.fn i).st with
    | .off => (s, .done)
    | .starting => ((s.setFn i { st := .draining, queued := false }).abortCmd (fnEnable i) functionCancelled, .busy)
    | .on => ((s.setFn i { st := .draining, queued := false }).fnDrains i, .busy)
    | .draining => (s, .busy)

/-- R115, column "Abort": a start or a drain ends OFF; the Busy CMDs of the index read Aborted. -/
def State.abortFn (i : FnId) (s : State) : State :=
  match (s.fn i).st with
  | .starting | .draining =>
    (((s.setFn i { st := .off, queued := false }).fnOff i).abortCmd (fnEnable i) actionAborted).abortCmd (fnDisable i)
      actionAborted
  | _ => s

/-- R115, R116: the drain has ended; a queued enable starts. -/
def State.drainComplete (i : FnId) (s : State) : State :=
  let x := s.fn i
  if x.st != .draining then s
  else ((s.fnOff i).doneCmd (fnDisable i)).setFn i { st := if x.queued then .starting else .off, queued := false }

/-- R115: the start has ended. -/
def State.startComplete (i : FnId) (s : State) : State :=
  if (s.fn i).st != .starting then s
  else ((s.setFn i { st := .on, queued := false }).fnOn i).doneCmd (fnEnable i)

/-- FUNCTION_ENABLE (R115). -/
def execFunctionEnable (f : Frame) (s : State) : Host.Outcome State Fault Refusal :=
  .next (match fnOfIndex f.index.toNat with
    | some i => s.runCmd (fnEnable i) f (enableAction i)
    | none => s)

/-- FUNCTION_DISABLE (R115). -/
def execFunctionDisable (f : Frame) (s : State) : Host.Outcome State Fault Refusal :=
  .next (match fnOfIndex f.index.toNat with
    | some i => s.runCmd (fnDisable i) f (disableAction i)
    | none => s)

/-- FUNCTION_DRAIN_COMPLETE (R116). -/
def execFunctionDrainComplete (fn : FnId) (s : State) : Host.Outcome State Fault Refusal :=
  .next (s.whenLive (State.drainComplete fn))

/-- FUNCTION_START_COMPLETE (R115). -/
def execFunctionStartComplete (fn : FnId) (s : State) : Host.Outcome State Fault Refusal :=
  .next (s.whenLive (State.startComplete fn))

end Sys2Proof.Machine
end

