-- ==== Sys2Proof/Machine/VigilTime.lean ====
section
/-! DEFINITION. Vigil time, its trim, slew and setting; clocks; the vigil supply (spec/18_power_clocks_freeze.md, R569 to R577;
spec/19, R603). -/

namespace Sys2Proof.Machine

/-! ## Ticks (R573, R576) -/

/-- R573: the phase accumulator after an edge, and the ticks that the edge gives. -/
def trimStep (phase trim : Int) : Int × Nat :=
  let p := phase + trim
  if p ≥ 2 ^ 23 then (p - 2 ^ 24, 2) else if p < -2 ^ 23 then (p + 2 ^ 24, 0) else (p, 1)

/-- R573, R576: one VCLK edge; a withheld tick takes one from an edge that gives one. -/
def Vigil.edge (v : Vigil) : Vigil :=
  let r := trimStep v.phase v.trim
  let hold := v.withhold && 0 < r.2
  { v with phase := r.1, time := (v.time + r.2 - (if hold then 1 else 0)) % 2 ^ 48, withhold := v.withhold && !hold }

/-- R572: the tick reaches the copy in FCLK while its clock runs. -/
def State.copyTime (s : State) : State := if s.live then s.onVigil (fun v => { v with copy := v.time }) else s

/-- R409: from the fall of PFAIL_N the full number last issued is copied at every tick. -/
def State.keepIssued (s : State) : State :=
  if s.modes.pfail && s.live then s.onVigil (fun v => { v with lastIssued := some s.tamper.issued }) else s

/-- VIGIL_TICK (R573, R392, R409). -/
def State.vigilTick (s : State) : State :=
  if !s.watching then s
  else
    let s := (s.onVigil Vigil.edge).copyTime
    (if s.live then s.applyTick else s).keepIssued

/-- VIGIL_TICK (R573). -/
def execVigilTick (s : State) : Host.Outcome State Fault Refusal := .next s.vigilTick

/-- SLEW_STEP (R576): one tick added or withheld until the slew is consumed; no step while the tick withheld last still waits
for its edge. -/
def State.slewStep (s : State) : State :=
  if !s.watching || s.vigil.slew == 0 || s.vigil.withhold then s
  else
    let s := s.onVigil (fun v =>
      if 0 < v.slew then { v with time := (v.time + 1) % 2 ^ 48, slew := v.slew - 1 }
      else { v with withhold := true, slew := v.slew + 1 })
    if s.vigil.slew = 0 then s.copyTime.doneCmd (okey 0x9000 7) else s.copyTime

/-- SLEW_STEP (R576). -/
def execSlewStep (s : State) : Host.Outcome State Fault Refusal := .next s.slewStep

/-- SLEW (R576): |s| at most 327,680 ticks. -/
def slewAction : Action where
  arg := argOf 6 (fun b => (signed 48 (beNat b)).natAbs ≤ 327680)
  guard := noGuard
  act := fun _ b s =>
    let n := signed 48 (beNat b)
    (s.onVigil (fun v => { v with slew := n }), if n = 0 then .done else .busy)

/-- SLEW (R576). -/
def execSlew (f : Frame) (s : State) : Host.Outcome State Fault Refusal := .next (s.runCmd (okey 0x9000 7) f slewAction)

/-- R576: an abort discards the remainder. -/
def State.abortSlew (s : State) : State := (s.onVigil (fun v => { v with slew := 0 })).abortCmd (okey 0x9000 7) actionAborted

def timeBackward : Nat := 0x0F0001

/-- SET_VIGIL_TIME (R577): never backward; the restored flag clears. -/
def setTimeAction : Action where
  arg := argOf 6 (fun _ => true)
  guard := fun _ b s => if beNat b < s.now then timeBackward else 0
  act := fun _ b s =>
    let t := beNat b
    ((s.reckon.onVigil (fun v => { v with time := t, copy := t, restored := false })).onInteg (fun i =>
      { i with countedTo := t }), .done)

/-- SET_VIGIL_TIME (R577). -/
def execSetVigilTime (f : Frame) (s : State) : Host.Outcome State Fault Refusal :=
  .next (s.runCmd (okey 0x9000 2) f setTimeAction)

/-- VIGIL_COPY_CHECK (R572): on a mismatch the copy is reloaded and source 0x21 raised. -/
def execVigilCopyCheck (s : State) : Host.Outcome State Fault Refusal :=
  .next (s.whenLive (fun s =>
    if s.vigil.copy = s.vigil.time then s else s.copyTime.raiseSource 0x21 0))

/-- R577: time quality. -/
def State.timeQuality (s : State) : Nat := if s.vigil.crystalStopped then 2 else if s.vigil.restored then 1 else 0

/-! ## The trim (R574, R575) -/

/-- R574: the limit of a trim. -/
def trimLimit : Int := 16777

/-- R574: the trim that a count over 2^20 edges measures. -/
def measuredTrim (count : Nat) : Int :=
  clampInt (-trimLimit) trimLimit (roundHalfEven (2 ^ 24 * ((count : Int) - 800000000)) 800000000)

/-- R574: the band of a die temperature in sQ8.8. -/
def trimBand (t : Int) : Nat := (clampInt 0 7 ((t + 40 * 256) / (20 * 256))).toNat

/-- R574: an entry of the trim table. -/
def State.trimEntry (s : State) (b : Nat) : Int := signed 24 (beNat (((s.objOctets (okey 0x9000 5)).drop (3 * b)).take 3))

/-- R574: the band has been measured. -/
def State.bandMeasured (s : State) (b : Nat) : Bool := (s.objNum (okey 0x9000 6)).testBit b

/-- CRYSTAL_MEASUREMENT (R574): a window ends with its count and the mean A0 reading. -/
def State.crystalMeasured (count : Nat) (mean : Int) (s : State) : State :=
  let spoiled := s.power.windowSpoiled || (s.source 0x1F).raised || (s.source 0x21).raised
  let s := (s.putNum (okey 0x9000 0x0A) count).onPower (fun p => { p with windowSpoiled := false })
  if spoiled then s
  else
    let b := trimBand mean
    let e := s.trimEntry b
    let m := measuredTrim count
    let v := if s.bandMeasured b then e + roundHalfEven (m - e) 4 else m
    (s.putOctetsAt (okey 0x9000 5) (3 * b) (beOctets 3 (unsigned 24 v))).putNum (okey 0x9000 6)
      (s.objNum (okey 0x9000 6) ||| 2 ^ b)

/-- CRYSTAL_MEASUREMENT (R574). -/
def execCrystalMeasurement (count : Nat) (meanA0 : Int) (s : State) : Host.Outcome State Fault Refusal :=
  .next (s.whenLive (State.crystalMeasured count meanA0))

/-- R574: the trim for a band: its entry, else the nearest measured band's, the lower of two equally near, else zero. -/
def State.trimFor (s : State) (b : Nat) : Int :=
  match ((List.range 8).flatMap (fun d => (if d ≤ b then [b - d] else []) ++ [b + d])).find? (fun x => x < 8 && s.bandMeasured x) with
  | some x => s.trimEntry x
  | none => 0

/-- R574, R575: the current band: of the A0 reading, or on the cell of the raw A7 code against the boundaries. -/
def State.currentBand (s : State) : Option Nat :=
  if s.live then some (trimBand s.dieTemperature)
  else s.vigil.temperatureCode.map (fun c => (s.vigil.bandCodes.filter (fun x => x ≤ c)).length)

/-- TRIM_UPDATE (R574, R575). -/
def State.updateTrim (s : State) : State :=
  match s.currentBand with
  | some b => s.onVigil (fun v => { v with trim := s.trimFor b })
  | none => s

/-- TRIM_UPDATE (R574). -/
def execTrimUpdate (s : State) : Host.Outcome State Fault Refusal := .next (if s.watching then s.updateTrim else s)

/-! ## Clocks (R569, R570) -/

/-- REFERENCE_CLOCK_LOSS (R569): holdover, which raises source 0x1F. -/
def execReferenceClockLoss (s : State) : Host.Outcome State Fault Refusal :=
  .next (s.whenLive (fun s =>
    if !s.power.ref25 then s
    else
      let s := s.onPower (fun p => { p with ref25 := false })
      if s.power.pll = 0 then
        ((s.onPower (fun p => { p with pll := 1 })).bumpBy (okey 0x9000 0x0C) 24 1).raiseSource 0x1F 0
      else s))

/-- R569: a PLL loses lock: its outputs are gated until it relocks. -/
def State.pllLost (s : State) : State :=
  if s.power.pll = 2 then s else (s.onPower (fun p => { p with pll := 2 })).raiseSource 0x1F 0

/-- REFERENCE_CLOCK_RETURN (R569): tracking resumes, or a reference outside ±2 % costs the lock. -/
def execReferenceClockReturn (inRange : Bool) (s : State) : Host.Outcome State Fault Refusal :=
  .next (s.whenLive (fun s =>
    if s.power.ref25 then s
    else
      let s := s.onPower (fun p => { p with ref25 := true })
      if !inRange then s.pllLost
      else if s.power.pll = 1 then s.onPower (fun p => { p with pll := 0 }) else s))

/-- PLL_LOSS_OF_LOCK (R569). -/
def execPllLossOfLock (s : State) : Host.Outcome State Fault Refusal := .next (s.whenLive State.pllLost)

/-- PLL_RELOCK (R569): the outputs run again; a relock raises source 0x1F. -/
def execPllRelock (s : State) : Host.Outcome State Fault Refusal :=
  .next (s.whenLive (fun s =>
    if s.power.pll != 2 then s
    else ((s.onPower (fun p => { p with pll := if p.ref25 then 0 else 1 })).bumpBy (okey 0x9000 0x0D) 24 1).raiseSource 0x1F 0))

/-- CRYSTAL_STOP (R570). -/
def execCrystalStop (s : State) : Host.Outcome State Fault Refusal :=
  .next (if s.watching then (s.onVigil (fun v => { v with crystalStopped := true })).vigilWatch 0x21 true 0 else s)

/-- XT32_RETURN (R577): ticks come from the crystal again; source 0x21 is no longer beyond its condition. -/
def execXt32Return (s : State) : Host.Outcome State Fault Refusal :=
  .next (if s.watching && s.vigil.crystalStopped then
      (s.onVigil (fun v => { v with crystalStopped := false })).vigilWatch 0x21 false 0
    else s)

/-! ## The vigil supply (R15, R400, R603) -/

/-- VAUX_RISE (R603): above 3.00 V the selector takes VAUX. -/
def execVauxRise (s : State) : Host.Outcome State Fault Refusal :=
  .next (s.onVigil (fun v => { v with vaux := true, supply := .vaux }))

/-- VAUX_FALL (R603): below 2.90 V it takes VBAT, with no vigil state lost. Without main power the tag island has no supply
left, and its records read empty (R528, R532). -/
def execVauxFall (s : State) : Host.Outcome State Fault Refusal :=
  let s := if s.modes.mainPower then s else s.onTag (fun t =>
    { t with records := Vector.replicate 32 (Vector.replicate 2 TagCopy.initial) })
  .next (s.onVigil (fun v => { v with vaux := false, supply := if v.supply = .vaux then .vbat else v.supply }))

/-- VIGIL_SUPPLY_LOSS (R603): the cell is gone while VAUX is absent; when the store is lost its canary no longer stands and
the mirror of the hold-enable mask reads 0xFFFF (R94). -/
def execVigilSupplyLoss (lost : Bool) (s : State) : Host.Outcome State Fault Refusal :=
  .next (if s.vigil.vaux then s
    else s.onVigil (fun v =>
      { v with supply := .none, canary := if lost then 0 else v.canary, holdMirror := if lost then 0xFFFF else v.holdMirror }))

end Sys2Proof.Machine
end

