-- ==== Sys2Proof/Machine/Islands.lean ====
section
/-! DEFINITION. Power islands, latency tolerance, performance snapshots, freeze and readout (spec/18_power_clocks_freeze.md,
R561 to R568, R579 to R588). -/

namespace Sys2Proof.Machine

/-! ## Levels (R561, R562, R564) -/

/-- R561: the deepest level permitted to an island. -/
def State.deepest (s : State) (i : Fin 26) : Nat :=
  let n := i.val
  if n ≤ 1 then 1
  else if n ≤ 5 then (if (s.dutyPair.map (fun p => p.val)) = some (n - 2) then 2 else 4)
  else if n ≤ 17 then
    (if !(s.chanDesc (Fin.ofNat 12 (n - 6))).enabled then 4
     else if s.modes.mode == .locked || s.modes.mode == .retired then 3 else 1)
  else if n ≤ 19 then 3
  else if n = 20 then (if s.power.link && s.power.l1 then 2 else 1)
  else if n ≤ 22 then 2
  else if n = 23 then 3
  else 4

/-- R562: exit latencies in µs. -/
def exitLatency (level : Nat) : Nat := [0, 1, 40, 800, 25000].getD level 25000

/-- R564: the levels that the mode admits. -/
def Mode.deepestLevel : Mode → Nat
  | .serve | .maintain | .ceremony | .locked | .retired => 4
  | _ => 0

/-- R564: the deepest level that meets its conditions. -/
def State.levelFor (s : State) (i : Fin 26) : Nat :=
  let floor := ((s.objOctets (okey 0x1300 3)).getD i.val 0).toNat
  let cap := min (min (s.deepest i) floor) s.modes.mode.deepestLevel
  ((List.range 5).filter (fun l => l ≤ cap && exitLatency l ≤ s.objNum (okey 0x1300 1))).foldl max 0

/-- An island. -/
def State.island (s : State) (i : Fin 26) : Island := s.power.islands[i]

/-- Updates an island. -/
def State.onIsland (i : Fin 26) (f : Island → Island) (s : State) : State :=
  s.onPower (fun p => { p with islands := p.islands.set i (f p.islands[i]) })

/-- All islands. -/
def islandIndexes : List (Fin 26) := List.ofFn (fun i : Fin 26 => i)

/-- ISLAND_ENTRY (R564, R566): after an idle time in µs of max(10, 4 × the level's exit latency). In Forensic and after
PFAIL_N no island goes deeper. -/
def State.islandEntry (i : Fin 26) (idle : Nat) (s : State) : State :=
  let l := s.levelFor i
  if s.modes.mode == .forensic || s.modes.pfail || (s.island i).changing.isSome || l ≤ (s.island i).level ||
      idle < max 10 (4 * exitLatency l) then s
  else s.onIsland i (fun _ => { level := l, changing := none })

/-- ISLAND_ENTRY (R564). -/
def execIslandEntry (i : Fin 26) (idle : Nat) (s : State) : Host.Outcome State Fault Refusal :=
  .next (s.whenLive (State.islandEntry i idle))

/-- R565: a wake begins the exit toward PW0 and is counted. -/
def State.wakeIsland (i : Fin 26) (s : State) : State :=
  if (s.island i).level = 0 ∨ (s.island i).changing = some 0 then s
  else (s.onIsland i (fun x => { x with changing := some 0 })).wrapWord (okey 0x1300 5) 26 i.val

/-- ISLAND_WAKE (R565). -/
def execIslandWake (i : Fin 26) (s : State) : Host.Outcome State Fault Refusal := .next (s.whenLive (State.wakeIsland i))

/-- ISLAND_EXIT_COMPLETE (R562, R567): the change ends at its target. -/
def execIslandExitComplete (i : Fin 26) (s : State) : Host.Outcome State Fault Refusal :=
  .next (s.whenLive (State.onIsland i (fun x =>
    match x.changing with | some l => { level := l, changing := none } | none => x)))

/-- R566: every island toward PW0. -/
def State.wakeAll (l : List (Fin 26)) (s : State) : State := s.forAll l State.wakeIsland

/-- R567: after T_host or a floor has fallen, every island that rests too deep rises to what R564 selects; a wake goes on to PW0. -/
def State.raiseIslands (s : State) : State :=
  s.forAll islandIndexes (fun i s =>
    if exitLatency (s.island i).level > s.objNum (okey 0x1300 1) then
      s.onIsland i (fun x => { x with changing := if x.changing = some 0 then some 0 else some (s.levelFor i) })
    else s)

/-- 0x1300:02: island levels, bit 7 while changing. -/
def State.islandLevels (s : State) : List Byte :=
  s.power.islands.toList.map (fun x => octet (x.level + (if x.changing.isSome then 128 else 0)))

/-- R591: a floor no deeper than R561: the duty pair's bound and the link's are of the moment, the channels' of their
descriptors, so the defaults of the table bound the floors. -/
def floorsOk (b : List Byte) : Bool := ((b.zip islandFloorDefaults).all (fun e => e.1.toNat ≤ e.2.toNat))

/-! ## The PCIe link (R568, R570) -/

/-- R568: an LTR message, while the host has enabled it and the link is up. -/
def State.sendLtr (s : State) : State :=
  if s.power.ltrEnable && s.power.link then s.send (.ltr (s.objNum (okey 0x1300 4))) else s

/-- PCIE_LINK_UP (R568, R600): with VPEA in range; PE_PERST_N is high and PE_REFCLK runs. -/
def execPcieLinkUp (ltr : Bool) (s : State) : Host.Outcome State Fault Refusal :=
  .next (s.whenLive (fun s =>
    if !s.power.vpea then s
    else
      ((s.onPower (fun p => { p with link := true, l1 := false, ltrEnable := ltr, peRefclk := true })).onDict (fun d =>
        { d with perst := false })).sendLtr))

/-- PCIE_LINK_L1_TRANSITION (R561). An island deeper than the link then permits rises (R564). -/
def execPcieLinkL1Transition (enter : Bool) (s : State) : Host.Outcome State Fault Refusal :=
  .next (s.whenLive (fun s =>
    if !s.power.link then s
    else
      let s := s.onPower (fun p => { p with l1 := enter })
      if s.deepest 20 < (s.island 20).level then s.wakeIsland 20 else s))

/-- R111: a PCIe endpoint reset: mailbox slots freed, telemetry counter kept; the link is down. -/
def State.pcieReset (s : State) : State :=
  (s.onDict (fun d => { d with mailbox := Vector.replicate 4 Mailbox.initial })).onPower (fun p =>
    { p with link := false, l1 := false, ltrEnable := false })

/-- PCIE_REFCLOCK_LOSS (R570). -/
def execPcieRefclockLoss (s : State) : Host.Outcome State Fault Refusal :=
  .next (s.whenLive (fun s => (s.onPower (fun p => { p with peRefclk := false })).pcieReset))

/-! ## Snapshots (R579 to R581) -/

/-- R579: what a pair contributes. -/
def pairCounters (p : Pair) : List Word :=
  if p.inService then [p.pccyc, p.pcins] ++ p.pc.toList ++ [p.pcsel] else List.replicate 7 0

/-- R581: pairs as a bit mask. -/
def pairMask (f : Fin 4 → Bool) : Nat := pairIndexes.foldl (fun a p => if f p then a + 2 ^ p.val else a) 0

/-- R581: a dump record of a sequence; the free-running cycle count is a free value. -/
def State.dumpRecord (s : State) (n : Nat) (cycles : Word) : List Word :=
  let captured := pairMask (fun p => s.pairs[p].inService)
  let resting := pairMask (fun p => 2 ≤ (s.island (Fin.ofNat 26 (2 + p.val))).level)
  [BitVec.ofNat 48 (0x504344 * 2 ^ 24 + captured * 2 ^ 12 + resting * 2 ^ 8 + 1), BitVec.ofNat 48 n,
    BitVec.ofNat 48 s.now, cycles] ++ pairIndexes.flatMap (fun p => pairCounters s.pairs[p])

/-- R580: the record goes to the dump ring when one is configured and the gate lets the hardware requester write. -/
def State.dumpTo (n : Nat) (w : List Word) (s : State) : State :=
  let base := s.objNum (okey 0x7100 3)
  if base = 0 then s
  else
    let at_ := base + 32 * (n % max 1 (s.objNum (okey 0x7100 4))) * 8
    if inCommons at_ 192 && s.engineAdmits .hardware at_ 192 .write then
      s.onCommons (fun m => memStore m at_ (w.flatMap wordOctets))
    else s.bump (okey 0x7100 7)

/-- R579: a snapshot: each takes the next dump sequence, which wraps. -/
def State.snapshot (s : State) : State :=
  let n := s.objNum (okey 0x7100 5)
  let d := s.drawFree
  let w := d.2.dumpRecord n d.1
  ((d.2.put (okey 0x7100 6) (.words w)).dumpTo n w).putNum (okey 0x7100 5) ((n + 1) % 2 ^ 48)

/-- SNAPSHOT (R579). -/
def snapshotAction : Action where
  arg := anyArg
  guard := noGuard
  act := fun _ _ s => (s.snapshot, .done)

/-- SNAPSHOT (R579). -/
def execSnapshot (f : Frame) (s : State) : Host.Outcome State Fault Refusal :=
  .next (s.runCmd (okey 0x7100 1) f snapshotAction)

/-- PERFORMANCE_DUMP (R579): a dump period ends. -/
def execPerformanceDump (s : State) : Host.Outcome State Fault Refusal :=
  .next (s.whenLive (fun s => if s.objNum (okey 0x7100 2) = 0 then s else s.snapshot))

/-! ## Freeze (R582, R583) -/

/-- R582: a freeze outside Forensic is counted, with an event at most once a second. -/
def State.ignoredFreeze (s : State) : State :=
  let s := s.bumpBy (okey 0x9000 0x21) 24 1
  let due : Bool := match s.power.ignoredEventAt with | some t => t + second ≤ s.now | none => true
  if due then (s.event 0x5E 0).onPower (fun p => { p with ignoredEventAt := some s.now }) else s

/-- FREEZE_PIN (R582): FRZ_N low for at least 100 ns. -/
def execFreezePin (lowNs : Nat) (s : State) : Host.Outcome State Fault Refusal :=
  .next (s.whenLive (fun s =>
    if lowNs < 100 then s
    else if s.modes.mode = .forensic then s.onPower (fun p => { p with frozen := some (.pin, s.now) })
    else s.ignoredFreeze))

/-- FREEZE (R582): in Forensic the freeze follows 100 µs after the response. -/
def freezeAction : Action where
  arg := anyArg
  guard := noGuard
  act := fun _ _ s => (s.onPower (fun p => { p with freezeScheduled := true }), .busy)

/-- R582: a write of 0x9000:20 that arrives as a request outside Forensic counts as an ignored freeze. -/
def State.countFreezeWrite (f : Frame) (s : State) : State :=
  if s.modes.mode = .forensic then s
  else if f.key == okey 0x9000 0x20 && f.kind == kindWrite && (s.receive f).2 != .ended then s.ignoredFreeze else s

/-- FREEZE (R582). -/
def execFreeze (f : Frame) (s : State) : Host.Outcome State Fault Refusal :=
  .next ((s.countFreezeWrite f).runCmd (okey 0x9000 0x20) f freezeAction)

/-- FREEZE_COMMAND_DELAY (R583). -/
def execFreezeCommandDelay (s : State) : Host.Outcome State Fault Refusal :=
  .next (s.whenLive (fun s =>
    if s.power.freezeScheduled && s.modes.mode == .forensic then
      s.onPower (fun p => { p with frozen := some (.command, s.now), freezeScheduled := false })
    else s))

/-! ## The freeze image (R584 to R587) -/

/-- The sections of R586: code, domain, and whether it is absent. -/
def freezeSections : List (Nat × Nat × Bool) :=
  [(0x01, 2, false), (0x02, 0, false), (0x03, 0, false), (0x04, 0, false), (0x05, 1, false), (0x06, 1, false), (0x07, 1, false),
    (0x08, 2, false), (0x09, 10, false), (0x0A, 2, false), (0x0B, 2, false), (0x0C, 3, false), (0x0D, 7, false),
    (0x0E, 6, false), (0x0F, 2, false), (0x10, 0, false)] ++
  [(0x20, 1, true), (0x21, 1, true), (0x22, 1, true), (0x23, 1, true), (0x24, 1, true), (0x25, 8, true)]

/-- Words of a section: those of R24 and R585 where they give them, else what an implementation fixes (DESIGN CHOICE,
notes/assumptions/66.md). -/
def freezeLength (code : Nat) : Nat :=
  match code with
  | 0x01 => 64 | 0x03 => 4 * 0x20000 | 0x04 => 4 * 0x20000 | 0x05 => 0x300000 | 0x06 => 393216
  | c => if 0x20 ≤ c then 0 else Config.freezeLength c

/-- The base of a section in the image: the words of those before it. -/
def freezeBase (code : Nat) : Nat :=
  sumOf ((freezeSections.takeWhile (fun e => e.1 != code)).map (fun e => freezeLength e.1))

/-- Words of the whole image. -/
def freezeSize : Nat := sumOf (freezeSections.map (fun e => freezeLength e.1))

/-- The islands that hold a section's content, for flag bit 25 of R585. -/
def freezeIslands (code : Nat) : List (Fin 26) :=
  match code with
  | 0x02 | 0x03 | 0x04 | 0x10 => [2, 3, 4, 5]
  | 0x05 | 0x06 | 0x07 => [1]
  | 0x09 => [6, 7, 8, 9, 10, 11, 12, 13, 14, 15, 16, 17]
  | 0x0C => [20, 21, 22] | 0x0D => [23] | 0x0E => [24]
  | _ => [0]

/-- R585: directory words of a section. -/
def State.freezeEntry (s : State) (e : Nat × Nat × Bool) (second_ : Bool) : Word :=
  let l := freezeIslands e.1
  let flags := (if e.2.2 then 1 else 0) + (if l.any (fun i => 2 ≤ (s.island i).level) then 2 else 0) +
    (if l.any (fun i => (s.island i).changing.isSome) then 4 else 0)
  if second_ then BitVec.ofNat 48 ((if e.2.2 then 0 else freezeBase e.1) * 2 ^ 24 + freezeLength e.1)
  else BitVec.ofNat 48 (e.1 * 2 ^ 40 + e.2.1 * 2 ^ 32 + flags * 2 ^ 24)

/-- R585: the domains whose clocks are absent: CCLK, XCLK and FCLK with a PLL out of lock, PCLK without the link, and those
of the islands at PW2 or deeper stop at their level. -/
def State.clockAbsent (s : State) : Nat :=
  (if s.power.pll = 2 then 7 else 0) + (if s.power.link then 0 else 8)

/-- R585: silicon revision octet (R2). -/
def siliconRevision : Nat := if Config.revisionB1 then 0xB1 else 0xB0

/-- R585: a header word. -/
def State.freezeHeader (s : State) (a : Nat) : Word :=
  let serial := packAll (s.objOctets (okey 0x1000 4))
  match a with
  | 0 => 0x46525A000001
  | 1 => serial.getD 0 0
  | 2 => serial.getD 1 0
  | 3 => BitVec.ofNat 48 (siliconRevision * 2 ^ 40 + 9 * 2 ^ 36 +
      (match s.power.frozen with | some (.pin, _) => 1 | some (.command, _) => 2 | none => 0) * 2 ^ 32)
  | 4 => BitVec.ofNat 48 ((s.power.frozen.map (fun x => x.2)).getD 0)
  | 5 => BitVec.ofNat 48 freezeSections.length
  | 6 => BitVec.ofNat 48 ((0x3FFCFF &&& ~~~(BitVec.ofNat 22 s.clockAbsent)).toNat)
  | 7 => BitVec.ofNat 48 s.clockAbsent
  | a =>
    if a < 16 then 0
    else match freezeSections[(a - 16) / 2]? with
      | some e => s.freezeEntry e (a % 2 == 1)
      | none => 0

/-- A word of an octet memory. -/
def memWord (m : List Host.Cell) (addr : Nat) : Word := octetsWord (memOctets m (addr * 8) 6)

/-- R586: word i of a section. -/
def State.freezeSectionWord (s : State) (code i : Nat) : Word :=
  match code with
  | 0x01 => s.freezeHeader i
  | 0x03 => memWord s.pairs[Fin.ofNat 4 (i / 0x20000)].mem (i % 0x20000)
  | 0x04 => memWord s.pairs[Fin.ofNat 4 (i / 0x20000)].mem (0x20000 + i % 0x20000)
  | 0x05 => memWord s.commons (0x100000 + i)
  | 0x06 => s.entryWord2 i
  | c => Config.freezeWord c i

/-- R586: the word at an address of the image. -/
def State.freezeWord (s : State) (a : Nat) : Word :=
  match freezeSections.find? (fun e => freezeBase e.1 ≤ a && a < freezeBase e.1 + freezeLength e.1) with
  | some e => s.freezeSectionWord e.1 (a - freezeBase e.1)
  | none => 0xAB5E47AB5E47

/-- R587: an answer: status, words, CRC-32. -/
def readoutAnswer (status : Nat) (w : List Word) : List Byte :=
  let b := [octet status] ++ wordsBe w
  b ++ beOctets 4 (crc32 b).toNat

/-- R587: the port answers only in Forensic. -/
def State.whenReadout (f : State → State) (s : State) : State :=
  if s.modes.mainPower && s.modes.mode == .forensic then f s else s

/-- READOUT_READ (R587). -/
def execReadoutRead (addr count : Nat) (s : State) : Host.Outcome State Fault Refusal :=
  .next (s.whenReadout (fun s =>
    s.send (.readout (
      if s.power.frozen.isNone then readoutAnswer 1 []
      else if count = 0 ∨ 65536 < count ∨ freezeSize < addr + count then readoutAnswer 2 []
      else readoutAnswer 0 ((List.range count).map (fun i => s.freezeWord (addr + i)))))))

/-- READOUT_UNKNOWN_COMMAND (R587). -/
def execReadoutUnknownCommand (command : BitVec 8) (s : State) : Host.Outcome State Fault Refusal :=
  .next (s.whenReadout (fun s =>
    if command = 0x5A ∨ command = 0xC3 then s
    else s.send (.readout (readoutAnswer (if s.power.frozen.isNone then 1 else 3) []))))

/-- BOUNDARY_SCAN (R587): in Blank and Factory the balls carry IEEE 1149.1; what TDO shifts out is a free value. -/
def execBoundaryScan (_tms _tdi : Bool) (s : State) : Host.Outcome State Fault Refusal :=
  .next (s.whenLive (fun s =>
    if s.modes.mode = .blank ∨ s.modes.mode = .factory then
      let d := s.drawFree
      d.2.send (.tdo (d.1.getLsbD 0))
    else s))

end Sys2Proof.Machine
end

