-- ==== Sys2Proof/Machine/SpdmResponder.lean ====
section
/-! DEFINITION. The N4812 as SPDM responder, and DOE discovery (spec/06_device_attestation.md, R195, R196, R217 to R219). -/

namespace Sys2Proof.Machine

/-- Position of a responder transport. -/
def portIndex : SpdmPort → Fin 2
  | .doe => 0 | .i3cTarget => 1

/-- The connection state of a transport (R219). -/
def State.connection (s : State) (p : SpdmPort) : SpdmConnection := s.att.connections[portIndex p]

/-- Updates the connection state of a transport. -/
def State.onConnection (p : SpdmPort) (f : SpdmConnection → SpdmConnection) (s : State) : State :=
  s.onAtt (fun a => { a with connections := a.connections.set (portIndex p) (f a.connections[portIndex p]) })

/-- SPDM response codes and error codes (PRESUMED from DSP0274 beyond the names that R195 and R219 use;
notes/assumptions/63.md). -/
def spdmError : Nat := 0x7F
def errorInvalid : Byte := 0x01
def errorBusy : Byte := 0x03
def errorUnexpected : Byte := 0x04
def errorUnspecified : Byte := 0x05
def errorUnsupported : Byte := 0x07

/-- Sends a response and counts the request as answered (0x3000:30). -/
def State.respondSpdm (p : SpdmPort) (b : List Byte) (s : State) : State :=
  (s.bump (okey 0x3000 0x30)).send (.spdmResponse p b)

/-- An ERROR response. -/
def State.spdmFails (p : SpdmPort) (request : List Byte) (e : Byte) (s : State) : State :=
  s.respondSpdm p (Config.spdmResponse spdmError request [e])

/-- R219: the modes in which the N4812 answers. -/
def Mode.responds : Mode → Bool
  | .gate | .serve | .maintain | .ceremony => true
  | _ => false

/-- A response that the connection's messages hold. -/
def State.spdmAnswer (p : SpdmPort) (code : Nat) (request content : List Byte) (f : SpdmConnection → SpdmConnection)
    (s : State) : State :=
  let b := Config.spdmResponse code request content
  (s.onConnection p (fun c =>
    let c := f c
    { c with transcript := c.transcript ++ request ++ b })).respondSpdm p b

/-- R219: what the mode and a hot restart answer before the request is looked at. -/
def State.whenResponds (p : SpdmPort) (request : List Byte) (f : State → State) (s : State) : State :=
  s.whenLive (fun s =>
    if s.modes.hotRestart.isSome then s.spdmFails p request errorBusy
    else if !s.modes.mode.responds then s.spdmFails p request errorUnspecified
    else f s)

/-- A request that SPDM admits only at a point of the connection (PRESUMED, notes/assumptions/63.md). -/
def State.whenConnected (p : SpdmPort) (request : List Byte) (ok : SpdmConnection → Bool) (f : State → State) (s : State) :
    State :=
  s.whenResponds p request (fun s => if ok (s.connection p) then f s else s.spdmFails p request errorUnexpected)

/-- GET_VERSION (R217): versions 1.2 and 1.3; the connection begins anew. -/
def execGetVersion (port : SpdmPort) (request : List Byte) (s : State) : Host.Outcome State Fault Refusal :=
  .next (s.whenResponds port request (fun s =>
    (s.onConnection port (fun _ => SpdmConnection.initial)).spdmAnswer port 0x04 request [0x12, 0x13] (fun c =>
      { c with versioned := true })))

/-- GET_CAPABILITIES (R217): CERT_CAP, CHAL_CAP, MEAS_CAP 10, CTExponent 14. -/
def execGetCapabilities (port : SpdmPort) (request : List Byte) (s : State) : Host.Outcome State Fault Refusal :=
  .next (s.whenConnected port request SpdmConnection.versioned
    (State.spdmAnswer port 0x61 request [1, 1, 2, 14] (fun c => { c with capable := true })))

/-- NEGOTIATE_ALGORITHMS (R217): ECDSA P-384 and SHA-384 when they are offered. -/
def execNegotiateAlgorithms (port : SpdmPort) (request : List Byte) (asyms hashes : List Nat) (s : State) :
    Host.Outcome State Fault Refusal :=
  let a := asyms.contains 2
  let h := hashes.contains 2
  .next (s.whenConnected port request SpdmConnection.capable
    (State.spdmAnswer port 0x63 request [if a then 2 else 0, if h then 2 else 0] (fun c => { c with negotiated := a && h })))

/-- R217: certificate slot 0. -/
def State.certSlot (s : State) : List Byte :=
  Config.spdmCertSlot (s.objOctets (okey 0x5000 7)) (s.objOctets (okey 0x5000 9))

/-- GET_DIGESTS (R217): slot 0 alone holds a chain. -/
def execGetDigests (port : SpdmPort) (request : List Byte) (s : State) : Host.Outcome State Fault Refusal :=
  .next (s.whenConnected port request SpdmConnection.negotiated
    (fun s => s.spdmAnswer port 0x01 request ([1] ++ sha384 s.certSlot) id))

/-- GET_CERTIFICATE (R217): a portion of slot 0; another slot is empty. -/
def execGetCertificate (port : SpdmPort) (request : List Byte) (slot : Fin 8) (offset len : Nat) (s : State) :
    Host.Outcome State Fault Refusal :=
  .next (s.whenConnected port request SpdmConnection.negotiated (fun s =>
    let c := s.certSlot
    if slot != 0 || c.length < offset then s.spdmFails port request errorInvalid
    else
      let b := (c.drop offset).take len
      s.spdmAnswer port 0x02 request (beOctets 2 b.length ++ beOctets 2 (c.length - offset - b.length) ++ b) id))

/-- The first-layer key's scalar, in slot 1 (R354, R355). -/
def State.firstLayerKey (s : State) : List Byte := ((s.keySlot 1).map KeySlot.material).getD []

/-- A response signed by the first-layer key over the messages of the connection. -/
def State.spdmSign (p : SpdmPort) (code : Nat) (request content : List Byte) (s : State) : State :=
  let t := (s.connection p).transcript ++ request
  let g := beOctets 96 (Config.spdmSign s.firstLayerKey t (Config.spdmResponse code request content) s.free).toNat
  ({ s with free := s.free + 1 } : State).spdmAnswer p code request (content ++ g) id

/-! ## Measurement blocks (R218) -/

/-- R218: the content of a measurement block. -/
def State.measurementBlock (s : State) (i : Nat) : List Byte :=
  match i with
  | 1 => beOctets 48 Config.bootRomDigest.toNat
  | 2 => s.modes.imageDigest
  | 3 => s.modes.policyDigest
  | 4 => s.optionDigestField
  | 5 => [octet s.lifecycle, octet s.modes.mode.code] ++ beOctets 6 ((s.ledger.lastPrimary.map (fun x => x.1)).getD 0)
  | _ => match s.ledger.lastPrimary with | some (_, h) => h | none => List.replicate 48 0

/-- DMTF type octets of the blocks, with bit 7 for raw content (R218). -/
def blockType (i : Nat) : Byte := [0x00, 0x01, 0x03, 0x03, 0x82, 0x04].getD (i - 1) 0

/-- One block: index, type, length, content. -/
def State.blockOctets (s : State) (i : Nat) : List Byte :=
  let b := s.measurementBlock i
  [octet i, blockType i] ++ beOctets 2 b.length ++ b

/-- The measurement record of all six blocks. -/
def State.allBlocks (s : State) : List Byte := [1, 2, 3, 4, 5, 6].flatMap s.blockOctets

/-- CHALLENGE (R217): CHALLENGE_AUTH with the measurement summary hash that is asked for. -/
def execChallenge (port : SpdmPort) (request : List Byte) (slot : Fin 8) (summary : Nat) (s : State) :
    Host.Outcome State Fault Refusal :=
  .next (s.whenConnected port request SpdmConnection.negotiated (fun s =>
    if slot != 0 then s.spdmFails port request errorInvalid
    else
      let blocks := if summary = 0 then [] else if summary = 1 then s.blockOctets 1 else s.allBlocks
      s.spdmSign port 0x03 request (sha384 s.certSlot ++ (if summary = 0 then [] else sha384 blocks))))

/-- GET_MEASUREMENTS (R218): the number of blocks (index 0), one block, or all (0xFF). -/
def execGetMeasurements (port : SpdmPort) (request : List Byte) (index : Nat) (signed : Bool) (s : State) :
    Host.Outcome State Fault Refusal :=
  .next (s.whenConnected port request SpdmConnection.negotiated (fun s =>
    if 6 < index && index != 0xFF then s.spdmFails port request errorInvalid
    else
      let content := if index = 0 then [6] else if index = 0xFF then [6] ++ s.allBlocks else [1] ++ s.blockOctets index
      if signed then s.spdmSign port 0x60 request content else s.spdmAnswer port 0x60 request content id))

/-- RESPOND_IF_READY (R195): no response of the model waits, since each is formed in its request's step (DESIGN CHOICE,
notes/assumptions/63.md). -/
def execRespondIfReady (port : SpdmPort) (request : List Byte) (s : State) : Host.Outcome State Fault Refusal :=
  .next (s.whenResponds port request (fun s => s.spdmFails port request errorUnexpected))

/-- SPDM_UNSUPPORTED_REQUEST (R195). -/
def execSpdmUnsupportedRequest (port : SpdmPort) (request : List Byte) (s : State) : Host.Outcome State Fault Refusal :=
  .next (s.whenResponds port request (fun s => s.spdmFails port request errorUnsupported))

/-- DOE_DISCOVERY (R196): types 0x00 discovery and 0x01 SPDM under vendor ID 0x0001. -/
def execDoeDiscovery (index : Nat) (s : State) : Host.Outcome State Fault Refusal :=
  .next (s.whenLive (fun s => s.send (.doe (Config.doeDiscovery index))))

end Sys2Proof.Machine
end

