-- ==== Sys2Proof/Machine/Images.lean ====
section
/-! DEFINITION. Firmware images, their acceptance and areas, and the layers that measurement derives (spec/03 R99, R100, R102 to
R104, R613; spec/11 R348 to R354). -/

namespace Sys2Proof.Machine

/-! ## Images (R102, R103) -/

/-- R102: body length, size, image digest and security version of an image's octets. -/
def imageBody (b : List Byte) : Nat := beNat ((b.drop 14).take 4)
def imageSize (b : List Byte) : Nat := 64 + imageBody b + 4723
def imageDigest (b : List Byte) : List Byte := sha384 (b.take (64 + imageBody b))
def imageSecurity (b : List Byte) : Nat := beNat ((b.drop 8).take 3)

/-- R102: octets of an image area. -/
def imageLimit : Nat := 3145728

/-- R103: magic, format, reserved octets and size. -/
def imageForm (b : List Byte) : Bool :=
  b.take 5 == [0x4E, 0x46, 0x57, 0x31, 1] && (b.drop 5).take 3 == [0, 0, 0] &&
    (b.drop 18).take 46 == List.replicate 46 0 && imageSize b ≤ imageLimit

/-- R103: the image is acceptable under a minimum security version. -/
def imageAcceptable (minimum : Nat) (b : List Byte) : Bool :=
  let d := imageDigest b
  let sig := b.drop (64 + imageBody b)
  imageForm b && imageSize b ≤ b.length && minimum ≤ imageSecurity b &&
    Config.ecdsaVerify 1 Config.vendorEcdsaKey d (sig.take 96) &&
    Config.mldsaVerify 87 Config.vendorMldsaKey d (ascii "NORNEL-FWIMAGE") ((sig.drop 96).take 4627)

/-- R102: the image that an area holds, when its header has the form of one and every octet reads. -/
def State.imageContent (s : State) (areaB : Bool) : Option (List Byte) :=
  let h := s.imageHeader areaB
  if imageForm h then s.flashOctets 0 (imageWord areaB) (imageSize h) else none

/-- R99 step 1: the area's image is acceptable. -/
def State.areaAccepted (s : State) (areaB : Bool) : Bool :=
  match s.imageContent areaB with
  | some b => imageAcceptable s.minimumVersion b
  | none => false

/-- R100: the first acceptable image in an order. -/
def State.acceptedImage (s : State) (first : Bool) : Option Bool := [first, !first].find? s.areaAccepted

/-- R104 steps 2 to 4: the area is erased, rows 1 onward are programmed, then row 0. -/
def State.programImage (areaB : Bool) (b : List Byte) (s : State) : State :=
  let w := packAll (b.take (imageSize b))
  let s := s.forAll (List.range 256) (fun i => State.eraseNow 0 ((if areaB then 260 else 4) + i))
  (s.programWords 0 (imageWord areaB + 64) (w.drop 64)).programWords 0 (imageWord areaB) (w.take 64)

/-- R107: image status and versions. -/
def State.refreshImages (s : State) : State :=
  let st := fun (b : Bool) => if s.modes.running == some b then 2 else if s.areaAccepted b then 1 else 0
  let v := fun (b : Bool) => if s.areaAccepted b then s.imageVersion b else 0
  (s.put (okey 0x7000 1) (.octets [octet (st false), octet (st true)])).put (okey 0x7000 2)
    (.octets (beOctets 3 (v false) ++ beOctets 3 (v true)))

/-! ## Layers (R99, R348 to R354, R613) -/

/-- Attributes of the keys that the device derives for slots 0, 1, 4 and 5 (DESIGN CHOICE, notes/assumptions/69.md). -/
def layerAttrs (keyType useClass length : Nat) (modes : BitVec 16) (curve : List Byte) : KeyAttrs :=
  { keyType, useClass, modeMask := modes, minLevel := 2, pairMask := 0xF, flags := 2, length, keyId := 0, notAfter := 0,
    curve, reserved := [0, 0, 0] }

/-- A key that the boot ROM or the key unit itself puts into a Monitor slot (R355). -/
def State.ownKey (n : Nat) (a : KeyAttrs) (material : List Byte) (s : State) : State :=
  s.fillSlot n { material, attrs := a, level := 2, filledBy := none }

/-- R349, R352: the manufacture key's halves, in lifecycle FACTORY or UNOWNED only. -/
def State.manufactureKeys (s : State) : State :=
  let u := udsOctets s.keys
  if s.lifecycle = 1 ∨ s.lifecycle = 2 then
    (s.ownKey 4 (layerAttrs 0x10 6 48 0x7E (s.curveDigest 1)) (ecScalar p384 (kmac u [] "DXK-DMK-EC" 512))).ownKey 5
      (layerAttrs 0x21 6 32 0x7E (List.replicate 48 0)) (kmac u [] "DXK-DMK-ML" 256)
  else s

/-- R99 steps 2 and 3: B, IWK and CDI1 from the UDS, whose access then closes. -/
def State.deriveLayers (s : State) : State :=
  let u := udsOctets s.keys
  let c := kmac u (s.modes.imageDigest ++ s.optionDigestField ++ [octet s.lifecycle] ++ beOctets 3 s.runningVersion) "DXK-CDI1" 384
  (s.onKeys (fun k =>
    { k with binding := some (bindingOf k), iwk := some (iwkOf k), cdi1 := some (BitVec.ofNat 384 (beNat c)),
             udsOpen := false })).manufactureKeys

/-- R99 step 1: an image runs. -/
def State.takeImage (areaB : Bool) (s : State) : State :=
  let d := ((s.imageContent areaB).map imageDigest).getD (List.replicate 48 0)
  s.onModes (fun m => { m with running := some areaB, imageDigest := d })

/-- R613: the policy digest over the manifests and policy programs in force. -/
def State.policyDigestNow (s : State) : List Byte :=
  sha384 (channels.flatMap (fun n => (List.range 8).flatMap (fun k =>
      match kget s.chans[n].manifests k with
      | some b => if b.isEmpty then List.replicate 48 0 else sha384 b
      | none => List.replicate 48 0)) ++
    s.modes.programs.flatMap (fun e => if e.2.isEmpty then List.replicate 48 0 else sha384 e.2))

/-- R354: slots 2 and 3 from the first good copy of the identity blob. -/
def State.loadIdentity (s : State) : State :=
  match s.keys.identityBlob.toList.findSome? (fun b =>
      if (b.getD 5 0) = 2 ∧ blobForm b = true then
        (match s.keys.iwk with
        | some k =>
          let a := KeyAttrs.ofOctets ((b.drop 16).take 72)
          (gcmOpen k ((b.drop 88).take 12) (b.take 88) ((b.drop 100).take a.length) (b.drop (100 + a.length))).map (fun m => (a, m))
        | none => none)
      else none) with
  | some (a, m) => (s.ownKey 2 (identityHalf s a 2) (m.take 48)).ownKey 3 (identityHalf s a 3) (m.drop 48)
  | none => s

/-- R349, R354: slot 1 and, after it, slot 0 from CDI1, which is cleared. -/
def State.deriveSlots (s : State) : State :=
  match s.keys.cdi1 with
  | none => s
  | some c =>
    let o := beOctets 48 c.toNat
    ((s.ownKey 1 (layerAttrs 0x10 6 48 0x7C (s.curveDigest 1)) (ecScalar p384 (kmac o [] "DXK-L1EC" 512))).ownKey 0
      (layerAttrs 0x05 5 48 0x7C (List.replicate 48 0)) (kmac o s.modes.policyDigest "DXK-CDI2" 384)).onKeys (fun k =>
        { k with cdi1 := none })

/-- R354: a new first-layer certificate when the stored one certifies another key and the identity key is there to sign. -/
def State.certifyFirstLayer (s : State) : State :=
  match s.keySlot 1, s.keySlot 2 with
  | some one, some two =>
    let k := publicP384 one.material
    if Config.subjectKey (s.objOctets (okey 0x5000 9)) = k then s
    else
      { s.put (okey 0x5000 9) (.octets (Config.certificate 9 k (s.modes.imageDigest ++ beOctets 3 s.runningVersion) two.material
          s.free)) with free := s.free + 1 }
  | _, _ => s

/-- What the runtime forms from the layers at a start or hot restart (R99 step 4, R349, R354, R613). -/
def State.runtimeKeys (s : State) : State :=
  let s := s.onModes (fun m => { m with policyDigest := s.policyDigestNow })
  let s := s.onKeys (fun k =>
    { k with eventKey := (k.binding.map eventKeyOf).or k.eventKey,
             ownerRoot := match k.vigilRoot, k.binding with
               | some v, some b => some (ownerRootOf v b (s.objOctets (okey 0x1000 4)))
               | _, _ => none })
  s.loadIdentity.deriveSlots.certifyFirstLayer

end Sys2Proof.Machine
end

