-- ==== Sys2Proof/Machine/Operands.lean ====
section
/-! DEFINITION. Operand forms of the Onotte-48 instructions: immediates and displacements, octet and parcel pointers, halves
and octets of a word, and the encodings that are illegal (spec/13_onotte_instruction_set.md, R425 to R430, R437). -/

namespace Sys2Proof

/-- R429: a short or long immediate, sign-extended. -/
def Imm.word : Imm → Word
  | .short v => v.signExtend 48
  | .long v => v.signExtend 48

/-- R428: parcels of the instruction that carries the immediate. -/
def Imm.parcels : Imm → Nat
  | .short _ => 1
  | .long _ => 2

/-- R429: the immediate of MOVI. -/
def MoviImm.word : MoviImm → Word
  | .short v => v.signExtend 48
  | .long v => v.signExtend 48

def MoviImm.parcels : MoviImm → Nat
  | .short _ => 1
  | .long _ => 2

/-- R429: the displacement of BR and CALL. -/
def JumpDisp.word : JumpDisp → Word
  | .short v => v.signExtend 48
  | .long v => v.signExtend 48

def JumpDisp.parcels : JumpDisp → Nat
  | .short _ => 1
  | .long _ => 2

end Sys2Proof

namespace Sys2Proof.Machine

/-! ## Octet pointers (R425, R426) -/

/-- R425: optr_add; none where it raises an alignment fault. -/
def optrAdd (p : Word) (n : Int) : Option Word :=
  if p.toNat % 8 ≥ 6 then none else some (BitVec.ofInt 48 (octMove p.toNat n))

/-- R426: the octet distance; none where it raises an alignment fault. -/
def octetDistance (a b : Word) : Option Word :=
  if a.toNat % 8 ≥ 6 ∨ b.toNat % 8 ≥ 6 then none
  else some (BitVec.ofInt 48 (((a.toNat / 8 : Nat) - (b.toNat / 8 : Nat) : Int) * 6 + ((a.toNat % 8 : Nat) - (b.toNat % 8 : Nat) : Int)))

/-! ## Sizes of access (R437) -/

/-- What a load or store moves. -/
inductive Size | word | half | octet
deriving DecidableEq, Repr

/-- R437: octets of an access. -/
def Size.octets : Size → Nat
  | .word => 6 | .half => 3 | .octet => 1

/-- R437: the octet indexes an access may have. -/
def Size.aligned (z : Size) (p : Word) : Bool :=
  match z with
  | .word => p.toNat % 8 == 0
  | .half => p.toNat % 8 == 0 || p.toNat % 8 == 3
  | .octet => p.toNat % 8 < 6

/-- R437: the effective pointer, none when the base itself is misaligned. -/
def effective (base : Word) (disp : Imm) (z : Size) : Option Word := optrAdd base (disp.word.toInt * z.octets)

/-- R4, R437: the part of a word at an octet index, zero-extended. -/
def Size.extract (z : Size) (p w : Word) : Word :=
  match z with
  | .word => w
  | .half => if p.toNat % 8 = 3 then w >>> 24 else w &&& 0xFFFFFF
  | .octet => (w >>> (8 * (p.toNat % 8))) &&& 0xFF

/-- R437: sign extension of a half or octet. -/
def Size.signed (z : Size) (w : Word) : Word :=
  match z with
  | .word => w
  | .half => (w.setWidth 24).signExtend 48
  | .octet => (w.setWidth 8).signExtend 48

/-- R437: a word with the part at an octet index replaced. -/
def Size.insert (z : Size) (p old v : Word) : Word :=
  match z with
  | .word => v
  | .half => if p.toNat % 8 = 3 then (v <<< 24) ||| (old &&& 0xFFFFFF) else (old &&& 0xFFFFFF000000) ||| (v &&& 0xFFFFFF)
  | .octet =>
    let k := 8 * (p.toNat % 8)
    (old &&& ~~~((0xFF : Word) <<< k)) ||| ((v &&& 0xFF) <<< k)

/-! ## Illegal encodings (R430, R431, R432, R435, R436, R450) -/

/-- Bits hi to lo of a parcel. -/
def parcelBits (w : BitVec 24) (hi lo : Nat) : Nat := w.toNat / 2 ^ lo % 2 ^ (hi - lo + 1)

/-- R428: an instruction whose first parcel has bit 23 set has two parcels. -/
def parcelCount (w : BitVec 24) : Nat := if w.getLsbD 23 then 2 else 1

/-- R430: the short form is assigned, and its zero fields are zero. -/
def shortLegal (w : BitVec 24) : Bool :=
  let major := parcelBits w 22 17
  let fn := parcelBits w 4 0
  if major = 0 then fn ≤ 0x11
  else if major = 5 then parcelBits w 8 6 ≤ 3
  else if major ≤ 0x17 then true
  else if major = 0x18 then fn ≤ 4
  else if major = 0x19 then fn ≤ 2
  else if major = 0x1A then true
  else if major = 0x1B then
    fn ≤ 4 && parcelBits w 16 13 == 0 && parcelBits w 8 5 == 0 && (3 ≤ fn || parcelBits w 12 9 == 0)
  else if major = 0x1C then
    parcelBits w 12 8 ≤ 0x0D && (parcelBits w 12 8 != 2 || parcelBits w 7 3 == 0)
  else if major = 0x1D then parcelBits w 12 9 ≤ 5
  else false

/-- R428, R430: the long form is assigned, and its zero fields are zero. -/
def longLegal (w x : BitVec 24) : Bool :=
  let major := parcelBits w 22 17
  if (1 ≤ major && major ≤ 4) || (7 ≤ major && major ≤ 0x15) then parcelBits w 8 0 == 0
  else if major = 6 || major = 0x1E then parcelBits w 12 0 == 0
  else if major = 0x16 || major = 0x17 then parcelBits w 16 0 == 0
  else if major = 0x1A then parcelBits w 15 12 == 0
  else if major = 0x1D then parcelBits w 12 9 ≤ 5 && parcelBits w 8 0 == 0
  else if major = 0x20 then parcelBits w 4 0 == 0 && parcelBits x 19 0 == 0
  else false

/-- R430: the parcels are an illegal instruction. -/
def illegalParcels (w x : BitVec 24) : Bool := if w.getLsbD 23 then !longLegal w x else !shortLegal w

end Sys2Proof.Machine
end

