-- ==== Sys2Proof/Machine/Flags.lean ====
section
/-! DEFINITION. The carry flag and the results that go with it, shifts, rotates, products (spec/13_onotte_instruction_set.md,
R422, R431, R432, R435). -/

namespace Sys2Proof.Machine

/-- R422: the sum with a carry-in, and the carry out of bit 47. -/
def addCarry (a b : Word) (c : Bool) : Word × Bool :=
  let t := a.toNat + b.toNat + c.toNat
  (BitVec.ofNat 48 t, decide (2 ^ 48 ≤ t))

/-- R422: the difference with a borrow-in, and the borrow. -/
def subBorrow (a b : Word) (c : Bool) : Word × Bool :=
  (a - b - BitVec.ofNat 48 c.toNat, decide (a.toNat < b.toNat + c.toNat))

/-- The kinds of SHI (R432). -/
inductive ShiftKind | shl | shr | sar | rol
deriving DecidableEq, Repr

/-- R432: the kind of SHI's bits [8:6]. -/
def ShiftKind.ofCode : Nat → Option ShiftKind
  | 0 => some .shl | 1 => some .shr | 2 => some .sar | 3 => some .rol | _ => none

/-- R432: a shift or rotate by an amount of 0 to 63. -/
def shiftBy (k : ShiftKind) (w : Word) (amount : Nat) : Word :=
  match k with
  | .shl => w <<< amount
  | .shr => w >>> amount
  | .sar => w.sshiftRight amount
  | .rol => w.rotateLeft (amount % 48)

/-- R431: leading zero bits, 0 to 48. -/
def leadingZeros (w : Word) : Nat := ((List.range 48).takeWhile (fun i => !w.getLsbD (47 - i))).length

/-- A condition as a word. -/
def boolWord (b : Bool) : Word := if b then 1 else 0

/-- R435: high 48 bits of the unsigned product. -/
def mulHighU (a b : Word) : Word := BitVec.ofNat 48 (a.toNat * b.toNat / 2 ^ 48)

/-- R435: high 48 bits of the signed product. -/
def mulHighS (a b : Word) : Word := BitVec.ofInt 48 (a.toInt * b.toInt / 2 ^ 48)

/-- R435: the low and high words of ra × rb + rc + MH. -/
def multiplyAdd (a b c mh : Word) : Word × Word :=
  let t := a.toNat * b.toNat + c.toNat + mh.toNat
  (BitVec.ofNat 48 t, BitVec.ofNat 48 (t / 2 ^ 48))

end Sys2Proof.Machine
end

