-- ==== Sys2Proof/Machine/FlashCommands.lean ====
section
/-! DEFINITION. The meanings of the flash controller's commands (R495 to R514). -/

namespace Sys2Proof.Machine

/-- A pair that runs at Monitor level, which alone reaches the controller's registers (R480, R495). -/
def State.atMonitor (s : State) (p : Fin 4) : Bool := s.runs p && s.pairs[p].level == .monitor

/-- A controller command on either path: FC_CMD written by a pair at Monitor level, or the descriptor that the enabled
queue takes next, when it holds this command. Which moment the controller takes it is the command's own (DESIGN CHOICE,
notes/assumptions/30.md). -/
def State.flashCommand (cmd : FlashCmd) (via : FlashVia) (s : State) : State :=
  match via with
  | .direct p bank inTime => if s.atMonitor p then s.directFlash cmd bank.val inTime else s
  | .queue =>
    if s.live && s.flash.fqCtrl.getLsbD 0 then
      match s.takeable with
      | [] => s
      | i :: _ =>
        match s.descOp i with
        | some o => if o.cmd = cmd then s.takeDesc i else s
        | none => s
    else s

/-- FC_KEY (R496). -/
def execFcKey (p : Fin 4) (value : Word) (s : State) : Host.Outcome State Fault Refusal :=
  .next (if s.atMonitor p then s.fcKeyWrite value else s)

/-- WORD_PROGRAM (R494, R497). -/
def execWordProgram (via : FlashVia) (s : State) : Host.Outcome State Fault Refusal :=
  .next (s.flashCommand .wordProgram via)

/-- ROW_PROGRAM (R494, R497). -/
def execRowProgram (via : FlashVia) (s : State) : Host.Outcome State Fault Refusal :=
  .next (s.flashCommand .rowProgram via)

/-- SECTOR_ERASE (R501). -/
def execSectorErase (via : FlashVia) (s : State) : Host.Outcome State Fault Refusal :=
  .next (s.flashCommand .sectorErase via)

/-- ERASE_SUSPEND (R503). -/
def execEraseSuspend (via : FlashVia) (s : State) : Host.Outcome State Fault Refusal :=
  .next (s.flashCommand .eraseSuspend via)

/-- ERASE_RESUME (R503). -/
def execEraseResume (via : FlashVia) (s : State) : Host.Outcome State Fault Refusal :=
  .next (s.flashCommand .eraseResume via)

/-- RETIRE_WORD (R494, R497). -/
def execRetireWord (via : FlashVia) (s : State) : Host.Outcome State Fault Refusal :=
  .next (s.flashCommand .retireWord via)

/-- MARGIN_READ (R510). -/
def execMarginRead (via : FlashVia) (s : State) : Host.Outcome State Fault Refusal :=
  .next (s.flashCommand .marginRead via)

/-- COUNTER_INCREMENT (R506, R507). -/
def execCounterIncrement (via : FlashVia) (s : State) : Host.Outcome State Fault Refusal :=
  .next (s.flashCommand .counterIncrement via)

/-- COUNTER_SET (R507). -/
def execCounterSet (via : FlashVia) (s : State) : Host.Outcome State Fault Refusal :=
  .next (s.flashCommand .counterSet via)

/-- OPTION_REWRITE (R509). -/
def execOptionRewrite (via : FlashVia) (s : State) : Host.Outcome State Fault Refusal :=
  .next (s.flashCommand .optionRewrite via)

/-- FLASH_LIFECYCLE_ADVANCE (R509). -/
def execFlashLifecycleAdvance (via : FlashVia) (s : State) : Host.Outcome State Fault Refusal :=
  .next (s.flashCommand .lifecycleAdvance via)

/-- R514: FC_ABORT aborts the direct-path operation. -/
def State.fcAbort (s : State) : State := if s.flash.fcState = flashBusy then s.abortFlash .direct else s

/-- FC_ABORT (R514). -/
def execFcAbort (p : Fin 4) (s : State) : Host.Outcome State Fault Refusal :=
  .next (if s.atMonitor p then s.fcAbort else s)

/-- FQ_TAIL_WRITE (R495, R498). -/
def execFqTailWrite (p : Fin 4) (value : Word) (s : State) : Host.Outcome State Fault Refusal :=
  .next (if s.atMonitor p then s.fqTail (value.toNat % 512) else s)

/-- R514: FQ_ABORT ends the unfinished descriptor of a tag; one not yet taken ends at once. A tag that names none has no
effect. -/
def State.fqAbort (tag : Nat) (s : State) : State :=
  match s.flash.fqOpen.find? (fun i => bitsOf (s.descWord i 3) 23 0 == tag) with
  | none => s
  | some i =>
    if s.takeable.contains i || !(s.flash.fqOpen.take 16).contains i then
      s.reportFlash (.queue i) flashStopped flashAborted
    else s.abortFlash (.queue i)

/-- FQ_ABORT (R514). -/
def execFqAbort (p : Fin 4) (value : Word) (s : State) : Host.Outcome State Fault Refusal :=
  .next (if s.atMonitor p then s.fqAbort (bitsOf value 23 0) else s)

/-- FLASH_OPERATION_COMPLETE (R498, R499): the running operation of the bank ends and the next one starts. -/
def execFlashOperationComplete (bank : Fin 2) (e : FlashEnd) (s : State) : Host.Outcome State Fault Refusal :=
  .next (s.whenLive (State.flashComplete bank.val e))

/-- ERASE_MINIMUM_RUN_EXPIRY (R503): the running erase has run 1 ms; a waiting program of a lower class suspends it. -/
def execEraseMinimumRunExpiry (bank : Fin 2) (s : State) : Host.Outcome State Fault Refusal :=
  .next (s.whenLive (fun s =>
    match (s.bank bank.val).running with
    | some o => if o.isErase then (s.onBank bank.val (fun k => { k with ranMinimum := true })).pump bank.val else s
    | none => s))

/-- R511: the next sector to margin-read: those due at the start first, then the pass in sector order. -/
def State.nextMargin (s : State) : Nat := s.flash.refreshDue.headD s.flash.marginNext

/-- R511: one margin read of the pass; the pass ends after sector 4,095, and a commanded pass ends Done when it has read
every sector. -/
def State.marginStep (failing : Nat) (corrected : Bool) (s : State) : State :=
  let n := s.nextMargin
  let due := !s.flash.refreshDue.isEmpty
  let s := s.marginResult (n / 2048) (n % 2048) failing corrected
  if due then s.onFlash (fun c => { c with refreshDue := c.refreshDue.drop 1 })
  else
    let s := s.onFlash (fun c =>
      { c with marginNext := (n + 1) % 4096, marginPass := c.marginPass.map (fun k => k - 1) })
    let s := if n = 4095 then s.putNum (okey 0x7300 8) s.now else s
    if s.flash.marginPass = some 0 then
      (s.onFlash (fun c => { c with marginPass := none })).doneCmd (okey 0x7300 0x10)
    else s

/-- PERIODIC_MARGIN_READ (R511). -/
def execPeriodicMarginRead (failing : Nat) (corrected : Bool) (s : State) : Host.Outcome State Fault Refusal :=
  .next (s.whenLive (fun s => if s.flash.powerFail then s else s.marginStep failing corrected))

/-- R511: a write to 0x7300:10 starts a full pass at once. -/
def marginPassAction : Action :=
  { arg := anyArg, guard := noGuard,
    act := fun _ _ s => (s.onFlash (fun c => { c with marginNext := 0, marginPass := some 4096 }), .busy) }

/-- MARGIN_PASS (R511). -/
def execMarginPass (f : Frame) (s : State) : Host.Outcome State Fault Refusal :=
  .next (s.runCmd (okey 0x7300 0x10) f marginPassAction)

end Sys2Proof.Machine
end

