-- ==== Sys2Proof/Machine/Registers.lean ====
section
/-! DEFINITION. The register space of a pair, word addresses 0x1000000 to 0x100FFFF: which access a register admits, reads
and writes (spec/08 R270, spec/11 R364, R373, spec/14 R462, R480, R487, spec/15 R495). -/

namespace Sys2Proof.Machine

/-- What the fixed rules say of an access to the register space (R481 step 1). -/
inductive RegRule
  /-- The register's own Access column admits it. -/
  | allow
  /-- The Access column does not admit it: a Gauntlet fault. -/
  | refuse
  /-- Another pair's or level's window: a bus error of status WINDOW. -/
  | window
  /-- No fixed rule: the gate's programmable rules and default map decide. -/
  | gate
deriving DecidableEq, Repr

/-- R462, R487: the control block's Access column. -/
def controlRule (l : Level) (off : Nat) (write : Bool) : Bool :=
  let monitor := l == .monitor
  let above := l != Level.user
  if off ≤ 3 || off = 5 || off = 6 || off = 9 then monitor
  else if off = 4 || off = 0x0A then monitor && !write
  else if off = 7 || off = 0x0B then monitor && write
  else if off = 8 then above
  else if off = 0x20 || off = 0x21 then !write
  else if 0x22 ≤ off && off ≤ 0x27 then !write || above
  else false

/-- R270: the hub window's Access column. -/
def hubRule (l : Level) (off : Nat) (write : Bool) : Bool :=
  if off ≤ 5 || off = 8 || off = 0x0C || off = 0x0D then write
  else if off = 9 || off = 0x0A || off = 0x0B || off = 0x0E then !write
  else if off = 0x10 then l == .monitor && !write
  else if 0x11 ≤ off && off ≤ 0x13 then l == .monitor && write
  else false

/-- R364: the key window's Access column. -/
def keyRule (off : Nat) (write : Bool) : Bool :=
  if off ≤ 2 || off = 4 then write else if off = 3 || off = 5 || off = 6 then !write else false

/-- R495: the flash controller's Access column. -/
def flashRule (off : Nat) (write : Bool) : Bool :=
  if off ≤ 4 || off = 6 || off = 0x15 then write
  else if off = 5 || off = 7 || off = 0x13 then !write
  else off = 0x10 || off = 0x11 || off = 0x12 || off = 0x14

/-- An Access column's answer. -/
def RegRule.ofBool (b : Bool) : RegRule := if b then .allow else .refuse

/-- R270, R364, R462, R480, R481, R495: what the fixed rules say of an access by a pair at a level to an offset in the
register space. An access that a register's Access column does not name is refused (DEDUCED, notes/assumptions/48.md). -/
def regRule (p : Fin 4) (l : Level) (off : Nat) (write : Bool) : RegRule :=
  let block := off / 256 % 16
  let window := fun (ok : Bool) => if block = p.val ∧ off % 256 / 64 = l.num then RegRule.ofBool ok else .window
  if 0x3000 ≤ off && off < 0x3400 then
    (if block = p.val then .ofBool (controlRule l (off % 256) write) else .window)
  else if 0x4000 ≤ off && off < 0x4400 then window (hubRule l (off % 64) write)
  else if 0x5000 ≤ off && off < 0x5400 then window (keyRule (off % 64) write)
  else if 0x6000 ≤ off && off < 0x61C0 then .ofBool (l == .monitor)
  else if 0x7000 ≤ off && off < 0x7100 then .ofBool (l == .monitor && flashRule (off % 256) write)
  else .gate

/-! ## Reads -/

/-- R462, R487: a read of the control block. -/
def State.controlRead (s : State) (p : Fin 4) (off : Nat) : Word :=
  let q := s.pairs[p]
  match off with
  | 0x00 => q.vbase1
  | 0x01 => q.vbase2
  | 0x02 => q.gtbase
  | 0x03 => q.gtcount
  | 0x04 => q.ipend.setWidth 48
  | 0x05 => q.ienable.setWidth 48
  | 0x06 => q.iprio
  | 0x08 => BitVec.ofNat 48 q.timers[0]
  | 0x09 => BitVec.ofNat 48 q.timers[1]
  | 0x0A => if q.doubleFault then 1 else 0
  | 0x20 => q.pccyc
  | 0x21 => q.pcins
  | 0x22 => q.pc[0]
  | 0x23 => q.pc[1]
  | 0x24 => q.pc[2]
  | 0x25 => q.pc[3]
  | 0x26 => q.pcsel
  | 0x27 => q.pcovf.setWidth 48
  | _ => 0

/-- R495: state of a bank in FC_STAT. -/
def FlashBank.activity (b : FlashBank) : Nat :=
  match b.running with
  | some o => if o.isErase then 2 else 1
  | none => if b.suspended.isSome then 3 else 0

/-- R495: a read of a controller register. -/
def State.flashRegRead (s : State) (off : Nat) : Word :=
  let c := s.flash
  match off with
  | 0x05 => BitVec.ofNat 48 (c.fcState * 2 ^ 40 + c.banks[0].activity * 2 ^ 36 + c.banks[1].activity * 2 ^ 32 + c.fcCode)
  | 0x07 => c.fcResult
  | 0x10 => c.fqBase
  | 0x11 => c.fqSize
  | 0x12 => BitVec.ofNat 48 c.fqTail
  | 0x13 => BitVec.ofNat 48 c.fqHead
  | 0x14 => c.fqCtrl
  | _ => 0

/-- R270: a read of a hub window. -/
def State.hubRead (p : Fin 4) (l : Level) (off : Nat) (s : State) : State × Word :=
  match off with
  | 0x09 => (s, s.jhResult p l)
  | 0x0A => s.jhPop p l
  | 0x0B => (s, s.jhPopx p l)
  | 0x0E => (s, s.jhState p l)
  | 0x10 => s.jhTake p
  | _ => (s, 0)

/-- R364: KU_STATUS state code. -/
def KuState.code : KuState → Nat
  | .idle => 0 | .busy => 1 | .done => 2 | .failed => 3 | .aborted => 4

/-- R364: KU_STATUS. -/
def KeyWindow.status (w : KeyWindow) : Word := BitVec.ofNat 48 (w.st.code * 2 ^ 40 + w.code)

/-- R364: ENT_LEVEL. -/
def State.entLevel (s : State) : Word := BitVec.ofNat 48 (s.ent.st * 2 ^ 12 + s.ent.queue.length)

/-- A read of the register space, once admitted; none while ENT_TAKE finds no word (R373). An offset at which the spec puts
no register delivers a free value (DESIGN CHOICE, notes/assumptions/49.md). -/
def State.regRead (p : Fin 4) (l : Level) (off : Nat) (s : State) : Option (State × Word) :=
  if 0x3000 ≤ off && off < 0x3400 then some (s, s.controlRead p (off % 256))
  else if 0x4000 ≤ off && off < 0x4400 then some (s.hubRead p l (off % 64))
  else if 0x5000 ≤ off && off < 0x5400 then
    match off % 64 with
    | 0x03 => some (s, s.keys.windows[windowIndex p l].status)
    | 0x05 => (s.takeWords 1).map (fun r => (r.2, r.1.headD 0))
    | 0x06 => some (s, s.entLevel)
    | _ => some (s, 0)
  else if 0x6000 ≤ off && off < 0x61C0 then some (s, s.gaunt.rule ((off - 0x6000) / 32) (off % 32 / 2) (off % 2))
  else if 0x7000 ≤ off && off < 0x7100 then some (s, s.flashRegRead (off % 256))
  else some (s.drawFree.2, s.drawFree.1)

/-! ## Writes -/

/-- R462: DOORBELL raises source 9 on each pair named, in reset or not (R479). -/
def State.doorbell (value : Word) (s : State) : State :=
  s.onPairs (fun v => v.mapIdx (fun i q => if value.getLsbD i then q.interrupt 9 else q))

/-- R462, R487: a write of the control block. -/
def State.controlWrite (p : Fin 4) (off : Nat) (w : Word) (s : State) : State :=
  match off with
  | 0x00 => s.onPair p (fun q => { q with vbase1 := w &&& 0x3FFFF00 })
  | 0x01 => s.onPair p (fun q => { q with vbase2 := w &&& 0x3FFFF00 })
  | 0x02 => s.onPair p (fun q => { q with gtbase := w })
  | 0x03 => s.onPair p (fun q => { q with gtcount := w })
  | 0x05 => s.onPair p (fun q => { q with ienable := w.setWidth 16 })
  | 0x06 => s.onPair p (fun q => { q with iprio := w })
  | 0x07 => s.onPair p (fun q => { q with ipend := q.ipend &&& ~~~(w.setWidth 16) }.overflowRaise)
  | 0x08 => s.onPair p (fun q => { q with timers := q.timers.set 0 (w.toNat % 2 ^ 24) })
  | 0x09 => s.onPair p (fun q => { q with timers := q.timers.set 1 (w.toNat % 2 ^ 24) })
  | 0x0B => s.doorbell w
  | 0x22 => s.onPair p (fun q => { q with pc := q.pc.set 0 w })
  | 0x23 => s.onPair p (fun q => { q with pc := q.pc.set 1 w })
  | 0x24 => s.onPair p (fun q => { q with pc := q.pc.set 2 w })
  | 0x25 => s.onPair p (fun q => { q with pc := q.pc.set 3 w })
  | 0x26 => s.onPair p (fun q => { q with pcsel := w }.overflowRaise)
  | 0x27 => s.onPair p (fun q => { q with pcovf := q.pcovf &&& ~~~(w.setWidth 4) })
  | _ => s

/-- R270: a write of a hub window. -/
def State.hubWrite (p : Fin 4) (l : Level) (off : Nat) (w : Word) (s : State) : State :=
  match off with
  | 0x08 => s.jhSubmit p l
  | 0x0C => s.jhAbort p l w
  | 0x0D => s.jhQuery p l w
  | 0x11 => s.jhCurrent p w
  | 0x12 => s.jhDone p w
  | 0x13 => s.jhCheckpoint p l w
  | i => if h : i < 6 then s.onHubWindow (windowIndex p l) (fun x => { x with desc := x.desc.set i w h }) else s

/-- R364: a write of a key window; a command code that R365 does not assign starts nothing. -/
def State.keyWrite (p : Fin 4) (l : Level) (off : Nat) (w : Word) (s : State) : State :=
  match off with
  | 0x00 => s.onKeyWindow p l (fun x => { x with arg0 := w })
  | 0x01 => s.onKeyWindow p l (fun x => { x with arg1 := w })
  | 0x02 => (match KeyCmd.ofCode (bitsOf w 7 0) with | some c => s.kuGo c p l | none => s)
  | 0x04 => s.kuAbort p l
  | _ => s

/-- R495: FC_CMD. Whether the three writes fell within 64 cycles is the world's (R496); a code that R497 does not assign
carries no operation. -/
def State.fcCommand (w : Word) (inTime : Bool) (s : State) : State :=
  match FlashCmd.ofCode (bitsOf w 7 0) with
  | some c => s.directFlash c (bitsOf w 8 8) inTime
  | none => s.onFlash (fun c => { c with keyStage := 0 })

/-- R495: a write of a controller register other than FC_CMD. -/
def State.flashRegWrite (off : Nat) (w : Word) (s : State) : State :=
  match off with
  | 0x00 => s.fcKeyWrite w
  | 0x02 => s.onFlash (fun c => { c with fcAddr := w })
  | 0x03 => s.onFlash (fun c => { c with fcData := w })
  | 0x04 => s.onFlash (fun c => { c with fcSrc := w })
  | 0x06 => s.fcAbort
  | 0x10 => s.onFlash (fun c => if c.fqCtrl.getLsbD 0 then c else { c with fqBase := w })
  | 0x11 => s.onFlash (fun c => if c.fqCtrl.getLsbD 0 then c else { c with fqSize := w })
  | 0x12 => s.fqTail (w.toNat % 512)
  | 0x14 => s.onFlash (fun c => { c with fqCtrl := w &&& 3 })
  | 0x15 => s.fqAbort (bitsOf w 23 0)
  | _ => s

/-- R480: a write of word w of a rule; none when the rule is locked (RULE_LOCKED). -/
def State.ruleWrite (gate : Fin 14) (rule : Fin 16) (high : Bool) (w : Word) (s : State) : Option State :=
  if s.ruleLocked gate rule then none
  else some (if high then s.ruleTakesEffect gate rule w else s.ruleStaged gate rule w)

/-- A write of the register space, once admitted; none when it ends with RULE_LOCKED. A write where the spec puts no
register changes nothing (DESIGN CHOICE, notes/assumptions/49.md). -/
def State.regWrite (p : Fin 4) (l : Level) (off : Nat) (w : Word) (s : State) : Option State :=
  if 0x3000 ≤ off && off < 0x3400 then some (s.controlWrite p (off % 256) w)
  else if 0x4000 ≤ off && off < 0x4400 then some (s.hubWrite p l (off % 64) w)
  else if 0x5000 ≤ off && off < 0x5400 then some (s.keyWrite p l (off % 64) w)
  else if h : 0x6000 ≤ off ∧ off < 0x61C0 then
    s.ruleWrite ⟨(off - 0x6000) / 32, by omega⟩ ⟨off % 32 / 2, by omega⟩ (off % 2 == 1) w
  else if off = 0x7001 then
    (let (t, s) := s.drawFree
     some (s.fcCommand w (t.getLsbD 0)))
  else if 0x7000 ≤ off && off < 0x7100 then some (s.flashRegWrite (off % 256) w)
  else some s

end Sys2Proof.Machine
end

