-- ==== Sys2Proof/Machine/Pairs.lean ====
section
/-! DEFINITION. An Onotte pair: registers and writes in flight, memory access through the gates, return stacks, exception entry,
double faults, pair reset, interrupts, and the issue of one instruction (spec/01 R24 to R28, R32; spec/13 R437 to R457;
spec/14 R463 to R479). -/

namespace Sys2Proof.Machine

/-! ## Registers and writes in flight (R420, R421, R440, R441) -/

/-- R420, R421: a read of a general register. -/
def Pair.reg (q : Pair) (n : Fin 16) : Word :=
  if n = 0 then 0 else if h : n.val < 15 then q.g[n.val] else q.g15[q.level.idx]

/-- A register takes a value; g0 discards it. -/
def Pair.store (t : Target) (level : Level) (v : Word) (q : Pair) : Pair :=
  match t with
  | .g n => if n = 0 then q else if h : n.val < 15 then { q with g := q.g.set n.val v }
      else { q with g15 := q.g15.set level.idx v }
  | .cy => { q with cy := v.getLsbD 0 }
  | .mh => { q with mh := v }
  | .ls i => { q with ls := q.ls.set i v }
  | .le i => { q with le := q.le.set i v }
  | .lc i => { q with lc := q.lc.set i v }
  | .setLevel i => { q with setLevel := q.setLevel.set i ((Level.ofNum v.toNat).getD .user) }
  | .ml => { q with ml := v.setWidth 3 }

/-- Two writes name one register. -/
def InFlight.same (a b : InFlight) : Bool := a.target == b.target && (a.target != .g 15 || a.level == b.level)

/-- R440: a write by the instruction that executes, read with its new value d instructions later. -/
def Pair.writeAfter (d : Nat) (t : Target) (v : Word) (q : Pair) : Pair :=
  { q with inFlight := q.inFlight ++ [{ target := t, level := q.level, value := v, left := d }] }

/-- R440: a write read by the next instruction. -/
def Pair.write (n : Fin 16) (v : Word) (q : Pair) : Pair := q.writeAfter 1 (.g n) v

/-- R440, R441: one instruction has executed: the writes whose distance has elapsed take effect; an earlier writer of the same
register with a longer distance is dropped. -/
def Pair.advance (q : Pair) : Pair :=
  let r := q.inFlight.foldl (fun (acc : List InFlight × Pair) e =>
    if e.left ≤ 1 then (acc.1.filter (fun x => !x.same e), acc.2.store e.target e.level e.value)
    else (acc.1 ++ [{ e with left := e.left - 1 }], acc.2)) ([], q)
  { r.2 with inFlight := r.1 }

/-- R442: every write in flight completes, in program order. -/
def Pair.flush (q : Pair) : Pair :=
  { q.inFlight.foldl (fun acc e => acc.store e.target e.level e.value) q with inFlight := [] }

/-- R452: a register takes its value at once, and writes of it in flight are overtaken. -/
def Pair.setNow (n : Fin 16) (v : Word) (q : Pair) : Pair :=
  let e : InFlight := { target := .g n, level := q.level, value := v, left := 0 }
  { q with inFlight := q.inFlight.filter (fun x => !x.same e) }.store (.g n) q.level v

/-- R477: within the shadow of an ML change. -/
def Pair.inShadow (q : Pair) : Bool := q.inFlight.any (fun e => e.target == .ml)

/-! ## Exceptions (R463) -/

/-- A fault: cause, subcode, detail (R463, R466). -/
structure Trap where
  cause : Nat
  sub : Nat
  detail : Word
deriving DecidableEq, Repr

def illegalTrap : Trap := { cause := 1, sub := 0, detail := 0 }
def privilegeTrap (n : Nat) : Trap := { cause := 2, sub := n, detail := 0 }
def alignmentTrap (p : Word) : Trap := { cause := 3, sub := 0, detail := p }
def busTrap (status : Nat) (p : Word) : Trap := { cause := 4, sub := status, detail := p }
def gauntletTrap (k : AccessKind) (gate : Nat) (p : Word) : Trap :=
  { cause := 5, sub := (match k with | .read => 0 | .write => 1 | .fetch => 2) * 16 + gate, detail := p }
def dataStackTrap : Trap := { cause := 6, sub := 0, detail := 0 }
def returnStackTrap (l : Level) : Trap := { cause := 7, sub := l.num, detail := 0 }

/-- R463: bus statuses. -/
def outOfMap : Nat := 1
def busParity : Nat := 2
def addressFaultStatus : Nat := 3
def uncorrectableStatus : Nat := 4
def eraseSuspendedHit : Nat := 5
def entropyWaitStatus : Nat := 6
def windowStatus : Nat := 7
def fetchRange : Nat := 8
def ruleLockedStatus : Nat := 9

/-! ## Access through the gates (R24 to R28, R437, R455, R481) -/

/-- R455: a word in some level's spill region. -/
def Pair.spillWord (q : Pair) (addr : Nat) : Bool :=
  [0, 1, 2].any (fun (i : Fin 3) => q.rsl[i].toNat ≤ addr * 8 && addr * 8 < q.rsb[i].toNat)

/-- R481: what comes of a pair's access at a level: none when it is admitted, else its fault. -/
def State.accessTrap (s : State) (p : Fin 4) (l : Level) (addr : Nat) (k : AccessKind) (ptr : Word) : Option Trap :=
  match gateOf p addr with
  | none => some (busTrap outOfMap ptr)
  | some g =>
    let decided := if s.admits g.val (.pair p l) addr k then none else some (gauntletTrap k g.val ptr)
    if k == .write && 4 ≤ g.val && g.val < 8 && s.pairs[p].spillWord addr then some (gauntletTrap k g.val ptr)
    else if g.val = 12 && k != .fetch then
      match regRule p l (addr - 0x1000000) (k == .write) with
      | .allow => none
      | .refuse => some (gauntletTrap k 12 ptr)
      | .window => some (busTrap windowStatus ptr)
      | .gate => decided
    else decided

/-- R34: the memory class that a word address lies in: 3 (other SRAM) for the register space. -/
def memClass (addr : Nat) : Nat :=
  if addr < 0x40000 then 1
  else if addr < 0x400000 then 0
  else if addr < 0x580000 then 2
  else if addr < 0x1000000 then 5
  else if addr < 0x1010000 then 3 else 4

/-- R28: an ADDRESS_FAULT or UNCORRECTABLE outcome: counted, and the memory-integrity source raised. -/
def State.memoryError (cls : Nat) (uncorrectable : Bool) (s : State) : State :=
  (s.bumpWord (okey 0x7100 (if uncorrectable then 0x41 else 0x42)) 6 cls).occur 0x24 (if uncorrectable then 4 else 3)
    (cls * 2 ^ 36)

/-- R27, R28: what the transfer and the memory answered to an access: none when it went well. -/
def State.busOutcome (gate : Nat) (addr : Nat) (ptr : Word) (b : BusReply) (s : State) : State × Option Trap :=
  match b with
  | .ok => (s, none)
  | .parity => ((s.bump (okey 0x7100 0x44)).occur 0x23 1 (gate * 2 ^ 32), some (busTrap busParity ptr))
  | .corrected => (s.bumpWord (okey 0x7100 0x40) 6 (memClass addr), none)
  | .addressFault => (s.memoryError (memClass addr) false, some (busTrap addressFaultStatus ptr))
  | .uncorrectable => (s.memoryError (memClass addr) true, some (busTrap uncorrectableStatus ptr))

/-- The outcome of a memory access: the state and a word, or its fault, or a wait for the entropy queue (R373). -/
inductive Access
  | ok (s : State) (w : Word)
  | trap (s : State) (t : Trap)
  | stall

/-- R24, R184, R437, R439: the word that an admitted read delivers. -/
def State.readWord (p : Fin 4) (l : Level) (addr : Nat) (ptr : Word) (s : State) : Access :=
  if addr < 0x40000 then .ok s (octetsWord (memOctets s.pairs[p].mem (addr * 8) 6))
  else if addr < 0x400000 then .ok s (s.commonsWord (addr * 8))
  else if addr < 0x580000 then .ok s (if addr % 4 = 2 then s.entryWord2 ((addr - 0x400000) / 4) else 0)
  else if addr < 0x1000000 then
    match s.flashRead (if addr < 0xC00000 then 0 else 1) (addr % 0x400000) with
    | .erased => .ok s 0xFFFFFFFFFFFF
    | .value w => .ok s w
    | .uncorrectable => .trap (s.memoryError 5 true) (busTrap uncorrectableStatus ptr)
    | .eraseHit => .trap s (busTrap eraseSuspendedHit ptr)
  else
    match s.regRead p l (addr - 0x1000000) with
    | some (s, w) => .ok s w
    | none => .stall

/-- R24, R437, R480: an admitted write of a word; none when it ends with RULE_LOCKED. The flash is read only on this path, and
the fourth word of a fingerprint entry ignores writes. -/
def State.writeWord (p : Fin 4) (l : Level) (addr : Nat) (w : Word) (s : State) : Option State :=
  if addr < 0x40000 then some (s.onPair p (fun q => { q with mem := memStore q.mem (addr * 8) (wordOctets w) }))
  else if addr < 0x400000 then some (s.setCommonsWord (addr * 8) w)
  else if addr < 0x1000000 then some s
  else s.regWrite p l (addr - 0x1000000) w

/-- R27, R481: the checks before an access: parity, map, gate. -/
def State.checkAccess (p : Fin 4) (l : Level) (ptr : Word) (k : AccessKind) (b : BusReply) (s : State) :
    State × Option Trap :=
  let addr := ptr.toNat / 8
  match gateOf p addr with
  | none => (s, some (busTrap outOfMap ptr))
  | some g =>
    if b = .parity then s.busOutcome g.val addr ptr b
    else match s.accessTrap p l addr k ptr with
    | some t => (s, some t)
    | none => if k == .write then (s, none) else s.busOutcome g.val addr ptr b

/-- R437: a load of a size at an effective pointer, zero-extended. -/
def State.load (p : Fin 4) (l : Level) (z : Size) (ptr : Word) (b : BusReply) (s : State) : Access :=
  if !z.aligned ptr then .trap s (alignmentTrap ptr)
  else match s.checkAccess p l ptr .read b with
  | (s, some t) => .trap s t
  | (s, none) =>
    match s.readWord p l (ptr.toNat / 8) ptr with
    | .ok s w => .ok s (z.extract ptr w)
    | r => r

/-- What a part of a word is merged into: the word's present value, which reading does not disturb; zero for a register
(DESIGN CHOICE, notes/assumptions/50.md). -/
def State.underlying (s : State) (p : Fin 4) (addr : Nat) : Word :=
  if addr < 0x40000 then octetsWord (memOctets s.pairs[p].mem (addr * 8) 6)
  else if addr < 0x400000 then s.commonsWord (addr * 8)
  else 0

/-- R437: a store of a size at an effective pointer; the rest of the word stays. -/
def State.storeAt (p : Fin 4) (l : Level) (z : Size) (ptr v : Word) (b : BusReply) (s : State) : Access :=
  if !z.aligned ptr then .trap s (alignmentTrap ptr)
  else match s.checkAccess p l ptr .write b with
  | (s, some t) => .trap s t
  | (s, none) =>
    let addr := ptr.toNat / 8
    match s.writeWord p l addr (z.insert ptr (s.underlying p addr) v) with
    | some s => .ok s 0
    | none => .trap s (busTrap ruleLockedStatus ptr)

/-! ## Return stacks (R454, R456) -/

/-- R456: a call entry. -/
def callEntry (pointer : Word) (l : Level) : Word := BitVec.ofNat 48 (l.num * 2 ^ 44 + pointer.toNat % 2 ^ 26)

/-- R456: an exception entry, kind 1. -/
def exceptionEntry (pointer : Word) (l : Level) : Word :=
  BitVec.ofNat 48 (2 ^ 46 + l.num * 2 ^ 44 + pointer.toNat % 2 ^ 26)

/-- An octet pointer names a word of the pair's data memory. -/
def inPairData (ptr : Nat) : Bool := 0x20000 ≤ ptr / 8 && ptr / 8 < 0x40000

/-- R454: the oldest n entries of a level go to the n words below RSP, the last of them to the new RSP. -/
def Pair.spillTo (l : Level) (n : Nat) (q : Pair) : Except Trap Pair :=
  let i := l.idx
  let rsp := q.rsp[i].toNat
  if rsp < 8 * n ∨ rsp - 8 * n < q.rsl[i].toNat then .error (returnStackTrap l)
  else if !inPairData (rsp - 8 * n) || !inPairData (rsp - 8) then .error (busTrap outOfMap (BitVec.ofNat 48 (rsp - 8 * n)))
  else
    let low := rsp - 8 * n
    .ok { q with
      mem := memStore q.mem low ((q.stack[i].take n).reverse.flatMap wordOctets),
      stack := q.stack.set i (q.stack[i].drop n),
      rsp := q.rsp.set i (BitVec.ofNat 48 low) }

/-- R454: a push; on a full stack the oldest eight entries are spilled first. -/
def Pair.pushEntry (l : Level) (w : Word) (q : Pair) : Except Trap Pair :=
  let r := if q.stack[l.idx].length < 16 then .ok q else (q.spillTo l 8).map (Pair.perf 8 1)
  r.map (fun q => { q with stack := q.stack.set l.idx (q.stack[l.idx] ++ [w]) })

/-- R454: with no entry on die, up to eight entries are filled from RSP upward, never past RSB. -/
def Pair.fill (l : Level) (q : Pair) : Except Trap Pair :=
  let i := l.idx
  if !q.stack[i].isEmpty then .ok q
  else
    let rsp := q.rsp[i].toNat
    let n := min 8 ((q.rsb[i].toNat - rsp) / 8)
    if q.rsb[i].toNat ≤ rsp ∨ n = 0 then .error (returnStackTrap l)
    else if !inPairData rsp || !inPairData (rsp + 8 * (n - 1)) then .error (busTrap outOfMap (BitVec.ofNat 48 rsp))
    else
      let words := (List.range n).map (fun k => octetsWord (memOctets q.mem (rsp + 8 * k) 6))
      .ok ({ q with stack := q.stack.set i words.reverse,
                    rsp := q.rsp.set i (BitVec.ofNat 48 (rsp + 8 * n)) }.perf 8 1)

/-- R454: the top entry after a fill, and the pair without it. -/
def Pair.popEntry (l : Level) (q : Pair) : Except Trap (Word × Pair) :=
  (q.fill l).map (fun q =>
    ((q.stack[l.idx].getLast?).getD 0, { q with stack := q.stack.set l.idx q.stack[l.idx].dropLast }))

/-- R456: kind of an entry. -/
def entryKind (w : Word) : Nat := bitsOf w 47 46

/-! ## Pair reset (R32, R282, R471) -/

/-- R32, R442: the pair halts and resets; its jobs migrate; its memories keep what they hold (DEDUCED,
notes/assumptions/51.md); the other pairs get source 12. -/
def State.resetPair (p : Fin 4) (s : State) : State :=
  let s := s.hubPairReset p
  let s := s.onPairs (fun v => v.mapIdx (fun i q => if i ≠ p.val ∧ q.inService = true then q.interrupt 12 else q))
  s.onPair p (fun q => { Pair.initial with mem := q.mem, fetched := q.fetched })

/-- R102, R460: the parcel pointer at which the running image says that the runtime starts. -/
def State.entryParcel (s : State) : Word :=
  match s.modes.running with
  | some b => BitVec.ofNat 48 (beNat ((s.imageHeader b).drop 11 |>.take 3))
  | none => 0

/-- R32, R460: the pair is in service at the start address that the boot ROM gives it. -/
def Pair.bringUp (start : Word) (q : Pair) : Pair := { q with inService := true, level := .monitor, ip := start }

/-! ## Entry (R464 to R471) -/

/-- What an exception entry is made of (R465, R466). -/
structure Entry where
  cause : Nat
  sub : Nat
  detail : Word
  /-- Saved pointer. -/
  pointer : Word
  /-- DS: the saved pointer names a branch whose slot faulted. -/
  ds : Bool
  /-- Target level. -/
  target : Level
  /-- ML after the entry; none leaves it. -/
  ml : Option (BitVec 3)
  /-- A gate's target, none for the vector of R464. -/
  gate : Option Word
deriving DecidableEq, Repr

/-- R466: the header word of a frame. -/
def Pair.header (q : Pair) (cause sub escalated : Nat) (ds : Bool) : Word :=
  BitVec.ofNat 48 (cause * 2 ^ 40 + sub * 2 ^ 32 + q.level.num * 2 ^ 30 + q.ml.toNat * 2 ^ 27 + ds.toNat * 2 ^ 26 +
    q.cy.toNat * 2 ^ 25 + q.setLevel[0].num * 2 ^ 23 + q.setLevel[1].num * 2 ^ 21 + escalated * 2 ^ 13)

/-- R466: the ten words of a frame. -/
def Pair.frame (q : Pair) (cause sub escalated : Nat) (ds : Bool) (pointer detail : Word) : List Word :=
  [q.header cause sub escalated ds, pointer &&& 0x3FFFFFF, detail, q.mh, q.ls[0], q.le[0], q.lc[0], q.ls[1], q.le[1],
    q.lc[1]]

/-- R464: VBASE of a target level. -/
def Pair.vbase (q : Pair) (l : Level) : Word := if l = .monitor then q.vbase2 else q.vbase1

/-- R465 steps 3 to 5: LC0 and LC1 cleared, level and ML set, execution goes on at a pointer. -/
def Pair.continueAt (l : Level) (ml : Option (BitVec 3)) (ip : Word) (q : Pair) : Pair :=
  { q with lc := Vector.replicate 2 0, level := l, ml := ml.getD q.ml, ip, branch := none, waiting := false,
           entropyWait := false }

/-- R471: a fault in double fault resets the pair. -/
def State.pairFaultReset (p : Fin 4) (s : State) : State :=
  ((s.bumpWord (okey 0x7000 0x21) 4 p.val).event 0x58 (detailOf 3 (p.val * 2 ^ 32))).resetPair p

/-- R470, R471: the double fault of an escalated cause. -/
def State.doubleFault (p : Fin 4) (cause sub : Nat) (detail pointer : Word) (ds : Bool) (s : State) : State :=
  if s.pairs[p].doubleFault then s.pairFaultReset p
  else
    let s := (s.bumpWord (okey 0x7000 0x20) 4 p.val).event 0x58 (detailOf 2 (p.val * 2 ^ 32 + cause))
    s.onPair p (fun q =>
      let q := q.perf 9 1
      let f := q.frame 0x20 cause sub ds pointer detail
      { (q.continueAt .monitor (some 7) (q.vbase2 + 0x100)) with
        mem := memStore q.mem (0x3FFF0 * 8) (f.flatMap wordOctets), doubleFault := true })

/-- R465 step 2: stores the words of a frame in ascending order from an octet pointer. -/
def State.storeFrame (p : Fin 4) (l : Level) : List Word → Word → State → State × Option Trap
  | [], _, s => (s, none)
  | w :: rest, ptr, s =>
    match s.storeAt p l .word ptr w .ok with
    | .ok s _ => State.storeFrame p l rest (ptr + 8) s
    | .trap s t => (s, some t)
    | .stall => (s, none)

/-- R465 steps 1 and 2: the entry on T's return stack and the frame on T's data stack, or the fault during entry. -/
def State.pushFrame (p : Fin 4) (e : Entry) (s : State) : Except Trap State :=
  let q := s.pairs[p]
  match q.pushEntry e.target (exceptionEntry e.pointer q.level) with
  | .error t => .error t
  | .ok q' =>
    let old := q.g15[e.target.idx]
    match optrAdd old (-60) with
    | none => .error (alignmentTrap 0)
    | some sp =>
      let s' := s.onPair p (fun _ => { q' with g15 := q'.g15.set e.target.idx sp })
      match s'.storeFrame p e.target (q.frame e.cause e.sub 0 e.ds e.pointer e.detail) sp with
      | (_, some t) => .error t
      | (s', none) => if sp.toNat < q.dsl[e.target.idx].toNat then .error dataStackTrap else .ok s'

/-- R465: exception entry, with every write in flight completed first. -/
def State.enterException (p : Fin 4) (e : Entry) (s : State) : State :=
  let s := s.onPair p Pair.flush
  let q := s.pairs[p]
  if e.gate.isNone && q.vbase e.target == 0 then s.doubleFault p e.cause e.sub e.detail e.pointer e.ds
  else match s.pushFrame p e with
  | .error t => (if t.cause = 5 then s.countRefusal (t.sub % 16) else s).doubleFault p t.cause t.sub t.detail e.pointer e.ds
  | .ok s =>
    s.onPair p (fun q =>
      (q.perf 9 1).continueAt e.target e.ml (e.gate.getD (q.vbase e.target + BitVec.ofNat 48 (8 * e.cause))))

/-- R463: target level of a fault. -/
def faultTarget (l : Level) : Level := if l = .user then .supervisor else l

/-- R463, R469, R471, R476: an instruction faults: the saved pointer is its own, or its branch's with DS set when it stands in
a delay slot; at ML 7 the fault escalates; in double fault the pair resets. -/
def State.takeFault (p : Fin 4) (t : Trap) (s : State) : State :=
  let s := if t.cause = 5 then (s.countRefusal (t.sub % 16)).onPair p (Pair.perf 0x0B 1) else s
  let s := s.onPair p Pair.flush
  let q := s.pairs[p]
  let pointer := match q.branch with | some b => b.pointer.setWidth 48 | none => q.ip
  let ds := q.branch.isSome
  if q.doubleFault then s.pairFaultReset p
  else if q.ml = 7 then s.doubleFault p t.cause t.sub t.detail pointer ds
  else s.enterException p { cause := t.cause, sub := t.sub, detail := t.detail, pointer, ds,
                            target := faultTarget q.level, ml := none, gate := none }

/-! ## Interrupts (R474, R475) -/

/-- R474: target level of a source. -/
def sourceTarget (n : Nat) : Level := if n = 0 || n = 1 || n = 4 || n = 11 then .supervisor else .monitor

/-- R462: priority of a source. -/
def Pair.priority (q : Pair) (n : Nat) : Nat := bitsOf q.iprio (3 * n + 2) (3 * n)

/-- R475: a source is admitted. -/
def Pair.admitted (q : Pair) (n : Nat) : Bool :=
  q.ipend.getLsbD n && q.ienable.getLsbD n && q.ml.toNat < q.priority n && q.level.num ≤ (sourceTarget n).num

/-- R475: the admitted source that is taken first: highest priority, then lowest number. -/
def Pair.firstAdmitted (q : Pair) : Option Nat :=
  ((List.range 16).filter q.admitted).foldl (fun best n =>
    match best with
    | none => some n
    | some m => if q.priority m < q.priority n then some n else best) none

/-- R475, R476, R477: the interrupt that is taken at this instruction boundary, if any. -/
def Pair.interruptDue (q : Pair) : Option Nat :=
  if q.branch.isSome || q.inShadow || q.entropyWait then none else q.firstAdmitted

/-! ## Issue (R438, R443, R445, R448, R449, R479) -/

/-- What an instruction is, for the rules on delay slots and loop ends. -/
inductive OpKind
  /-- May stand anywhere. -/
  | plain
  /-- A load, which may wait for the entropy queue. -/
  | load
  /-- A string instruction: not in a delay slot (R445). -/
  | string
  /-- A branch, jump, call, return, ERET, SYS, LOOP or LOOPI: neither in a delay slot nor at the end of an armed loop (R445,
  R449). -/
  | control
deriving DecidableEq, Repr

/-- What comes of an instruction. -/
inductive Issue
  /-- It completes in sequence. -/
  | done (s : State)
  /-- It completes, and execution goes on elsewhere without loop evaluation. -/
  | goto (s : State) (ip : Word)
  /-- It changed level or frame itself. -/
  | placed (s : State)
  /-- It stays where it is: a string instruction between two element groups, or a load that waits. -/
  | stay (s : State)
  /-- It faults. -/
  | trap (s : State) (t : Trap)

/-- The pair can issue: it runs, and is not waiting (WAIT has ended where a source is admitted, R475, which the shadow of an ML
change may keep from being taken, R477), no interrupt to be taken first. -/
def State.mayIssue (s : State) (p : Fin 4) (k : OpKind) : Bool :=
  let q := s.pairs[p]
  s.runs p && (!q.waiting || q.firstAdmitted.isSome) && (!q.entropyWait || k == .load) && q.interruptDue.isNone

/-- R443, R479, R481: the fault of the fetch of one parcel. -/
def State.fetchParcelTrap (s : State) (p : Fin 4) (ip : Word) : Option Trap :=
  if 2 ^ 26 ≤ ip.toNat then some (busTrap fetchRange ip)
  else s.accessTrap p s.pairs[p].level (ip.toNat / 2) .fetch ip

/-- The fault of the fetch of an instruction of one or two parcels at the instruction pointer. -/
def State.fetchTrap (s : State) (p : Fin 4) (parcels : Nat) : Option Trap :=
  let ip := s.pairs[p].ip
  match s.fetchParcelTrap p ip with
  | some t => some t
  | none => if parcels = 2 then s.fetchParcelTrap p (ip + 1) else none

/-- R424, R446, R448: loop set i is armed and ends at the instruction pointer. -/
def Pair.atLoopEnd (q : Pair) (i : Fin 2) : Bool := q.lc[i] != 0 && q.ip == q.le[i] && q.level == q.setLevel[i]

/-- R445, R449: the instruction stands where it may not. -/
def Pair.misplaced (q : Pair) (k : OpKind) : Bool :=
  (q.branch.isSome && (k == .string || k == .control)) ||
    (k == .control && (q.atLoopEnd 0 || q.atLoopEnd 1))

/-- R448: loop evaluation after an instruction of n parcels completes in sequence: where execution goes on. -/
def Pair.nextInSequence (n : Nat) (q : Pair) : Pair :=
  let q1 := if q.atLoopEnd 1 ∧ 1 < q.lc[1].toNat then
      some { (q.perf 7 1) with lc := q.lc.set 1 (q.lc[1] - 1), ip := q.ls[1] }
    else none
  match q1 with
  | some r => r
  | none =>
    let q := if q.atLoopEnd 1 then { q with lc := q.lc.set 1 0 } else q
    if q.atLoopEnd 0 ∧ 1 < q.lc[0].toNat then
      { (q.perf 7 1) with lc := q.lc.set 0 (q.lc[0] - 1), ip := q.ls[0] }
    else
      let q := if q.atLoopEnd 0 then { q with lc := q.lc.set 0 0 } else q
      { q with ip := q.ip + BitVec.ofNat 48 n }

/-- R440, R487: one instruction has completed: writes in flight advance; instructions are counted, and cycles, whose number
is a free value (timing is left out, notes/assumptions/52.md). -/
def State.retire (p : Fin 4) (s : State) : State :=
  let (c, s) := s.drawFree
  s.onPair p (fun q =>
    let q := q.advance
    (({ q with pcins := q.pcins + 1, pccyc := q.pccyc + c, waiting := false }).perf 2 1).perf 1 c.toNat)

/-- R443, R444, R476: the delay slot commits with its branch. -/
def Pair.commitBranch (b : Branch) (n : Nat) (q : Pair) : Except Trap Pair :=
  let after := q.ip + BitVec.ofNat 48 n
  let pushed := if b.push then q.pushEntry q.level (callEntry after q.level) else .ok q
  match pushed with
  | .error t => .error t
  | .ok q =>
    match (if b.pop then (q.popEntry q.level).map (fun r => r.2) else .ok q) with
    | .error t => .error t
    | .ok q =>
      match b.target with
      | some t => .ok { (q.perf 6 1) with ip := t, branch := none }
      | none => .ok { q.nextInSequence n with branch := none }

/-- An instruction of n parcels completes in sequence; `slot` is the branch whose delay slot it fills. -/
def State.complete (p : Fin 4) (n : Nat) (slot : Option Branch) (s : State) : State :=
  match slot with
  | some b =>
    (match s.pairs[p].commitBranch b n with
    | .error t => s.takeFault p t
    | .ok q => (s.onPair p (fun _ => q)).retire p)
  | none =>
    (s.onPair p (fun q =>
      if q.branch.isSome then { q with ip := q.ip + BitVec.ofNat 48 n } else q.nextInSequence n)).retire p

/-- One instruction of a pair, of n parcels and a kind, with what it does (R479: fetch, then illegal placement, then its own
faults). Without a pair that can issue there is none. -/
def State.issue (p : Fin 4) (n : Nat) (k : OpKind) (body : State → Issue) (s : State) : State :=
  if !s.mayIssue p k then s
  else match s.fetchTrap p n with
  | some t => s.takeFault p t
  | none =>
    let slot := s.pairs[p].branch
    if s.pairs[p].misplaced k then s.takeFault p illegalTrap
    else match body s with
    | .done s => s.complete p n slot
    | .goto s ip => (s.onPair p (fun q => { q with ip })).retire p
    | .placed s => s
    | .stay s => s
    | .trap s t => s.takeFault p t

end Sys2Proof.Machine
end

