-- ==== Sys2Proof/Machine/Start.lean ====
section
/-! DEFINITION. Resets and the start: what a reset clears, the canary, the choice of the first mode, runtime start, Recover,
retirement, entry to Gate (spec/03_modes_and_startup.md R82, R86, R90 to R103, R111; spec/04 R130; spec/12 R398, R400). -/

namespace Sys2Proof.Machine

/-! ## What a reset clears (R111) -/

/-- R45: a commit in flight at a reset was programmed or not: a free bit. -/
def State.decideCommits (s : State) : State :=
  s.forAll s.dict.commits (fun c s =>
    let d := s.drawFree
    if d.1.getLsbD 0 then d.2.put c.key c.value else d.2)

def Dictionary.cleared (d : Dictionary) (swapped : Bool) : Dictionary :=
  { Dictionary.initial with objs := keepPers d.objs, perst := d.perst, draws := d.draws, i3cSwapped := swapped }

def Channel.cleared (c : Channel) : Channel :=
  { Channel.initial with manifests := c.manifests, anchors := c.anchors, entrySeq := c.entrySeq }

def Integrity.cleared (i : Integrity) (now : Nat) : Integrity :=
  { Integrity.initial with saved := i.saved, savedAt := i.savedAt, countedTo := now }

/-- The choice of the last start, its image and what a command had begun are gone; the holds, the supplies and what flash
keeps stay. -/
def Modes.cleared (m : Modes) : Modes :=
  { m with startPending := none, starting := true, releaseQueue := [], running := none,
           imageDigest := List.replicate 48 0, policyDigest := List.replicate 48 0, limitExpired := false, hotRestart := none,
           hotRestartWaiting := none, retiring := false }

def Attestation.cleared (a : Attestation) : Attestation := { Attestation.initial with table := a.table, caches := a.caches }

def Ledger.cleared (l : Ledger) : Ledger :=
  { l with rings := Vector.replicate 2 ExportRing.initial, summaryDue := false, summaryRetry := false }

def KeyUnit.cleared (k : KeyUnit) : KeyUnit :=
  { KeyUnit.initial with uds := k.uds, vigilRoot := k.vigilRoot, identityBlob := k.identityBlob, udsOpen := true }

/-- The tamper watch forgets what it had not committed; of its sources those of the vigil domain stay as the domain holds
them. `power`: main power was lost, and the last number issued is the vigil domain's copy (R409). -/
def Tamper.cleared (t : Tamper) (power : Bool) (copied : Option Nat) : Tamper :=
  { Tamper.initial with
      sources := t.sources.filter (fun e => vigilSource e.1), sides := t.sides.filter (fun e => 12 ≤ e.1),
      issued := if power then copied.getD 0 else t.issued, head := t.head, tail := t.tail, index := t.index,
      lastSlot := t.lastSlot, nextSlot := t.nextSlot, lastMac := t.lastMac, segment := t.segment,
      switchLevels := t.switchLevels }

/-- R44: the tag's records are kept Vol: a reset empties them, but they stay while VAUX alone supplies the island (DEDUCED,
notes/assumptions/73.md). -/
def TagIsland.cleared (t : TagIsland) (keep : Bool) : TagIsland :=
  { TagIsland.initial with
      records := if keep then t.records else TagIsland.initial.records, field := t.field, onAtFall := t.onAtFall,
      st := if t.field then .idle else .powerOff }

def Power.cleared (p : Power) (vpea : Bool) : Power :=
  { Power.initial with ref25 := p.ref25, peRefclk := p.peRefclk, vpea }

/-- R404, R576: the CMD objects of what the vigil domain still carries read Busy after a reset: an open cell-change window, a
slew that is not consumed. -/
def State.vigilBusy (s : State) : State :=
  if s.vigil.canary != 0xA5C3E15A3C1E then s
  else
    let s := if s.vigil.windowSince.isSome then s.setCmd (okey 0x6100 0x40) cmdBusy 0 else s
    if s.vigil.slew != 0 then s.setCmd (okey 0x9000 7) cmdBusy 0 else s

/-- Power-on start and device reset: all but the vigil domain and flash (R111, R610). SRAM keeps its content unless main power
was lost or the device was frozen (DESIGN CHOICE, notes/assumptions/74.md). -/
def State.clearDevice (power vpea : Bool) (s : State) : State :=
  let s := s.decideCommits
  let lost := power || s.power.frozen.isSome
  let s := s.resetCards.flashReset
  State.vigilBusy { s with
      dict := s.dict.cleared (s.objNum (okey 0x1100 0x10) != 0), integ := s.integ.cleared s.now, modes := s.modes.cleared,
      chans := s.chans.map Channel.cleared, cons := Consistency.initial, att := s.att.cleared, ledger := s.ledger.cleared,
      hub := JobHub.initial, eng := Engines.initial, keys := s.keys.cleared, ent := Entropy.initial,
      tamper := s.tamper.cleared power s.vigil.lastIssued,
      pairs := s.pairs.map (fun q => if lost then Pair.initial else { Pair.initial with mem := q.mem, fetched := q.fetched }),
      gaunt := Gauntlet.initial, tag := s.tag.cleared (power && s.vigil.vaux), power := s.power.cleared vpea,
      commons := if lost then [] else s.commons }

/-! ## The vigil store at a start (R400) -/

/-- R577: vigil time after a loss: one second beyond the greatest time that flash holds. -/
def State.restoredTime (s : State) : Nat :=
  let ledger := match (s.ledger.records.getLast?).bind s.recordOctets with | some b => beNat ((b.drop 26).take 6) | none => 0
  let log := match (s.tamper.index.getLast?).bind (fun e => s.slotWords e.2.1) with
    | some w => (w.getD 1 0).toNat
    | none => 0
  (max ledger log + second) % 2 ^ 48

/-- R400: a start that finds another canary initialises the vigil store and raises source 0x2B; the kind of the start. -/
def State.checkCanary (kind : ResetKind) (s : State) : ResetKind × State :=
  if s.vigil.canary = 0xA5C3E15A3C1E then (kind, s)
  else
    let t := s.restoredTime
    let s := s.onVigil (fun v =>
      { Vigil.initial with supply := v.supply, vaux := v.vaux, crystalStopped := v.crystalStopped, time := t, copy := t,
                           restored := true })
    let s := (s.onLedger (fun l => { l with mirror := none })).onKeys (fun k => { k with vigilRoot := none })
    (.powerOnVigilLost, (s.onInteg (fun i => { i with countedTo := t })).occur 0x2B 1 0)

/-! ## Retirement (R86) -/

/-- The object of the Retire command. -/
def retireKey : Nat := okey 0x1200 9

/-- R86: a retirement that cannot go on: its command fails, the mode stays Retired (DESIGN CHOICE, notes/assumptions/75.md). -/
def State.failRetirement (code : Nat) (s : State) : State :=
  (s.onModes (fun m => { m with retiring := false })).failCmd retireKey code

/-- R86: the append of the retirement record, or first of a rollover when the ledger key cannot be unwrapped. -/
def State.beginRetirement (s : State) : State :=
  let s := s.onModes (fun m => { m with retiring := true })
  if s.ledgerKey.isSome then s.askAppend .retirement 0 none []
  else if s.objNum (okey 0x3100 5) ≥ 0xFFFF then s.failRetirement rolloverFailed
  else s.askAppend .rollover 2 none []

/-- R86: after the record: the last lifecycle word, then the erase line. -/
def State.finishRetirement (s : State) : State :=
  (((s.lifecycleNext.eraseLine).latchLock 8 0).doneCmd retireKey).onModes (fun m => { m with retiring := false })

/-- R86: what follows an append of a retirement that has ended. -/
def State.settleRetirement (s : State) : State :=
  if !s.modes.retiring || s.ledger.append.isSome || !s.ledger.queue.isEmpty then s
  else match s.ledger.records.getLast? with
  | some r =>
    if s.ledger.fault || r.sequence != s.counter 0 then s.failRetirement ledgerWriteFailed
    else if r.kind = RecordKind.code .retirement then s.finishRetirement
    else if r.kind = RecordKind.code .rollover then s.askAppend .retirement 0 none []
    else s.failRetirement ledgerWriteFailed
  | none => s.failRetirement ledgerWriteFailed

/-! ## Entry to Gate (R82, R96, R130) -/

/-- R82: the staged manifests, anchors and entry sequences of a channel take effect. -/
def State.applyChannel (n : Fin 12) (s : State) : State :=
  let staged := (List.range 8).filterMap (fun k =>
    let b := s.objOctets (ckey 1 n (1 + k))
    if b.isEmpty then none else some (k, b))
  let anchors := s.objOctets (ckey 0 n 4)
  let entry := s.objOctets (ckey 0 n 5)
  s.onChan n (fun c => { c with manifests := staged, anchors, entrySeq := entry })

/-- R82: staged changes take effect, all of them or, when the option area cannot be written, none. -/
def State.applyStaged (s : State) : State :=
  let r := if s.optionsStaged then s.tryRewrite s.stagedOptions else (s, true)
  if !r.2 then r.1.event 0x30 (detailOf 3 optionWriteFailed)
  else
    let s := r.1.forAll channels State.applyChannel
    s.onModes (fun m =>
      { m with programs := m.stagedPrograms.foldl (fun p e => kset p e.1 e.2) m.programs, stagedPrograms := [] })

/-- R81: the effective hold-enable mask: that of word 32 while the lifecycle is OWNED. -/
def State.effectiveMask (s : State) : BitVec 16 := if s.lifecycle = 3 then (s.opt 32).setWidth 16 else 0

/-- Code of a reset kind (R111). -/
def ResetKind.code : ResetKind → Nat
  | .powerOn => 1 | .powerOnVigilLost => 2 | .deviceReset => 3 | .hotRestart => 4

/-- R172, R183, R192: the fingerprint key and the parts of the consistency check that a Gate begins anew. -/
def State.gateConsistency (k : Word) (s : State) : State :=
  (((s.clearStatistics.clearFingerprints).keySetup k).allocateEntries).excludeFailed

/-- R130: entry to Gate with a fingerprint key. A ledger key that no generation can replace sends the start to Locked
(R252). -/
def State.enterGateWith (k : Word) (s : State) : State :=
  let s := s.applyStaged
  let s := (s.setMask s.effectiveMask).assertHolds
  let s := s.gateConsistency k
  let s := s.onChans (fun v => v.map (fun c =>
    { c with regions := [], manifestsDecided := false, status := [], phase := 0,
             flash := c.flash.map (fun x => { x with ready := false, fault := false }), forwarded := Vector.replicate 2 none }))
  let s := s.forAll channels (fun n s =>
    if (s.chanDesc n).enabled then
      s.onChan n (fun c => { c with phase := 1, regions := (s.validRegions n).map (fun e => (e.1, Region.initial)) })
    else s)
  let s := s.onModes (fun m => { m with mode := .gate, startPending := none, starting := false, limitExpired := false })
  let s := (s.onVigil (fun v => { v with watchdogs := 0 })).onInteg (fun i => { i with countedTo := s.now })
  let s := (s.unnamedHolds.gateAttestation).wakeAll islandIndexes
  let r := (s.counterInc 5).gateLedger
  if r.2 then r.1.enterLocked none 5 0 else r.1.doneCmd (okey 0x1200 8)

/-- R96: Gate waits for the bus scrambling keys and for the DRBG's fingerprint key. -/
def State.tryGate (s : State) : State :=
  if s.modes.startPending != some Mode.gate || !s.integ.busKeysFromDrbg then s
  else match s.drawFingerprintKey with
  | some (k, s) => s.enterGateWith k
  | none => s

/-! ## The first mode (R90) -/

/-- A start enters its chosen mode: the watchdog stops, and its count clears (R98). -/
def State.enterStart (m : Mode) (s : State) : State :=
  let s := s.onModes (fun x => { x with mode := m, starting := false, startPending := none })
  let s := (s.onVigil (fun v => { v with watchdogs := 0 })).onInteg (fun i => { i with countedTo := s.now })
  let s := s.wakeAll islandIndexes
  if m.passThrough then s.beginPassThrough else s.stopServing

/-- R401: cause and second octet for a start that finds Locked latched. -/
def State.latchedCause (s : State) : Option Nat :=
  (s.vigil.records.find? (fun r => 3 ≤ bitsOf r.word0 39 36)).map (fun r => bitsOf r.word0 47 40)

/-- R84, R367: a start that enters Locked: keys derived by the start are cleared. -/
def State.startLocked (s : State) : State := s.closeKeys.enterStart .locked

/-- Rows of R90 after image measurement, whose runtime has started. -/
def State.chooseMode (uds : Bool) (source : Option Nat) (s : State) : State :=
  let life := s.lifecycle
  if life = 4 then
    let s := if s.keys.vigilRoot.isSome then s.eraseLine.latchLock 8 0 else s.closeKeys
    s.enterStart .retired
  else if s.flag flagRetire then (s.enterStart .retired).beginRetirement
  else if s.flag flagLocked then
    (match source with
    | some x => s.put (okey 0x6100 6) (.octets [6, octet x])
    | none => s).startLocked
  else if life = 1 then s.enterStart .factory
  else if life = 2 then s.enterStart .provision
  else if s.modes.options.copy.isNone then (s.latchLock 2 0).startLocked
  else if !uds then (s.latchLock 4 0).startLocked
  else if s.keys.vigilRoot.isNone then (s.latchLock 3 0).startLocked
  else (s.onModes (fun m => { m with startPending := some .gate })).tryGate

/-- Runtime start (R96, R349, R354, R389, R398, R504, R511, R530, R531): the four pairs run. -/
def State.runtimeStart (s : State) : State :=
  let s := (s.onPairs (fun v => v.map (Pair.bringUp s.entryParcel))).runtimeKeys
  let s := s.startLog true
  let s := if 3 ≤ s.lifecycle then s.startLedger else s
  let s := s.checkCurves.completeErases
  let s := s.onFlash (fun c => { c with refreshDue := s.marginsDue })
  let s := s.writeTag 1 s.identityRecord
  let s := if s.ledger.records.isEmpty then s else s.putSummary none
  (s.writeRawThresholds.onVigil (fun v =>
    { v with responses := (s.objOctets (okey 0x6100 1)).map BitVec.toNat })).refreshImages

/-- R91, R93, R94: the option area loads. -/
def State.loadOptions (s : State) : State :=
  let s := s.takeOptions.repairOptions
  s.setMask s.effectiveMask

/-- R118: starts since provisioning; the flash counter follows (R505). -/
def State.countStart (s : State) : State :=
  if 3 ≤ s.lifecycle then (s.bump (okey 0x1200 0x11)).counterInc 6 else s

/-- R101: Recover is entered; the loader alone runs. -/
def State.enterRecover (s : State) : State := (s.enterStart .recover).refreshImages

/-- R101, R104: the first acceptable image of the cards goes into area A; whether one did. -/
def State.recoverFromCards (images : List (List Byte)) (s : State) : State × Bool :=
  match images.find? (fun b => imageAcceptable s.minimumVersion b) with
  | none => (s, false)
  | some b =>
    let s := s.programImage false b
    if !s.areaAccepted false then (s, false)
    else if s.modes.options.copy.isNone then (s, true)
    else s.tryRewrite (s.modes.options.words.set 49 (bootOrder false false (s.objNum (okey 0x7000 6))))

/-- The boot ROM (R17, R90 to R103). `fuel` bounds the starts that Recover's own installations cause. -/
def State.boot : Nat → StartEnv → ResetKind → State → State
  | 0, _, _, s => s
  | fuel + 1, env, kind, s =>
    let s := s.loadOptions
    let s := (s.onModes (fun m => { m with lastReset := kind })).countStart.onLedger (fun l => { l with startCause := kind.code })
    let recover := fun (s : State) =>
      let r := s.enterRecover.recoverFromCards env.cardImages
      if r.2 then State.boot fuel { env with cardImages := [] } .deviceReset (r.1.assertHolds.clearDevice false env.vpea) else r.1
    if s.lifecycle = 0 then (s.enterStart .blank).refreshImages
    else if 3 ≤ s.vigil.watchdogs then recover s
    else
      let t := s.stepTrial
      let s := t.2.laneTested 12 env.h12
      match s.acceptedImage t.1 with
      | none => recover s
      | some b =>
        let uds := env.udsCopies.1 || env.udsCopies.2
        let source := s.latchedCause
        let s := s.takeImage b
        let s := if uds then s.deriveLayers else s.onKeys (fun k => { k with udsOpen := false })
        s.runtimeStart.chooseMode uds source

/-! ## Device reset (R111, R610) -/

/-- R111: a device reset: enabled holds asserted, outages ended, everything but the vigil domain cleared, a start begun. -/
def State.deviceReset (env : StartEnv) (s : State) : State :=
  let s := s.assertHolds.reckon.endOutages
  State.boot 2 env .deviceReset (s.clearDevice false env.vpea)

/-- The event buffer is flushed before a reset that R98 and R403 log. -/
def State.flushBeforeReset (s : State) : State :=
  let s := s.issueTick
  if s.keys.eventKey.isSome then s.flushLog none else s

end Sys2Proof.Machine
end

