-- ==== Sys2Proof/Machine/Modes.lean ====
section
/-! DEFINITION. Supplies and power fail, the start's watchdog, Gate to Serve, mode requests, lifecycle, provisioning, resets,
hot restart, board boot, retirement, limits, image installation, scrub and hourly save (spec/03; spec/01 R20, R26, R29, R34,
R38; spec/18 R589). -/

namespace Sys2Proof.Machine

/-! ## Supplies (R94, R95, R97, R589) -/

/-- R94: the I/O ring drives the holds of the mirror. -/
def State.vio33 (s : State) : State :=
  if s.modes.vio33 then s
  else s.onModes (fun m =>
    { m with vio33 := true,
             holds := Vector.ofFn (fun h : Fin 16 => if s.vigil.holdMirror.getLsbD h.val then .low else .hiZ) })

/-- VIO33_IN_RANGE (R94). -/
def execVio33InRange (s : State) : Host.Outcome State Fault Refusal := .next s.vio33

/-- R95, R111: the start at the arrival of main power; reset kind 0x01, or 0x02 when vigil state was lost. -/
def State.powerOn (env : StartEnv) (s : State) : State :=
  let s := s.vio33.onModes (fun m => { m with mainPower := true, starting := true, pfail := false })
  let s := { s with tag := s.tag.cleared false, power := s.power.cleared env.vpea }
  let r := (s.onInteg (fun i => { i with countedTo := s.now })).checkCanary .powerOn
  State.boot 2 env r.1 r.2

/-- MAIN_POWER_ARRIVES (R95). -/
def execMainPowerArrives (env : StartEnv) (s : State) : Host.Outcome State Fault Refusal :=
  .next (if s.modes.mainPower then s else s.powerOn env)

/-- BOOT_WATCHDOG_EXPIRY (R98): the start has not entered its mode. -/
def execBootWatchdogExpiry (env : StartEnv) (s : State) : Host.Outcome State Fault Refusal :=
  .next (s.whenLive (fun s =>
    if !s.modes.starting then s
    else
      let s := s.onVigil (fun v => { v with watchdogs := v.watchdogs + 1 })
      let chosen := match s.modes.startPending with | some m => m.code | none => 0xFF
      ((s.event 0x30 (detailOf 2 (min s.vigil.watchdogs 255 * 256 + chosen))).flushBeforeReset).deviceReset env))

/-- R34, R38, R387, R512: what is saved hourly and on PFAIL_N. -/
def savedObjects : List Nat :=
  [okey 0x7100 0x40, okey 0x7100 0x41, okey 0x7100 0x42, okey 0x7100 0x43, okey 0x7100 0x44, okey 0x1200 0x32,
    okey 0x7300 3, okey 0x7300 9, okey 0x6000 3]

/-- HOURLY_SAVE (R512), and the save on PFAIL_N. -/
def State.saveAll (s : State) : State :=
  (s.reckon.forAll savedObjects State.saveObj).onInteg (fun i => { i with savedAt := s.now })

/-- HOURLY_SAVE (R34, R38, R512). -/
def execHourlySave (s : State) : Host.Outcome State Fault Refusal := .next (s.whenLive State.saveAll)

/-- R601: what the fall of PFAIL_N stops. -/
def State.haltForPowerFail (s : State) : State :=
  let duty := s.dutyPair
  let s := s.forAll pairIndexes (fun p s => if duty = some p then s else s.onPair p Pair.flush)
  s.forAll (s.slotsWhere (fun j => (j.cls == 3 || j.cls == 4) && j.st == .running)) State.abortJob

/-- PFAIL_N_FALL (R589): a start is abandoned (R97), I0 and I1 wake (R566), erases are suspended (R513), the statistics and
counters are saved (R34, R38, R190, R512), and the event log is to be flushed (R409). R601: every pair but the duty pair halts, its writes in flight
complete (R442), and running big-number and lattice jobs end Aborted. -/
def State.pfailFall (s : State) : State :=
  if !s.modes.mainPower || s.modes.pfail then s
  else
    let s := s.onModes (fun m => { m with pfail := true })
    s.whenLive (fun s =>
      let s := s.haltForPowerFail
      let s := (s.onModes (fun m =>
        { m with startPending := if m.starting then none else m.startPending })).wakeAll [0, 1]
      let s := s.flashPowerFail.saveAll
      let s := if s.modes.mode.serving || s.modes.mode == .gate then s.saveStatistics else s
      s.onTamper (fun t => { t with flushDue := t.flushDue || !t.buffer.isEmpty || !t.arising.isEmpty }))

/-- PFAIL_N_FALL (R589). -/
def execPfailNFall (s : State) : Host.Outcome State Fault Refusal := .next s.pfailFall

/-- PFAIL_N_RISE (R513): what the fall held goes on. -/
def execPfailNRise (s : State) : Host.Outcome State Fault Refusal :=
  .next (if s.modes.mainPower && s.modes.pfail then
      (s.onModes (fun m => { m with pfail := false })).whenLive State.flashPowerBack
    else s)

/-- A program that the loss of power cuts: its row's words are torn or not (R514's caution). -/
def State.cutPrograms (s : State) : State :=
  s.forAll [0, 1] (fun b s =>
    match (s.bank b).running with
    | some o =>
      (match o.cmd with
      | .wordProgram => s.spoilWords b o.addr o.words
      | .rowProgram => s.spoilWords b (o.addr + o.progress) ((o.words.drop o.progress).take 64)
      | _ => s).onBank b (fun k => { k with running := none })
    | none => s)

/-- R34, R38, R512: what was not saved is lost. -/
def State.restoreSaved (s : State) : State :=
  s.forAll savedObjects (fun k s => s.put k ((kget s.integ.saved k).getD (defaultOf k)))

/-- MAIN_POWER_LOSS (R589): the vigil domain alone goes on; the mode is Vigil. An outage in progress ends with the board's
power, uncounted (R36). -/
def State.powerLoss (s : State) : State :=
  if !s.modes.mainPower then s
  else
    let on := s.tag.fn.st == .on
    let s := (s.cutPrograms.restoreSaved).onTag (fun t => { t with onAtFall := on })
    let s := s.clearDevice true false
    s.onModes (fun m =>
      { m with mode := .vigil, starting := false, mainPower := false, vio33 := false, pfail := false, holdMask := 0,
               holds := Vector.replicate 16 .hiZ, options := OptionInForce.none })

/-- MAIN_POWER_LOSS (R589). -/
def execMainPowerLoss (s : State) : Host.Outcome State Fault Refusal := .next s.powerLoss

/-! ## Scrambling keys and scrub (R26, R29) -/

/-- BUS_KEY_REPLACEMENT (R26): once the DRBG has delivered. -/
def execBusKeyReplacement (s : State) : Host.Outcome State Fault Refusal :=
  .next (s.whenLive (fun s =>
    if s.ent.delivered then s.onInteg (fun i => { i with busKeysFromDrbg := true }) else s))

/-- R34: the number of a memory class. -/
def memClassNumber : MemClass → Nat
  | .commons => 0 | .pairMemory => 1 | .fingerprint => 2 | .otherSram => 3 | .bootRom => 4 | .flash => 5

/-- PATROL_SCRUB_VISIT (R28, R29): the outcome of the visit of an SRAM word. -/
def execPatrolScrubVisit (m : MemClass) (o : BusReply) (s : State) : Host.Outcome State Fault Refusal :=
  .next (s.whenLive (fun s =>
    if 3 < memClassNumber m then s
    else match o with
    | .corrected => s.bumpWord (okey 0x7100 0x40) 6 (memClassNumber m)
    | .addressFault => s.memoryError (memClassNumber m) false
    | .uncorrectable => s.memoryError (memClassNumber m) true
    | _ => s))

/-! ## Gate and Serve (R20, R83, R130, R136, R140, R143) -/

/-- GATE_ENTRY (R130): the entry that waited for the DRBG. -/
def execGateEntry (s : State) : Host.Outcome State Fault Refusal := .next (s.whenLive State.tryGate)

/-- R20, R83: the mode becomes Serve at the append of the primary record. -/
def State.enterServe (s : State) : State :=
  let s := s.raiseMinimums.countArmed
  let s := s.onModes (fun m => { m with mode := .serve, releaseQueue := s.releaseEntries })
  let s := (s.forAll channels State.beginServing).primaryOutage false
  s.confirmTrial.openServeCollection

/-- The primary record of this Gate has been committed. -/
def State.settleGate (s : State) : State :=
  if s.modes.mode == .gate && s.modes.startPending.isNone && s.ledger.primary.isSome then s.enterServe else s

/-! ## Hot restart (R112 to R114, R221, R291) -/

/-- The object of the hot restart command. -/
def hotRestartKey : Nat := okey 0x1200 7

/-- R112, R221, R286, R538, R553: the pairs halt and their pair jobs are re-placed, the key slots are cleared, the dictionary
answers RESTARTING. -/
def State.beginHotRestart (image : Nat) (s : State) : State :=
  let s := ((s.suspendSlots.abortPresentation).abortCards).endKeyCommands .aborted actionAborted
  let s := s.onKeys (fun k => { k with slots := [], udsOpen := true })
  let s := s.onPairs (fun v => v.map (fun q => { Pair.initial with mem := q.mem, fetched := q.fetched }))
  let s := (s.onDict (fun d => { d with restarting := true })).onModes (fun m =>
    { m with hotRestart := some image, hotRestartWaiting := none })
  s.forAll (s.slotsWhere (fun j => j.cls == 5 && (j.st == .running || j.st == .aborting))) State.replaceJob

/-- R112: a hot restart that waited for an append begins when it has ended; in another mode than Serve and Maintain it fails. -/
def State.settleHotRestart (s : State) : State :=
  match s.modes.hotRestartWaiting with
  | none => s
  | some i =>
    if s.ledger.append.isSome then s
    else if s.modes.mode == .serve || s.modes.mode == .maintain then s.beginHotRestart i
    else (s.onModes (fun m => { m with hotRestartWaiting := none })).failCmd hotRestartKey modeRefused

/-- What follows when an append has ended: retirement, a waiting hot restart, the next append, Serve. -/
def State.afterAppend (s : State) : State :=
  let s := s.settleRetirement.settleHotRestart
  let s := if s.modes.hotRestart.isSome then s else s.pumpLedger (s.ledger.queue.length + 1)
  s.settleRetirement.settleGate

/-- HOT_RESTART (R112). -/
def hotRestartAction : Action where
  arg := argOf 1 (fun b => b == [0] || b == [1] || b == [0xFF])
  guard := fun _ _ s => if s.modes.mode == .serve || s.modes.mode == .maintain then 0 else modeRefused
  act := fun _ b s =>
    if s.ledger.append.isSome then (s.onModes (fun m => { m with hotRestartWaiting := some (beNat b) }), .busy)
    else (s.beginHotRestart (beNat b), .busy)

/-- HOT_RESTART (R112). -/
def execHotRestart (f : Frame) (s : State) : Host.Outcome State Fault Refusal := .next (s.runCmd hotRestartKey f hotRestartAction)

/-- The image that a hot restart selects, when it is acceptable. -/
def State.restartImage (image : Nat) (s : State) : Option Bool × State :=
  if image = 0xFF then
    let t := s.stepTrial
    (t.2.acceptedImage t.1, t.2)
  else if s.areaAccepted (image == 1) then (some (image == 1), s) else (none, s)

/-- R112, R113: the runtime resumes under an image; the command ends with a code, and the restart of another image than the
one before is recorded. -/
def State.resumeWith (areaB : Bool) (code : Nat) (s : State) : State :=
  let before := s.imageEntry 0x82
  let changed := s.modes.running != some areaB
  let s := ((s.takeImage areaB).deriveLayers).runtimeKeys
  let s := s.onPairs (fun v => v.map (Pair.bringUp s.entryParcel))
  let s := (s.onDict (fun d => { d with restarting := false })).onModes (fun m =>
    { m with hotRestart := none, lastReset := .hotRestart })
  let s := (s.bumpBy (okey 0x1200 0x12) 24 1).onHub (fun h =>
    { h with slots := h.slots.map (fun e => (e.1, { e.2 with keyWait := if e.2.st.placeable then some s.now else e.2.keyWait })) })
  let s := s.endCmd hotRestartKey (if code = 0 then cmdDone else cmdFailed) code
  let s := if changed then s.askAppend .restart 0 none (s.imageEntry 2 ++ s.policyEntry ++ before) else s
  let s := if s.att.phase = 1 ∨ s.att.phase = 2 then s.startSlots.checkGateEnd.checkServeEnd else s
  let s := if s.modes.mode = .serve then s.confirmTrial else s
  s.refreshImages.afterAppend

/-- R114: a selected image that fails gives way to the one before; when that fails too, or the UDS cannot be read (DESIGN
CHOICE, notes/assumptions/76.md), a device reset follows. -/
def State.endHotRestart (env : StartEnv) (s : State) : State :=
  match s.modes.hotRestart with
  | none => s
  | some i =>
    let r := s.restartImage i
    if !(env.udsCopies.1 || env.udsCopies.2) then r.2.deviceReset env
    else match r.1 with
    | some b => r.2.resumeWith b 0
    | none =>
      match r.2.modes.running with
      | some b => if r.2.areaAccepted b then r.2.resumeWith b imageInvalid else r.2.deviceReset env
      | none => r.2.deviceReset env

/-- HOT_RESTART_COMPLETE (R114). -/
def execHotRestartComplete (env : StartEnv) (s : State) : Host.Outcome State Fault Refusal :=
  .next (s.whenLive (State.endHotRestart env))

/-- PRIMARY_RECORD_APPEND (R20, R231): every channel complete, Gate-phase attestation ended, no rollover due, and the record
of this Gate not yet asked for: the record is appended, with the failed signature checks given. -/
def State.primaryAppend (failed : Nat) (s : State) : State :=
  if s.modes.mode != .gate || s.modes.startPending.isSome || !s.allComplete || !s.att.gateEnded ||
      s.ledger.rolloverDue.isSome || s.ledger.append.isSome || !s.ledger.queue.isEmpty || s.ledger.primaryAsked then s
  else
    let s := (s.onLedger (fun l => { l with primaryAsked := true })).askAppend .primary 0 none []
    ((s.signaturesVerified failed).ledgerCommit true).afterAppend

/-- PRIMARY_RECORD_APPEND (R20). -/
def execPrimaryRecordAppend (failedChecks : Nat) (s : State) : Host.Outcome State Fault Refusal :=
  .next (s.whenLive (State.primaryAppend failedChecks))

/-! ## Mode requests (R83, R85, R383) -/

/-- R83: a transition that a request may make: whether an Operator may ask for it, and whether it needs a glove pair. -/
def requestRow (a b : Mode) : Option (Bool × Bool) :=
  match a, b with
  | .serve, .maintain | .maintain, .serve => some (true, false)
  | .serve, .ceremony | .ceremony, .serve => some (false, false)
  | .serve, .forensic | .maintain, .forensic | .ceremony, .forensic => some (false, false)
  | .locked, .forensic => some (false, true)
  | _, _ => none

/-- R83: what a request ends with before any change: 0, or a code. -/
def requestCode (a : Asker) (row : Option (Bool × Bool)) : Nat :=
  match row with
  | none => transitionRefused
  | some (operator, glove) =>
    if !(a.role == .officer || (operator && a.role == .operator)) then accessDenied
    else if glove && !a.glovePair then presenceRequired else 0

/-- The object of the mode request. -/
def modeRequestKey : Nat := okey 0x1200 3

/-- MODE_REQUEST (R83). -/
def modeRequestAction : Action where
  arg := argOf 1 (fun _ => true)
  guard := fun _ b s =>
    if s.modes.mode == .serve && (b == [5] || b == [6]) && s.restrained then restrainedCode else 0
  act := fun a b s =>
    match Mode.ofCode (beNat b) with
    | none => (s, .failed transitionRefused)
    | some t =>
      let c := requestCode a (requestRow s.modes.mode t)
      if c != 0 then (s, .failed c)
      else match t with
      | .serve =>
        if s.operationBusy then (s.onModes (fun m => { m with limitExpired := true }), .busy) else (s.backToServe, .done)
      | .forensic => (s.enterForensic (some modeRequestKey), .done)
      | _ => (s.onModes (fun m => { m with mode := t, limitExpired := false }), .done)

/-- MODE_REQUEST (R83). -/
def execModeRequest (f : Frame) (s : State) : Host.Outcome State Fault Refusal := .next (s.runCmd modeRequestKey f modeRequestAction)

/-- MAINTAIN_LIMIT_EXPIRY (R87). -/
def execMaintainLimitExpiry (s : State) : Host.Outcome State Fault Refusal :=
  .next (s.whenLive (fun s => if s.modes.mode = .maintain then s.leaveForServe else s))

/-- CEREMONY_LIMIT_EXPIRY (R87). -/
def execCeremonyLimitExpiry (s : State) : Host.Outcome State Fault Refusal :=
  .next (s.whenLive (fun s => if s.modes.mode = .ceremony then s.leaveForServe else s))

/-! ## Lifecycle and provisioning (R83, R88, R89, R353) -/

/-- Objects that manufacture or the vendor writes, which the first entry to Provision leaves as they are (DEDUCED,
notes/assumptions/72.md). -/
def manufactureObjects : List Nat := [okey 0x5000 8, okey 0x5100 3, okey 0x5100 5, okey 0x8000 2, okey 0x1000 8]

/-- R44, R88: the first entry to Provision: every other Pers object takes its default, the assessed entropy in use its
assessed value. -/
def State.firstProvision (s : State) : State :=
  let assessed := s.stored (okey 0x5100 3)
  (s.onDict (fun d => { d with objs := d.objs.filter (fun e =>
    manufactureObjects.contains e.1 || !(match descOf e.1 with | some x => x.pers | none => false)) })).put (okey 0x5100 4) assessed

/-- LIFECYCLE_ADVANCE (R83): the next value only, then a device reset. -/
def lifecycleAction (env : StartEnv) : Action where
  arg := argOf 1 (fun b => b == [1] || b == [2])
  guard := noGuard
  act := fun _ b s =>
    if beNat b != s.lifecycle + 1 then (s, .failed lifecycleRefused)
    else
      let s := if b = [2] then s.firstProvision else s
      (s.lifecycleNext.deviceReset env, .busy)

/-- LIFECYCLE_ADVANCE (R83). -/
def execLifecycleAdvance (f : Frame) (env : StartEnv) (s : State) : Host.Outcome State Fault Refusal :=
  .next (s.runCmd (okey 0x1200 4) f (lifecycleAction env))

/-- R89: the commit's conditions. -/
def State.provisionReady (s : State) : Bool :=
  (s.objOctets (okey 0x1100 0x28)).any (· != 0) && 2 ≤ s.rosterInForce.length &&
    s.stagedConfig.any (fun e => e.1.enabled && e.2.any RegionDef.valid)

/-- R353: the identity key, its blob in both copies, and its certificate by the manufacture key. -/
def State.newIdentity (s : State) : State :=
  let d := State.drawOctets 18 s
  let scalar := ecScalar p384 (d.1.take 64)
  let seed := (d.1.drop 64).take 32
  let nonce := (d.1.drop 96).take 12
  let a := { layerAttrs 0x30 6 80 0x7C (List.replicate 48 0) with minLevel := 2 }
  let head := blobHeader 2 0 (List.replicate 6 0) a
  let s := (d.2.ownKey 2 (identityHalf s a 2) scalar).ownKey 3 (identityHalf s a 3) seed
  let s := match s.keys.iwk with
    | some k =>
      let c := gcmSeal k nonce head (scalar ++ seed)
      s.onKeys (fun u => { u with identityBlob := Vector.replicate 2 (head ++ nonce ++ c.1 ++ c.2) })
    | none => s
  let dmk := ((s.keySlot 4).map KeySlot.material).getD []
  { s.put (okey 0x5000 7) (.octets (Config.certificate 7 (publicP384 scalar) (publicMlDsa 87 seed) dmk s.free)) with
    free := s.free + 1 }

/-- R34, R38: counters that clear at provisioning. -/
def State.clearProvisioned (s : State) : State :=
  (s.forAll [okey 0x7100 0x40, okey 0x7100 0x41, okey 0x7100 0x42, okey 0x7100 0x43, okey 0x7100 0x44, okey 0x1200 0x30,
      okey 0x1200 0x31, okey 0x1200 0x32, okey 0x1200 0x33, okey 0x1200 0x34] (fun k => State.put k (defaultOf k))).onInteg
    (fun i => { i with saved := [], countedTo := s.now })

/-- R89: the commit: identity, vigil root, option area, ledger sequence, lifecycle, device reset. -/
def State.commitProvision (env : StartEnv) (s : State) : State × CmdEnd :=
  let s := s.newIdentity.newVigilRoot
  let r := s.tryRewrite s.stagedOptions
  if !r.2 then (r.1, .failed optionWriteFailed)
  else
    let s := ((r.1.counterSetTo 0 0).1.onLedger (fun l => { l with mirror := some 0 })).clearProvisioned
    (s.lifecycleNext.deviceReset env, .busy)

/-- COMMIT_PROVISIONING (R89). -/
def commitAction (env : StartEnv) : Action where
  arg := anyArg
  guard := noGuard
  act := fun _ _ s => if s.provisionReady then s.commitProvision env else (s, .failed provisionIncomplete)

/-- COMMIT_PROVISIONING (R89). -/
def execCommitProvisioning (f : Frame) (env : StartEnv) (s : State) : Host.Outcome State Fault Refusal :=
  .next (s.runCmd (okey 0x1200 5) f (commitAction env))

/-! ## Device reset (R111, R403, R610) -/

/-- DEVICE_RESET: a write to 0x1200:06. -/
def resetAction (env : StartEnv) : Action where
  arg := anyArg
  guard := noGuard
  act := fun _ _ s => (s.deviceReset env, .busy)

/-- DEVICE_RESET (R610): the write, or without a frame the reset that an accepted unlock awaits (R403). -/
def execDeviceReset (f : Option Frame) (env : StartEnv) (s : State) : Host.Outcome State Fault Refusal :=
  .next (match f with
    | some f => s.runCmd (okey 0x1200 6) f (resetAction env)
    | none => s.whenLive (fun s => if s.tamper.unlockAccepted then s.flushBeforeReset.deviceReset env else s))

/-! ## Board boot (R109, R110, R226) -/

/-- R109, R110: the board boot itself: the Gate phase begins again. A mode request that still waits for an operation (R87) ends
Failed, since R83 has no transition from Gate that it could ask for (DEDUCED, notes/assumptions/17.md). -/
def State.startBoardBoot (s : State) : State :=
  let s := s.reckon.endOutages
  let s := if s.modes.mode == .ceremony then
      (match s.ledger.append with
      | some a => if a.request.cmd = some (okey 0x3100 0x21) then s.dropAppend else s
      | none => s).onLedger (fun l => { l with queue := l.queue.filter (fun r => r.cmd != some (okey 0x3100 0x21)) })
    else s
  let s := if s.modes.mode == .ceremony && s.operationBusy then
      (s.abortPresentation).forAll (limitOperations .ceremony) (fun k => State.abortCmd k actionAborted)
    else s
  let s := ((s.unrecordedSlots.abortSlots).abortSweep.abandonRounds).saveStatistics.closingSupplement
  let s := (s.assertHolds.stopServing).onLedger (fun l => { l with startCause := 0x10 })
  let s := s.failCmd modeRequestKey transitionRefused
  (s.onModes (fun m => { m with startPending := some .gate, limitExpired := false })).tryGate

/-- BOARD_BOOT: a write to 0x1200:08, which takes effect at the close of its tick (R64). -/
def boardBootAction (f : Frame) : Action where
  arg := anyArg
  guard := noGuard
  act := fun _ _ s =>
    if s.modes.mode == .gate then (s.bumpBy (okey 0x1200 0x17) 24 1, .done)
    else if s.modes.mode.serving then (s.onDict (fun d => { d with boardBoot := some (some f) }), .busy)
    else (s, .failed transitionRefused)

/-- BOARD_BOOT (R109). -/
def execBoardBoot (f : Frame) (s : State) : Host.Outcome State Fault Refusal :=
  .next (s.runCmd (okey 0x1200 8) f (boardBootAction f))

/-- R109: at the close of the tick, after its other writes. -/
def State.closeBoardBoot (s : State) : State :=
  match s.dict.boardBoot with
  | none => s
  | some _ =>
    let s := s.onDict (fun d => { d with boardBoot := none })
    if s.modes.mode.serving then s.startBoardBoot else s.failCmd (okey 0x1200 8) transitionRefused

/-- PE_PERST_N_ASSERT (R111): an endpoint reset by PE_PERST_N or by a function-level reset. -/
def execPePerstNAssert (flr : Bool) (s : State) : Host.Outcome State Fault Refusal :=
  .next (s.whenLive (fun s =>
    (if flr then s else s.onDict (fun d => { d with perst := true })).pcieReset))

/-- PERST_BOARD_BOOT (R109): held low for 100 µs, with option word 51 bit 0 set, in Serve, Maintain or Ceremony. -/
def execPerstBoardBoot (s : State) : Host.Outcome State Fault Refusal :=
  .next (s.whenLive (fun s =>
    if s.dict.perst && (s.opt 51).getLsbD 0 && s.modes.mode.serving && s.dict.boardBoot.isNone then
      s.onDict (fun d => { d with boardBoot := some none })
    else s))

/-! ## Retirement (R86) -/

/-- RETIRE (R86): from Locked by the retire-pending flag and a device reset, else at once. -/
def retireAction (env : StartEnv) : Action where
  arg := anyArg
  guard := noGuard
  act := fun a _ s =>
    if !a.glovePair then (s, .failed presenceRequired)
    else if s.modes.mode == .locked then (((s.setFlag flagRetire true).doneCmd retireKey).deviceReset env, .busy)
    else ((s.enterRetired (some retireKey)).beginRetirement, .busy)

/-- RETIRE (R86). -/
def execRetire (f : Frame) (env : StartEnv) (s : State) : Host.Outcome State Fault Refusal :=
  .next (s.runCmd retireKey f (retireAction env))

/-! ## Installation (R104 to R107) -/

/-- R105: the area that a target names: true for B; 0xFE the one that is not running, A when none runs. -/
def State.targetArea (s : State) (target : Nat) : Bool :=
  if target = 0xFE then s.modes.running == some false else target == 1

/-- R105: refusals that both installations share, for their content. -/
def State.installCode (s : State) (target : Nat) (content : List Byte) : Nat :=
  if s.modes.running == some (s.targetArea target) then imageRunning
  else if content.isEmpty || imageLimit < content.length then valueRange
  else if !imageAcceptable s.minimumVersion content then imageInvalid
  else if s.busy (okey 0x7000 4) || s.busy (okey 0x7000 5) || s.busy hotRestartKey then busyCode
  else 0

/-- R104 step 6: the option area after an installation: on trial in Maintain, without trial in Recover where a copy is valid;
left as it is in Blank (DESIGN CHOICE, notes/assumptions/77.md). -/
def State.installOptions (areaB : Bool) (s : State) : State × Bool :=
  let w := s.modes.options.words
  let left := s.objNum (okey 0x7000 6)
  if s.modes.mode == .blank || s.modes.options.copy.isNone then (s, true)
  else s.tryRewrite (w.set 49 (bootOrder areaB (s.modes.mode == .maintain) left))

/-- R104: an installation; in Recover a device reset ends it (R101). -/
def State.install (env : StartEnv) (target : Nat) (content : List Byte) (s : State) : State × CmdEnd :=
  let area := s.targetArea target
  let s := (s.programImage area content).refreshImages
  if !s.areaAccepted area then (s, .failed imageInvalid)
  else
    let r := s.installOptions area
    let s := r.1.refreshImages
    if !r.2 then (s, .failed optionWriteFailed)
    else if s.modes.mode == .recover then ((s.doneCmd (okey 0x7000 4)).deviceReset env, .busy)
    else (s, .done)

/-- The targets of R105. -/
def targetOk (n : Nat) : Bool := n == 0 || n == 1 || n == 0xFE

/-- INSTALL_IMAGE (R104). -/
def installAction (env : StartEnv) : Action where
  arg := argOf 1 (fun b => targetOk (beNat b))
  guard := fun _ b s => s.installCode (beNat b) (s.objOctets (okey 0x7000 3))
  act := fun _ b s => s.install env (beNat b) (s.objOctets (okey 0x7000 3))

/-- INSTALL_IMAGE (R104). -/
def execInstallImage (f : Frame) (env : StartEnv) (s : State) : Host.Outcome State Fault Refusal :=
  .next (s.runCmd (okey 0x7000 4) f (installAction env))

/-- The firmware image that a card's directory names. -/
def Card.firmware (c : Card) (number : Nat) : Option CardImage :=
  c.label.bind (fun l => l.2.images.find? (fun i => i.kind != 0 && i.number == number))

/-- R105: refusals of an installation from a card. -/
def State.cardInstallCode (s : State) (b content : List Byte) : Nat :=
  let target := beNat (b.drop 2)
  if s.modes.running == some (s.targetArea target) then imageRunning
  else if !s.cardsOn then cardAbsent
  else match s.card (cardOf b) with
  | none => cardAbsent
  | some c =>
    match c.label with
    | none => cardNotPrepared
    | some (_, l) =>
      if l.role != 2 then cardNotPrepared
      else if s.inDoubt c then journalInDoubt
      else match c.firmware (beNat ((b.drop 1).take 1)) with
      | none => valueRange
      | some i =>
        if i.kind != 2 then valueRange
        else if i.length != content.length || i.digest != sha384 content then imageInvalid
        else s.installCode target content

/-- INSTALL_FROM_CARD (R104); `content` is what the card delivers. -/
def cardInstallAction (content : List Byte) (env : StartEnv) : Action where
  arg := argOf 3 (fun b => beNat (b.take 1) < 4 && targetOk (beNat (b.drop 2)))
  guard := fun _ b s => s.cardInstallCode b content
  act := fun _ b s => s.install env (beNat (b.drop 2)) content

/-- INSTALL_FROM_CARD (R104). -/
def execInstallFromCard (f : Frame) (content : List Byte) (env : StartEnv) (s : State) : Host.Outcome State Fault Refusal :=
  .next (s.runCmd (okey 0x7000 5) f (cardInstallAction content env))

/-! ## Release from a freeze (R587, R588) -/

/-- READOUT_RELEASE (R587): with the release address a device reset follows; with another address nothing is released. -/
def execReadoutRelease (addr : Nat) (env : StartEnv) (s : State) : Host.Outcome State Fault Refusal :=
  .next (s.whenReadout (fun s =>
    if s.power.frozen.isNone then s.send (.readout (readoutAnswer 1 []))
    else if addr != 0x525354 then s.send (.readout (readoutAnswer 2 []))
    else (s.send (.readout (readoutAnswer 0 []))).deviceReset env))

end Sys2Proof.Machine
end

