-- ==== Sys2Proof/Machine/LedgerCommands.lean ====
section
/-! DEFINITION. The commands of the boot ledger: supplements, the steps of an append, rollover, export, rings
(spec/07_boot_ledger.md R226, R231, R234, R241, R246, R248, R252 to R257, R262). -/

namespace Sys2Proof.Machine

/-! ## Supplements (R226) -/

/-- R226: supplements are assembled while the host ports may serve, outside a hot restart. -/
def State.supplements (s : State) : Bool := s.modes.mode.serving && !s.dict.restarting && s.modes.startPending.isNone

/-- R226: a supplement that no command asked for, unless one is already on its way. -/
def State.timedSupplement (s : State) : State :=
  if !s.supplements || s.ledger.queue.any (fun r => r.kind == .supplement && r.items.isEmpty) then s
  else (s.askAppend .supplement 0 none []).afterAppend

/-- SUPPLEMENT_PENDING_TIMEOUT (R226): 1 s after the first item became pending. -/
def execSupplementPendingTimeout (s : State) : Host.Outcome State Fault Refusal :=
  .next (s.whenLive (fun s =>
    match s.ledger.pendingSince with
    | some t => if t + second ≤ s.now then s.timedSupplement else s
    | none => s))

/-- SUPPLEMENT_PERIOD_EXPIRY (R226): the period of 0x3100:0A since the last record; 0 disables it. -/
def execSupplementPeriodExpiry (s : State) : Host.Outcome State Fault Refusal :=
  .next (s.whenLive (fun s =>
    let p := s.objNum (okey 0x3100 0x0A)
    if p = 0 ∨ s.now < s.ledger.appendedAt + p * second then s else s.timedSupplement))

/-- The objects of a supplement request and a rollover. -/
def supplementKey : Nat := okey 0x3100 0x20
def rolloverKey : Nat := okey 0x3100 0x21

/-- SUPPLEMENT_REQUEST (R226). -/
def supplementAction : Action where
  arg := anyArg
  guard := servingOnly
  act := fun _ _ s => (((s.askAppend .supplement 0 (some supplementKey) [])).afterAppend, .busy)

/-- SUPPLEMENT_REQUEST (R226). -/
def execSupplementRequest (f : Frame) (s : State) : Host.Outcome State Fault Refusal :=
  .next (s.runCmd supplementKey f supplementAction)

/-! ## Rollover (R250, R252, R383) -/

/-- LEDGER_KEY_ROLLOVER (R252): reason 0x03, in Ceremony; refused while restrained (R383). -/
def rolloverAction : Action where
  arg := anyArg
  guard := fun a b s => if ceremonyOnly a b s != 0 then modeRefused else if s.restrained then restrainedCode else 0
  act := fun _ _ s => ((s.askAppend .rollover 3 (some rolloverKey) []).afterAppend, .busy)

/-- LEDGER_KEY_ROLLOVER (R252). -/
def execLedgerKeyRollover (f : Frame) (s : State) : Host.Outcome State Fault Refusal := .next (s.runCmd rolloverKey f rolloverAction)

/-! ## The steps of an append -/

/-- LEDGER_SIGNATURES_VERIFIED (R231). -/
def execLedgerSignaturesVerified (failedChecks : Nat) (s : State) : Host.Outcome State Fault Refusal :=
  .next (s.whenLive (fun s => (s.signaturesVerified failedChecks).afterAppend))

/-- LEDGER_ROOM_AVAILABLE (R248). -/
def execLedgerRoomAvailable (s : State) : Host.Outcome State Fault Refusal :=
  .next (s.whenLive (fun s => s.roomAvailable.afterAppend))

/-- LEDGER_COMMIT (R241). -/
def execLedgerCommit (ok : Bool) (s : State) : Host.Outcome State Fault Refusal :=
  .next (s.whenLive (fun s => (s.ledgerCommit ok).afterAppend))

/-- LEDGER_PRE_ERASE (R246). -/
def execLedgerPreErase (s : State) : Host.Outcome State Fault Refusal := .next (s.whenLive State.preEraseLedger)

/-- R262: an abort of a supplement request or a rollover: its append ends, wherever it stands. -/
def State.abortAppend (key : Nat) (s : State) : State :=
  let mine := match s.ledger.append with | some a => a.request.cmd == some key | none => false
  let s := if mine then s.dropAppend else s
  let s := s.onLedger (fun l => { l with queue := l.queue.filter (fun r => r.cmd != some key) })
  (s.abortCmd key actionAborted).afterAppend

/-! ## Export (R253 to R257) -/

/-- ACKNOWLEDGE_EXPORT (R253, R254): of the window, when it is an archival path. -/
def acknowledgeAction : Action where
  arg := argOf 6 (fun _ => true)
  guard := noGuard
  act := fun _ b s =>
    if s.ledger.last < beNat b then (s, .failed ackRange)
    else (if (s.objNum (okey 0x3100 0x0B)).testBit 0 then s.acknowledge (beNat b) else s, .done)

/-- ACKNOWLEDGE_EXPORT (R253). -/
def execAcknowledgeExport (f : Frame) (s : State) : Host.Outcome State Fault Refusal :=
  .next (s.runCmd (okey 0x3100 0x13) f acknowledgeAction)

/-- RING_CTRL_WRITE (R255). -/
def execRingCtrlWrite (r : Fin 2) (reg : RingReg) (value : BitVec 32) (s : State) : Host.Outcome State Fault Refusal :=
  .next (s.whenLive (fun s => s.onRing r (ExportRing.write reg value)))

/-- RING_CONS_WRITE (R257). -/
def execRingConsWrite (r : Fin 2) (value : BitVec 32) (s : State) : Host.Outcome State Fault Refusal :=
  .next (s.whenLive (State.ringCons r value))

/-- RING_FRAME_WRITE (R256). -/
def execRingFrameWrite (s : State) : Host.Outcome State Fault Refusal := .next (s.whenLive State.ringFrame)

/-- EVENT_RING_ENTRY_WRITE (R413). -/
def execEventRingEntryWrite (s : State) : Host.Outcome State Fault Refusal := .next (s.whenLive State.eventRingEntry)

end Sys2Proof.Machine
end

