-- ==== Sys2Proof/Machine/Live.lean ====
section
/-! DEFINITION. Objects whose value the N4812 forms from its state, the values that reads return and the snapshot of a tick (R41,
R42, R61, R65, R118, R167, R192, R223, R263, R289, R316, R345, R378, R416, R490, R513, R542, R560, R571, R609). -/

namespace Sys2Proof.Machine

/-! ## Values formed from the state -/

/-- R115: code of a switchable function's state. -/
def FnState.code : FnState → Nat
  | .off => 0 | .starting => 1 | .on => 2 | .draining => 3

/-- A number of a fixed count of octets; it saturates at the width. -/
def wire (octets n : Nat) : List Byte := beOctets octets (min n (2 ^ (8 * octets) - 1))

/-- A two's complement number on the wire. -/
def wireInt (octets : Nat) (i : Int) : List Byte := beOctets octets (i % (2 ^ (8 * octets) : Nat)).toNat

/-- Objects of 0x1100 and 0x1200 (R75, R118). A running image code where no image runs is an open value. -/
def State.live11 (s : State) : Nat → Option (List Byte)
  | 0x110001 => some (beOctets 6 s.dict.tick)
  | 0x110002 => some directoryOctets
  | 0x110022 => some (beOctets 1 s.dict.sessions.length)
  | 0x120001 => some (beOctets 1 s.modes.mode.code)
  | 0x120002 => some (beOctets 1 s.lifecycle)
  | 0x120010 => some (beOctets 1 s.modes.lastReset.code)
  | 0x120013 => some (match s.modes.running with
    | some b => [if b then 1 else 0]
    | none => [(Config.freeWord s.free).setWidth 8])
  | 0x120014 => some s.modes.imageDigest
  | 0x120015 => some s.modes.policyDigest
  | 0x120016 =>
    let o := s.modes.options
    some (beOctets 1 ((if o.validA then 1 else 0) + (if o.validB then 2 else 0) + (if o.copy = some true then 4 else 0)))
  | 0x120018 => some (wordBe (s.opt 1))
  | 0x120019 => some (beOctets 3 s.minimumVersion)
  | 0x130002 => some s.islandLevels
  | _ => none

/-- R167: the verdict digests, 64 octets each; empty while no region is in force. -/
def State.verdictDigests (s : State) (n : Fin 12) : List Byte :=
  if s.chans[n].regions.isEmpty then []
  else (List.range 64).flatMap (fun r => padTo 64 0 (s.region n r).digest)

/-- Objects of channel n by group and subindex (R167). -/
def State.liveChan (s : State) (n : Fin 12) (g sub : Nat) : Option (List Byte) :=
  let c := s.chans[n]
  let d := s.chanDesc n
  match g, sub with
  | 2, 1 => some (beOctets 1 c.phase)
  | 2, 4 => some (beOctets 1 c.port.st.code)
  | 2, 6 => some (beOctets 1 (c.emu[(0 : Fin 2)].protocol + 8 * c.emu[(1 : Fin 2)].protocol))
  | 2, 7 => some (beOctets 1 d.dOct ++ beOctets 1 d.dQuad)
  | 2, 9 => some (wire 3 d.f111)
  | 2, 0x0A => some (wire 3 (s.reservedWords n))
  | 3, 1 => some ((List.range 64).map (fun r => octet (s.region n r).verdict))
  | 3, 2 => some (s.verdictDigests n)
  | 6, 1 => some (s.presentedSfdp n 0)
  | 6, 2 => some (s.presentedSfdp n 1)
  | _, _ => none

/-- Objects of 0x2C00, 0x3000 and 0x3100 (R192, R223, R263). -/
def State.live30 (s : State) : Nat → Option (List Byte)
  | 0x2C000A => some (wire 3 s.cons.allocated)
  | 0x300010 => some ((List.range 64).map (fun k => octet (s.responder k).outcome))
  | 0x300011 => some (beOctets 1 s.att.phase)
  | 0x300015 => some (beOctets 1 s.att.ownEid)
  | 0x310001 => some (beOctets 6 s.ledger.last)
  | 0x310003 => some (beOctets 6 s.ledger.tail)
  | 0x310006 => some (padTo 2689 0 s.ledger.publicKeys)
  | 0x310009 => some (wire 6 s.unexportedOctets)
  | 0x31000E => some (beOctets 1 s.ledgerState)
  | 0x31000F => some s.ledger.lastHash
  | _ => none

/-- R352, R378: the manufacture public keys in FACTORY and UNOWNED; zero octets in the other lifecycles (DESIGN CHOICE,
notes/assumptions/80.md). -/
def State.manufacturePublic (s : State) : List Byte :=
  match s.lifecycle == 1 || s.lifecycle == 2, s.keySlot 4, s.keySlot 5 with
  | true, some a, some b => padTo 2689 0 (publicP384 a.material ++ publicMlDsa 87 b.material)
  | _, _, _ => List.replicate 2689 0

/-- R378: the map of loaded key slots: bit k of octet floor(k ÷ 8). -/
def State.slotMap (s : State) : List Byte :=
  (List.range 32).map (fun o => octet ((List.range 8).foldl (fun a i =>
    if (kget s.keys.slots (8 * o + i)).isSome then a + 2 ^ i else a) 0))

/-- Objects of the engines and keys (R289, R316, R345, R378). -/
def State.live40 (s : State) : Nat → Option (List Byte)
  | 0x400001 => some (wire 3 s.slotsInUse)
  | 0x400002 => some (wire 3 s.hub.highWater)
  | 0x400008 => some (wordsBe s.readyJobs)
  | 0x400009 => some (beOctets 6 s.instancesInService)
  | 0x410007 => some (s.eng.hashing.toList.map octet)
  | 0x420001 => some ((List.range 16).map (fun k => octet (s.curveStatus k)))
  | 0x420018 => some ((List.range 16).flatMap (fun k => padTo 48 0 (s.curveDigest k)))
  | 0x500001 => some (beOctets 2 s.keys.slots.length)
  | 0x500002 => some s.slotMap
  | 0x500005 => some [if s.keys.vigilRoot.isSome then 1 else 0]
  | 0x500006 => some s.manufacturePublic
  | 0x510001 => some (beOctets 1 s.ent.st)
  | 0x510002 => some (beOctets 1 s.cellsMask)
  | 0x51000B => some (beOctets 2 s.ent.queue.length)
  | _ => none

/-- R404: seconds that remain of the cell-change window. -/
def State.windowRemaining (s : State) : Nat :=
  match s.vigil.windowSince with
  | some t => (t + 600 * second - s.now + second - 1) / second
  | none => 0

/-- R513: the remapped sectors as bank, sector, spare. -/
def State.remapList (s : State) : List Byte :=
  padTo 128 0 ([0, 1].flatMap (fun b => (s.bank b).remaps.flatMap (fun e => beOctets 1 b ++ beOctets 2 e.1 ++ beOctets 1 e.2)))

/-- Objects of the tamper watch, the gates and the flash (R416, R490, R513). -/
def State.live60 (s : State) : Nat → Option (List Byte)
  | 0x60000C => some s.sourceStates
  | 0x610005 => some (beOctets 3 s.vigil.sticky.toNat)
  | 0x610041 => some (beOctets 3 s.windowRemaining)
  | 0x620001 => some (beOctets 6 s.tamper.head)
  | 0x620002 => some (beOctets 6 s.tamper.tail)
  | 0x720002 => some (s.gaunt.epochs.toList.map (fun e => e))
  | 0x720003 => some s.rulesOctets
  | 0x730001 => some (beOctets 1 ((s.bank 0).activity + 16 * (s.bank 1).activity))
  | 0x730002 => some (beOctets 3 ((s.bank 0).eraseOpen.length + (s.bank 1).eraseOpen.length))
  | 0x730004 => some s.remapList
  | 0x730005 => some (beOctets 1 s.freeSpares.length)
  | 0x73000B => some [if s.flash.locked then 1 else 0]
  | 0x73000D => some ((List.range 8).flatMap (fun k => beOctets 6 (s.counter k)))
  | _ => none

/-- Objects of the tag, the cards and the vigil domain (R542, R560, R571). -/
def State.live80 (s : State) : Nat → Option (List Byte)
  | 0x800005 => some (beOctets 1 s.tag.fn.st.code)
  | 0x800008 => some (wire 1 s.doffRemaining)
  | 0x800010 => some (beOctets 1 s.presentationState)
  | 0x800011 => some (beOctets 1 s.tag.purpose)
  | 0x820003 => some (beOctets 1 s.cards.fn.st.code)
  | 0x820004 => some s.cardTable
  | 0x820005 => some s.stagedImages
  | 0x820006 => some (beOctets 1 s.cards.unresolved.length)
  | 0x820008 => some (beOctets 1 s.cards.archive)
  | 0x900001 => some (beOctets 6 s.now)
  | 0x900003 => some (beOctets 1 s.timeQuality)
  | 0x900004 => some (wireInt 3 s.vigil.trim)
  | 0x900008 => some (wireInt 6 s.vigil.slew)
  | 0x90000B => some (beOctets 1 s.power.pll)
  | _ => none

/-- The channel and the group of a channel object's index. -/
def chanGroup (key : Nat) : Option (Fin 12 × Nat) :=
  let i := key / 256
  if h : (i - 0x2000) / 256 < 12 ∧ 0x2000 ≤ i then some (⟨(i - 0x2000) / 256, h.1⟩, i % 256) else none

/-- The present value, on the wire, of an object that is formed from the state and is the same for every reader. -/
def State.live1 (s : State) (key : Nat) : Option (List Byte) :=
  if okey 0x8100 0x20 ≤ key ∧ key ≤ okey 0x8100 0x3F then some ((s.recordData (Fin.ofNat 32 (key % 256 - 0x20))).getD [])
  else match chanGroup key with
  | some (n, g) => s.liveChan n g (key % 256)
  | none =>
    if key < 0x200000 then s.live11 key
    else if key < 0x400000 then s.live30 key
    else if key < 0x600000 then s.live40 key
    else if key < 0x800000 then s.live60 key
    else s.live80 key

/-- The keys of these objects. -/
def liveKeys : List Nat :=
  [0x110001, 0x110022, 0x120001, 0x120002, 0x120010, 0x120013, 0x120014, 0x120015, 0x120016, 0x120018, 0x120019, 0x130002] ++
  (List.range 12).flatMap (fun n => [0x201, 0x204, 0x206, 0x207, 0x209, 0x20A, 0x301, 0x302, 0x601, 0x602].map
    (fun g => 0x200000 + 0x10000 * n + g)) ++
  [0x2C000A, 0x300010, 0x300011, 0x300015, 0x310001, 0x310003, 0x310006, 0x310009, 0x31000E, 0x31000F] ++
  [0x400001, 0x400002, 0x400008, 0x400009, 0x410007, 0x420001, 0x420018, 0x500001, 0x500002, 0x500005, 0x500006, 0x510001,
    0x510002, 0x51000B] ++
  [0x60000C, 0x610005, 0x610041, 0x620001, 0x620002, 0x720002, 0x720003, 0x730001, 0x730002, 0x730004, 0x730005, 0x73000B,
    0x73000D] ++
  [0x800005, 0x800008, 0x800010, 0x800011, 0x820003, 0x820004, 0x820005, 0x820006, 0x820008, 0x900001, 0x900003, 0x900004,
    0x900008, 0x90000B] ++
  (List.range 32).map (fun r => 0x810020 + r)

/-- The present value of an object on the wire, the same for every reader. -/
def State.valueNow (s : State) (d : Desc) : List Byte := (s.live1 d.key).getD (encodeVal d.ty (s.stored d.key))

/-! ## The snapshot of a tick (R65) -/

/-- R65: the values as a tick begins. -/
def State.openTick (s : State) : State :=
  let values := liveKeys.filterMap (fun k => (s.live1 k).map (fun b => (k, Val.octets b)))
  s.onDict (fun d => { d with atTick := values ++ d.objs })

/-- R65: the value committed at the start of the tick. The first tick of a start has no snapshot: its reads return the present
value (DEDUCED, notes/assumptions/81.md). -/
def State.valueAtTick (s : State) (d : Desc) : List Byte :=
  if s.dict.atTick.isEmpty then s.valueNow d
  else match kget s.dict.atTick d.key with
  | some v => encodeVal d.ty v
  | none => if d.key = 0x110002 then directoryOctets else encodeVal d.ty d.dflt

/-! ## Values of a session or transport (R609) -/

/-- R609: the value that an object has for one holder, and R215, R254, R412 for the windows that its selectors and cursors open.
None: the object is the same for every reader. -/
def State.heldValue (s : State) (a : Asker) (key : Nat) : Option (Except Nat (List Byte)) :=
  let h := s.holder a
  match key with
  | 0x110040 => some (.ok h.subscription)
  | 0x110041 => some (.ok (beOctets 3 h.period))
  | 0x110042 => some (.ok (beOctets 1 h.destination))
  | 0x300012 => some (.ok (beOctets 1 h.attestSlot))
  | 0x300013 => some (.ok (s.responder h.attestSlot).transcript)
  | 0x310010 => some (.ok (beOctets 6 h.ledgerCursor))
  | 0x310011 => some (s.windowRecord h.ledgerCursor)
  | 0x620003 => some (.ok (beOctets 6 h.eventCursor))
  | 0x620004 => some (.ok (s.eventWindow h.eventCursor))
  | _ => none

/-- The value that a read of an object returns to an asker, or the code of its chapter. -/
def State.readValue (s : State) (a : Asker) (d : Desc) : Except Nat (List Byte) :=
  (s.heldValue a d.key).getD (.ok (s.valueAtTick d))

/-! ## READ (R49, R61, R62, R608) -/

/-- R61, R62: the object is read in segments: a DOMAIN, or a value of more than 1,024 octets. -/
def inSegments (d : Desc) : Bool :=
  match d.ty with
  | .domain _ => true
  | t => 1024 < t.size.getD 0

/-- Rows 4 to 7 of R608 for a read. -/
def State.readAdmitted (s : State) (a : Asker) (key : Nat) : Except Nat Desc :=
  match descOf key with
  | none => .error noSuchObject
  | some d =>
    if !readReach s.modes.mode d then .error modeRefused
    else if !d.readers.testBit a.role.bit then .error accessDenied
    else .ok d

/-- R254: the octet offset at which the window read stands. -/
def State.moveWindow (a : Asker) (key offset : Nat) (s : State) : State :=
  if key = okey 0x3100 0x11 then s.onHolder a (fun h => { h with ledgerOffset := offset }) else s

/-- The answer to an admitted read. A value that is empty for a reason of its chapter carries that code (R254). -/
def State.answerRead (f : Frame) (a : Asker) (d : Desc) (s : State) : State :=
  match s.readValue a d with
  | .error c => s.answer f c
  | .ok b =>
    if inSegments d then
      if b.length < f.offset.toNat then s.answer f offsetRange
      else
        let x := (b.drop f.offset.toNat).take (min f.length.toNat 1024)
        let e := f.offset.toNat + x.length
        (s.moveWindow a d.key e).answerAs kindResponse f codeOk x (e < b.length)
    else if f.offset != 0 then s.answer f offsetRange
    else if f.length.toNat < b.length then s.answer f typeMismatch
    else s.answer f codeOk b

/-- A READ frame that has been received. -/
def State.readRequest (f : Frame) (a : Asker) (s : State) : State :=
  match s.readAdmitted a f.key with
  | .error c => s.answer f c
  | .ok d => s.answerRead f a d

/-- A READ frame of one of a set of objects; another frame is none of this command, and nothing happens. -/
def State.runRead (mine : Nat → Bool) (f : Frame) (s : State) : State :=
  if f.kind != kindRead || !mine f.key then s
  else match s.receive f with
  | (s, .ended) => s
  | (s, .request a _) => s.readRequest f a

/-- Objects whose reads are rows of their own. -/
def ownRead (key : Nat) : Bool := key == okey 0x3100 0x11 || key == okey 0x6200 4

/-- READ (R61, R62, R65). -/
def execDexRead (f : Frame) (s : State) : Host.Outcome State Fault Refusal := .next (s.runRead (fun k => !ownRead k) f)

/-- WINDOW_RECORD_READ (R254): a read of 0x3100:11. -/
def execWindowRecordRead (f : Frame) (s : State) : Host.Outcome State Fault Refusal :=
  .next (s.runRead (fun k => k == okey 0x3100 0x11) f)

/-- EVENT_WINDOW_READ (R412): a read of 0x6200:04. -/
def execEventWindowRead (f : Frame) (s : State) : Host.Outcome State Fault Refusal :=
  .next (s.runRead (fun k => k == okey 0x6200 4) f)

end Sys2Proof.Machine
end

