-- ==== Sys2Proof/Machine/Dexrek.lean ====
section
/-! DEFINITION. Writes of the dictionary: values, the refusals and effects of the owning chapters, the tick, flash commits, aborts
(R45 to R48, R53, R61 to R65, R135, R200, R331, R376, R384, R531, R567, R568, R608, R609). -/

namespace Sys2Proof.Machine

/-! ## Values (row 12 of R608) -/

/-- The least and greatest value of a number that an object table states. -/
def numRange : Nat → Option (Nat × Nat)
  | 0x110011 => some (0x08, 0x77)
  | 0x110023 => some (10, 86400)
  | 0x110032 => some (1, 255)
  | 0x110033 => some (1024, 65535)
  | 0x110035 => some (16, 128)
  | 0x110041 => some (100, 60000)
  | 0x110042 => some (0, 2)
  | 0x120020 => some (600, 86400)
  | 0x120021 => some (300, 14400)
  | 0x130001 => some (1, 1000000)
  | 0x2C0001 => some (10, 600000)
  | 0x300004 => some (10, 3600)
  | 0x300012 => some (0, 63)
  | 0x310007 => some (0, 1)
  | 0x310008 => some (50, 95)
  | 0x400010 => some (10, 1000000)
  | 0x410003 => some (60, 86400)
  | 0x420003 => some (60, 86400)
  | 0x510009 => some (1024, 1048576)
  | 0x510013 => some (0, 3)
  | 0x600007 => some (1, 16)
  | 0x600008 => some (60, 86400)
  | 0x700006 => some (1, 15)
  | 0x730011 => some (1000, 20000)
  | 0x800007 => some (2, 120)
  | 0x900009 => some (600, 86400)
  | _ => none

/-- U16 number i of an octet string. -/
def u16 (b : List Byte) (i : Nat) : Nat := beNat ((b.drop (2 * i)).take 2)

/-- R369: assessed entropy per cell lies from 0x0400 to 0xE000 and, in use, not above the vendor's value. -/
def State.entropyOk (s : State) (key : Nat) (b : List Byte) : Bool :=
  (List.range 4).all (fun c =>
    0x0400 ≤ u16 b c && u16 b c ≤ 0xE000 &&
      (key != 0x510004 || u16 b c ≤ u16 (s.objOctets (okey 0x5100 3)) c))

/-- The values of the other objects that their tables state. -/
def State.otherRange (s : State) (a : Asker) (key : Nat) (b : List Byte) : Bool :=
  match key with
  | 0x110042 => !(a.session.isNone && beNat b == 1)
  | 0x120041 => (beWords 16 b).all entryOk
  | 0x130003 => floorsOk b
  | 0x31000A => beNat b == 0 || (60 ≤ beNat b && beNat b ≤ 86400)
  | 0x400011 => 4 * (u16 b 0 + u16 b 1 + u16 b 2) + 256 ≤ 4096
  | 0x510003 => s.entropyOk key b
  | 0x510004 => s.entropyOk key b
  | 0x610001 => b.all (fun x => x.toNat ≤ 4)
  | 0x710002 => beNat b == 0 || (10 ≤ beNat b && beNat b ≤ 60000)
  | 0x710003 => beNat b % 8 == 0
  | 0x710004 => (List.range 11).any (fun k => beNat b == 2 ^ (k + 2))
  | _ => true

/-- The encoding of R42 and the range of the object's table: 0, or VALUE_RANGE. -/
def State.valueCode (s : State) (a : Asker) (d : Desc) (b : List Byte) : Nat :=
  let encoded := match d.ty with
    | .bool => beNat b ≤ 1
    | .string => utf8Ok b
    | .domain m => b.length ≤ m
    | _ => true
  let count := match chanGroup d.key with | some (_, 0) => d.key % 256 != 2 || beNat b ≤ 64 | _ => true
  let inRange := match numRange d.key with | some (lo, hi) => lo ≤ beNat b && beNat b ≤ hi | none => true
  if encoded && count && inRange && s.otherRange a d.key b then 0 else valueRange

/-! ## Refusals of the owning chapters, which follow every check of R608 -/

/-- The octets, words and number of a value. -/
def Val.octetsOf : Val → List Byte
  | .octets b => b
  | .num n => beOctets 6 n
  | .words w => wordsBe w
  | .cmd _ _ => []

def Val.wordsOf : Val → List Word
  | .words w => w
  | _ => []

def Val.numOf : Val → Nat
  | .num n => n
  | _ => 0

/-- The dictionary as it stands once the flash commits in flight have ended. -/
def State.afterCommits (s : State) : State := s.forAll s.dict.commits (fun c => State.put c.key c.value)

/-- R129: the checks over the staged configuration as it stands after a write. -/
def State.configRefusal (s : State) (n : Fin 12) (sub : Nat) (v : Val) : Nat :=
  let s := s.afterCommits
  let d : ChanDesc :=
    if sub = 1 then { w0 := v.wordsOf.getD 0 0, w1 := v.wordsOf.getD 1 0 }
    else if sub = 2 then (s.stagedDesc n).withCount v.numOf else s.stagedDesc n
  let t := if sub = 3 then s.put (ckey 0 n 3) v else s
  s.stagedCode n d (t.stagedRegions n d.count)

/-- R135, R136: a write of a manifest slot. -/
def State.manifestRefusal (s : State) (a : Asker) (n : Fin 12) (slot : Nat) (b : List Byte) : Nat :=
  let s := s.afterCommits
  match parseManifest b with
  | none => manifestInvalid
  | some m =>
    let before := parseManifest (s.objOctets (ckey 1 n (1 + slot)))
    let other := match before with | some o => o.id != m.id | none => false
    let least := if other then 0 else s.slotMinimum n slot
    if !m.anchored (s.objOctets (ckey 0 n 4)) then manifestInvalid
    else if other && a.role != .officer then accessDenied
    else if m.version < least then manifestRollback
    else 0

/-- R384: a write of the responses, as it stands against those in force. The order of its refusals is a DESIGN CHOICE
(notes/assumptions/82.md). -/
def State.responseRefusal (s : State) (a : Asker) (b : List Byte) : Nat :=
  let now := s.afterCommits.objOctets (okey 0x6100 1)
  let least := s.objOctets (okey 0x6100 2)
  let lowers := (b.zip now).any (fun e => e.1.toNat < e.2.toNat)
  if (b.zip least).any (fun e => e.1.toNat < e.2.toNat) then responseBelowMinimum
  else if b = now then 0
  else if !s.modes.mode.serving then modeRefused
  else if !lowers then 0
  else if s.modes.mode != .ceremony then modeRefused
  else if a.glovePair then 0 else presenceRequired

/-- What its chapter refuses a write for, 0 for nothing; a refused curve keeps the number of its failed check. -/
def State.refusal (s : State) (a : Asker) (key : Nat) (v : Val) : State × Nat :=
  let b := v.octetsOf
  match chanGroup key with
  | some (n, 0) => (s, if key % 256 ≤ 3 then s.configRefusal n (key % 256) v else 0)
  | some (n, 1) => (s, s.manifestRefusal a n (key % 256 - 1) b)
  | _ =>
    if key = okey 0x3000 1 then (s, slotTableCode v.wordsOf)
    else if key = okey 0x6100 1 then (s, s.responseRefusal a b)
    else if okey 0x4200 0x10 ≤ key ∧ key ≤ okey 0x4200 0x17 then s.checkCurveWrite (key % 256 - 0x10 + 8) b
    else if okey 0x8100 0x22 ≤ key ∧ key ≤ okey 0x8100 0x3F then
      (s, if (s.tagAttr (Fin.ofNat 32 (key % 256 - 0x20))).testBit 2 then 0 else recordProtected)
    else (s, 0)

/-! ## What a committed value does -/

/-- R384: one record for each response that changed. -/
def State.responsesChanged (before b : List Byte) (s : State) : State :=
  let s := s.onVigil (fun v => { v with responses := b.map BitVec.toNat })
  s.forAll (List.range 32) (fun i s =>
    let x := (before.getD i 0).toNat
    let y := (b.getD i 0).toNat
    if x = y then s else s.event 0x07 (detailOf 1 ((0x10 + i) * 2 ^ 32 + x * 2 ^ 28 + y * 2 ^ 24)))

/-- R136: a manifest of another ID sets the slot's minimum version to 0. -/
def State.manifestCommitted (n : Fin 12) (slot : Nat) (before b : List Byte) (s : State) : State :=
  match parseManifest before, parseManifest b with
  | some o, some m => if o.id = m.id then s else s.putNum (ckey 1 n (0x11 + slot)) 0
  | _, _ => s

/-- The value as it is kept: attributes of records 0 and 1 are ignored on write (R530). -/
def keptValue (key : Nat) (v : Val) : Val :=
  if key = okey 0x8100 1 then .octets ([1, 1] ++ v.octetsOf.drop 2) else v

/-- The flash commit of a Pers object has ended: the value is committed, and has the effects that its chapter gives it. The
region count of R167 and the descriptor's field are one count (DEDUCED, notes/assumptions/83.md). -/
def State.committed (key : Nat) (v : Val) (s : State) : State :=
  let before := s.stored key
  let s := s.put key (keptValue key v)
  match chanGroup key with
  | some (n, 0) =>
    if key % 256 = 1 then s.putNum (ckey 0 n 2) (s.stagedDesc n).count
    else if key % 256 = 2 then
      let d := (s.stagedDesc n).withCount v.numOf
      s.put (ckey 0 n 1) (.words [d.w0, d.w1])
    else s
  | some (n, 1) => s.manifestCommitted n (key % 256 - 1) before.octetsOf v.octetsOf
  | _ =>
    if key = okey 0x3000 3 then s.clearChainCaches
    else if key = okey 0x6000 6 then s.writeRawThresholds
    else if key = okey 0x6100 1 then s.responsesChanged before.octetsOf v.octetsOf
    else if key = okey 0x1300 1 then s.raiseIslands
    else if key = okey 0x1300 4 then (if before = v then s else s.sendLtr)
    else if okey 0x4200 0x10 ≤ key ∧ key ≤ okey 0x4200 0x17 then s.curveCommitted (key % 256 - 0x10 + 8) v.octetsOf
    else s

/-- R609: the values of one holder, set by a write. -/
def Holder.write (key : Nat) (v : Val) (h : Holder) : Option Holder :=
  match key with
  | 0x110040 => some { h with subscription := v.octetsOf }
  | 0x110041 => some { h with period := v.numOf }
  | 0x110042 => some { h with destination := v.numOf }
  | 0x300012 => some { h with attestSlot := v.numOf }
  | 0x310010 => some { h with ledgerCursor := v.numOf, ledgerOffset := 0 }
  | 0x620003 => some { h with eventCursor := v.numOf }
  | _ => none

/-- The write names an object of R609. -/
def heldKey (key : Nat) : Bool := (Holder.write key (.num 0) Holder.initial).isSome

/-- A write of a Vol object that has won its tick. -/
def State.applied (a : Asker) (key : Nat) (v : Val) (s : State) : State :=
  if heldKey key then s.onHolder a (fun h => (h.write key v).getD h)
  else if okey 0x8100 0x22 ≤ key ∧ key ≤ okey 0x8100 0x3F then
    s.onTag (fun t => { t with waitingWrites := t.waitingWrites ++ [(key % 256 - 0x20, v.octetsOf)] })
  else if key = okey 0x5100 0x11 then (s.put key v).setPattern (v.numOf == 1)
  else s.put key v

/-! ## Writes of objects without an action -/

/-- Queues a checked write for the close of its tick (R64). -/
def State.queueWrite (f : Frame) (d : Desc) (v : List Byte) (s : State) : State :=
  s.onDict (fun x =>
    { x with tickWrites := x.tickWrites ++ [{ key := d.key, value := decodeVal d.ty v, transport := f.transport, frame := f }] })

/-- R531: a wired write of the record that a field command holds, for record writes alone. -/
def holdsRecord (held : Option (Fin 32)) (key : Nat) : Bool :=
  match held with
  | some r => key == okey 0x8100 (0x20 + r.val) && 2 ≤ r.val
  | none => false

/-- A received WRITE frame of an object without an action: the rows of R608 up to 14, then the queue of its tick. `held` is the
tag record that a field command holds. -/
def State.plainWrite (held : Option (Fin 32)) (f : Frame) (a : Asker) (p : List Byte) (s : State) : State :=
  match s.writeAdmitted a f.key with
  | .error c => s.answer f c
  | .ok d =>
    match s.assemble a d f p (s.valueCode a d) with
    | .refused c n => ((s.countEnvelope n).dropSegment a d.key).answer f c
    | .segment b => (s.keepSegment a d.key b).answer f codeOk
    | .whole v n =>
      let s := (s.countEnvelope n).endSegment d.key
      if holdsRecord held d.key && (s.tagAttr (Fin.ofNat 32 (d.key % 256 - 0x20))).testBit 2 then
        (s.wrapBy (okey 0x8100 2) 1).answer f fieldBusy
      else s.queueWrite f d v

/-- R376: a write of 0x5100:13 captures raw bits of the cell it names: 131,072 octets. -/
def captureAction (bits : List Byte) : Action where
  arg := argOf 1 (fun b => beNat b ≤ 3)
  guard := noGuard
  act := fun _ b s => ((s.put (okey 0x5100 0x13) (.num (beNat b))).put (okey 0x5100 0x12) (.octets (bits.take 131072)), .done)

/-! ## Routing -/

/-- The start environment of a start that a frame on no row of its own causes: every part reads and tests well. -/
def StartEnv.nominal : StartEnv := { udsCopies := (true, true), h12 := true, vpea := true, cardImages := [] }

/-- CLOSE_SESSION (R56): the writer's own session closes after the response. -/
def closeAction : Action where
  arg := anyArg
  guard := noGuard
  act := fun a _ s => (match a.session with | some id => s.endSession id | none => s, .done)

/-- The actions of 0x1100 to 0x3100. -/
def lowAction (f : Frame) : Nat → Option Action
  | 0x110020 => some elevationAction
  | 0x110021 => some closeAction
  | 0x120003 => some modeRequestAction
  | 0x120004 => some (lifecycleAction StartEnv.nominal)
  | 0x120005 => some (commitAction StartEnv.nominal)
  | 0x120006 => some (resetAction StartEnv.nominal)
  | 0x120007 => some hotRestartAction
  | 0x120008 => some (boardBootAction f)
  | 0x120009 => some (retireAction StartEnv.nominal)
  | 0x2C0020 => some sweepAction
  | 0x300020 => some attestationOverrideAction
  | 0x300021 => some closeCollectionAction
  | 0x310013 => some acknowledgeAction
  | 0x310020 => some supplementAction
  | 0x310021 => some rolloverAction
  | _ => none

/-- The actions of 0x4100 to 0x9000. -/
def highAction : Nat → Option Action
  | 0x410004 => some runLanesAction
  | 0x420004 => some runUnitsAction
  | 0x500020 => some advanceGenerationAction
  | 0x500021 => some raiseMinimumAction
  | 0x500022 => some zeroiseAction
  | 0x510013 => some (captureAction [])
  | 0x610020 => some clearRestraintAction
  | 0x610030 => some unlockAction
  | 0x610040 => some (cellWindowAction true)
  | 0x620005 => some flushAction
  | 0x620006 => some ackEventsAction
  | 0x62000B => some verifyAction
  | 0x700004 => some (installAction StartEnv.nominal)
  | 0x700005 => some (cardInstallAction [] StartEnv.nominal)
  | 0x710001 => some snapshotAction
  | 0x720010 => some gateFenceAction
  | 0x730010 => some marginPassAction
  | 0x800003 => some (enableAction .tag)
  | 0x800004 => some (disableAction .tag)
  | 0x800009 => some endDoffAction
  | 0x800023 => some rosterAddAction
  | 0x800024 => some rosterRevokeAction
  | 0x820001 => some (enableAction .cards)
  | 0x820002 => some (disableAction .cards)
  | 0x820020 => some prepareAction
  | 0x820021 => some stageAction
  | 0x900002 => some setTimeAction
  | 0x900007 => some slewAction
  | 0x900020 => some freezeAction
  | _ => none

/-- The action that a write of an object starts. -/
def actionOf (f : Frame) (key : Nat) : Option Action :=
  match chanGroup key with
  | some (n, 2) =>
    if key % 256 = 2 then some (enableAction (.hostPort n))
    else if key % 256 = 3 then some (disableAction (.hostPort n))
    else if key % 256 = 5 then some (haltOverrideAction n) else none
  | some _ => none
  | none => if key < 0x400000 then lowAction f key else highAction key

/-! ## Aborts (R47) -/

/-- The CMD objects of an index. -/
def cmdsOf (index : Nat) : List Desc := directory.filter (fun d => d.key / 256 == index && d.ty == .cmd)

/-- R47: the role and mode checks of a write to a CMD object: 0 or the code. -/
def State.abortCode (s : State) (a : Asker) (d : Desc) : Nat :=
  if !writeReach s.modes.mode d then modeRefused
  else if (d.writers.testBit a.role.bit || loaderWrite s.modes.mode d.key) && s.mayWrite a d then 0
  else accessDenied

/-- What an abort of the Busy actions of 0x1200 undoes. -/
def State.abortModes (s : State) : State :=
  let s := if s.busy modeRequestKey then s.onModes (fun m => { m with limitExpired := false }) else s
  let s := if s.busy hotRestartKey then s.onModes (fun m => { m with hotRestartWaiting := none }) else s
  if s.busy (okey 0x1200 8) then s.onDict (fun d => { d with boardBoot := none }) else s

/-- What an abort undoes, by index; the objects that stay Busy read Aborted after it. -/
def State.abortEffects (index : Nat) (s : State) : State :=
  let s := match fnOfIndex index with | some i => s.abortFn i | none => s
  match index with
  | 0x1100 => if s.busy (okey 0x1100 0x20) then s.abortPresentation else s
  | 0x1200 => s.abortModes
  | 0x2C00 => if s.busy (okey 0x2C00 0x20) then s.abortSweep else s
  | 0x3100 =>
    let s := if s.busy supplementKey then s.abortAppend supplementKey else s
    if s.busy rolloverKey then s.abortAppend rolloverKey else s
  | 0x4100 => if s.busy (okey 0x4100 4) then s.abortLaneRun else s
  | 0x4200 => if s.busy (okey 0x4200 4) then s.abortUnitRun else s
  | 0x6100 =>
    let s := if s.busy (okey 0x6100 0x30) && s.tag.purpose == purposeUnlock then s.abortPresentation else s
    s.closeCellWindow 3
  | 0x7300 =>
    if s.busy (okey 0x7300 0x10) then
      (s.onFlash (fun c => { c with marginPass := none })).abortCmd (okey 0x7300 0x10) flashAborted
    else s
  | 0x8000 => if s.busy (okey 0x8000 0x23) then s.abortPresentation else s
  | 0x8200 => s.abortCards
  | 0x9000 =>
    let s := if s.busy (okey 0x9000 7) then s.abortSlew else s
    if s.busy (okey 0x9000 0x20) then s.onPower (fun p => { p with freezeScheduled := false }) else s
  | _ => s

/-- R47: aborts the Busy actions of an index. An accepted unlock is not undone (R403). -/
def State.abortIndex (index : Nat) (s : State) : State :=
  let s := s.abortEffects index
  s.forAll (cmdsOf index) (fun d s =>
    if d.key = okey 0x6100 0x30 ∧ s.tamper.unlockAccepted = true then s else s.abortCmd d.key actionAborted)

/-- R47: a WRITE of subindex 0xFE. Written in the tick of a start that comes after it, it acts again at the close. -/
def State.abortRequest (f : Frame) (a : Asker) (s : State) : State :=
  let all := cmdsOf f.index.toNat
  let busy := all.filter (fun d => s.busy d.key)
  let asked := if busy.isEmpty then all else busy
  if all.isEmpty then s.answer f noSuchObject
  else if asked.any (fun d => s.abortCode a d == 0) then
    ((s.touch a f.key).answer f codeOk).abortIndex f.index.toNat
  else s.answer f ((asked.map (s.abortCode a)).headD accessDenied)

/-! ## WRITE -/

/-- A received WRITE frame. -/
def State.writeRequest (held : Option (Fin 32)) (bits : List Byte) (f : Frame) (a : Asker) (p : List Byte) (s : State) : State :=
  if f.sub = 0xFE then s.abortRequest f a
  else if f.key = okey 0x5100 0x13 then s.writeCmd f.key f a p (captureAction bits)
  else match actionOf f f.key with
  | some x => s.writeCmd f.key f a p x
  | none => s.plainWrite held f a p

/-- A WRITE frame of one of a set of objects; another frame is none of this command, and nothing happens. -/
def State.runWrite (mine : Nat → Bool) (held : Option (Fin 32)) (bits : List Byte) (f : Frame) (s : State) : State :=
  if f.kind != kindWrite || !mine f.key then s
  else match (s.countFreezeWrite f).receive f with
  | (s, .ended) => s
  | (s, .request a p) => s.writeRequest held bits f a p

/-- WRITE (R64): the frame is checked and queued for its tick; a write of an object with an action or an abort goes its way. -/
def execDexWrite (f : Frame) (s : State) : Host.Outcome State Fault Refusal := .next (s.runWrite (fun _ => true) none [] f)

/-- CMD_ABORT (R47). -/
def execCmdAbort (f : Frame) (s : State) : Host.Outcome State Fault Refusal :=
  .next (s.runWrite (fun k => k % 256 == 0xFE) none [] f)

/-- CLOSE_SESSION (R56). -/
def execCloseSession (f : Frame) (s : State) : Host.Outcome State Fault Refusal := .next (s.runCmd (okey 0x1100 0x21) f closeAction)

/-- MANIFEST_WRITE (R135): 0x2n01:01 to :08; verified when its tick closes. -/
def execManifestWrite (f : Frame) (s : State) : Host.Outcome State Fault Refusal :=
  .next (s.runWrite (fun k => (chanGroup k).any (fun e => e.2 == 1) && 1 ≤ k % 256 && k % 256 ≤ 8) none [] f)

/-- WINDOW_CURSOR_WRITE (R254): 0x3100:10. -/
def execWindowCursorWrite (f : Frame) (s : State) : Host.Outcome State Fault Refusal :=
  .next (s.runWrite (fun k => k == okey 0x3100 0x10) none [] f)

/-- LOADABLE_CURVE_WRITE (R331): 0x4200:10 to :17. -/
def execLoadableCurveWrite (f : Frame) (s : State) : Host.Outcome State Fault Refusal :=
  .next (s.runWrite (fun k => okey 0x4200 0x10 ≤ k && k ≤ okey 0x4200 0x17) none [] f)

/-- TEST_PATTERN_ENABLE (R376): 0x5100:11. -/
def execTestPatternEnable (f : Frame) (s : State) : Host.Outcome State Fault Refusal :=
  .next (s.runWrite (fun k => k == okey 0x5100 0x11) none [] f)

/-- RAW_CAPTURE (R376): 0x5100:13, with the bits that the cell delivers. -/
def execRawCapture (f : Frame) (bits : List Byte) (s : State) : Host.Outcome State Fault Refusal :=
  .next (s.runWrite (fun k => k == okey 0x5100 0x13) none bits f)

/-- RESPONSE_CHANGE (R384): 0x6100:01. -/
def execResponseChange (f : Frame) (s : State) : Host.Outcome State Fault Refusal :=
  .next (s.runWrite (fun k => k == okey 0x6100 1) none [] f)

/-- EVENT_CURSOR_WRITE (R412): 0x6200:03. -/
def execEventCursorWrite (f : Frame) (s : State) : Host.Outcome State Fault Refusal :=
  .next (s.runWrite (fun k => k == okey 0x6200 3) none [] f)

/-- WIRED_RECORD_WRITE (R531): 0x8100:22 to :3F; `held` is the record that a field command holds. -/
def execWiredRecordWrite (f : Frame) (held : Option (Fin 32)) (s : State) : Host.Outcome State Fault Refusal :=
  .next (s.runWrite (fun k => okey 0x8100 0x20 ≤ k && k ≤ okey 0x8100 0x3F) held [] f)

/-- HOST_LATENCY_TOLERANCE_WRITE (R567): 0x1300:01. -/
def execHostLatencyToleranceWrite (f : Frame) (s : State) : Host.Outcome State Fault Refusal :=
  .next (s.runWrite (fun k => k == okey 0x1300 1) none [] f)

/-- REPORTED_LTR_WRITE (R568): 0x1300:04. -/
def execReportedLtrWrite (f : Frame) (s : State) : Host.Outcome State Fault Refusal :=
  .next (s.runWrite (fun k => k == okey 0x1300 4) none [] f)

/-! ## The close of a tick (R64, R65) -/

/-- R64: writes in transport order, then arrival order. -/
def inTransportOrder (l : List TickWrite) : List TickWrite :=
  [Transport.pcie, .i3c0, .i3c1, .net, .tag].flatMap (fun t => l.filter (fun w => w.transport == t))

/-- R64, R609: what arbitration compares: the object and, for the objects of R609, the holder. -/
def TickWrite.slot (w : TickWrite) : Nat × Option (Option Word × Transport) :=
  (w.key, if heldKey w.key then some (w.frame.session, if w.frame.session.isSome then .pcie else w.transport) else none)

/-- A winner takes effect. Its reach and role are those of the close (DEDUCED, notes/assumptions/84.md). -/
def State.winWrite (w : TickWrite) (s : State) : State :=
  let a := s.asker w.frame
  match s.writeAdmitted a w.key with
  | .error c => s.answer w.frame c
  | .ok d =>
    let r := s.refusal a w.key w.value
    if r.2 != 0 then r.1.answer w.frame r.2
    else if d.pers then
      r.1.onDict (fun x => { x with commits := x.commits ++ [{ key := w.key, value := w.value, frame := some w.frame }] })
    else (r.1.applied a w.key w.value).answer w.frame codeOk

/-- R64: the first write of an object wins; the others are answered OBJECT_CONTENDED and counted. -/
def State.closeWrites : List TickWrite → List (Nat × Option (Option Word × Transport)) → State → State
  | [], _, s => s
  | w :: rest, won, s =>
    if won.contains w.slot then State.closeWrites rest won ((s.bump (okey 0x1100 3)).answer w.frame objectContended)
    else State.closeWrites rest (w.slot :: won) (s.winWrite w)

/-- R47: an action started in the tick of an abort of its index ends Aborted. -/
def State.repeatAborts (s : State) : State :=
  let t := s.dict.touched
  s.forAll ((t.filter (fun e => e.1 % 256 == 0xFE)).map (fun e => e.1 / 256)) (fun index s =>
    if (cmdsOf index).any (fun d => s.busy d.key && t.any (fun e => e.1 == d.key)) then s.abortIndex index else s)

/-- The tick closes; the next begins with the values that stand then. -/
def State.closeTick (s : State) : State :=
  let l := inTransportOrder s.dict.tickWrites
  let s := State.closeWrites l [] (s.onDict (fun d => { d with tickWrites := [] }))
  let s := s.repeatAborts.settleWrites
  let s := s.onDict (fun d => { d with touched := [], tick := (d.tick + 1) % 2 ^ 48 })
  s.closeBoardBoot.openTick

/-- DICTIONARY_TICK_CLOSE (R64). -/
def execDictionaryTickClose (s : State) : Host.Outcome State Fault Refusal := .next (s.whenLive State.closeTick)

/-! ## Flash commits (R45) -/

/-- R45: the oldest commit in flight ends. -/
def State.commitDone (ok : Bool) (s : State) : State :=
  match s.dict.commits with
  | [] => s
  | c :: rest =>
    let s := s.onDict (fun d => { d with commits := rest })
    let s := if ok then s.committed c.key c.value else s
    match c.frame with
    | some f => s.answer f (if ok then codeOk else persistFailed)
    | none => s

/-- PERSIST_COMMIT_DONE (R45). -/
def execPersistCommitDone (ok : Bool) (s : State) : Host.Outcome State Fault Refusal := .next (s.whenLive (State.commitDone ok))

end Sys2Proof.Machine
end

