-- ==== Sys2Proof/Machine/OnotteAlu.lean ====
section
/-! DEFINITION. The computing instructions: the ALU group, immediates, shifts, pointers, the multiply group
(spec/13_onotte_instruction_set.md, R425 to R435). -/

namespace Sys2Proof.Machine

/-- An instruction of n parcels that reads and writes registers alone. -/
def State.registerOp (p : Fin 4) (n : Nat) (f : Pair → Except Trap Pair) (s : State) : State :=
  s.issue p n .plain (fun s =>
    match f s.pairs[p] with
    | .ok q => .done (s.onPair p (fun _ => q))
    | .error t => .trap s t)

/-- R422: a result and CY. -/
def Pair.writeCarry (rd : Fin 16) (r : Word × Bool) (q : Pair) : Pair :=
  (q.write rd r.1).writeAfter 1 .cy (boolWord r.2)

/-- R425, R426: a pointer result, or an alignment fault. -/
def Pair.writePointer (rd : Fin 16) (r : Option Word) (q : Pair) : Except Trap Pair :=
  match r with
  | some w => .ok (q.write rd w)
  | none => .error (alignmentTrap 0)

/-- ADD (R422, R431): the sum and its carry. -/
def execOpAdd (p : Fin 4) (rd ra rb : Fin 16) (s : State) : Host.Outcome State Fault Refusal :=
  .next (s.registerOp p 1 (fun q => .ok (q.writeCarry rd (addCarry (q.reg ra) (q.reg rb) false))))

/-- ADDC (R422, R431): the sum with CY, and its carry. -/
def execOpAddc (p : Fin 4) (rd ra rb : Fin 16) (s : State) : Host.Outcome State Fault Refusal :=
  .next (s.registerOp p 1 (fun q => .ok (q.writeCarry rd (addCarry (q.reg ra) (q.reg rb) q.cy))))

/-- SUB (R422, R431): the difference and its borrow. -/
def execOpSub (p : Fin 4) (rd ra rb : Fin 16) (s : State) : Host.Outcome State Fault Refusal :=
  .next (s.registerOp p 1 (fun q => .ok (q.writeCarry rd (subBorrow (q.reg ra) (q.reg rb) false))))

/-- SUBB (R422, R431): the difference with CY, and its borrow. -/
def execOpSubb (p : Fin 4) (rd ra rb : Fin 16) (s : State) : Host.Outcome State Fault Refusal :=
  .next (s.registerOp p 1 (fun q => .ok (q.writeCarry rd (subBorrow (q.reg ra) (q.reg rb) q.cy))))

/-- AND (R431): bitwise and. -/
def execOpAnd (p : Fin 4) (rd ra rb : Fin 16) (s : State) : Host.Outcome State Fault Refusal :=
  .next (s.registerOp p 1 (fun q => .ok (q.write rd (q.reg ra &&& q.reg rb))))

/-- OR (R431): bitwise or. -/
def execOpOr (p : Fin 4) (rd ra rb : Fin 16) (s : State) : Host.Outcome State Fault Refusal :=
  .next (s.registerOp p 1 (fun q => .ok (q.write rd (q.reg ra ||| q.reg rb))))

/-- XOR (R431): bitwise exclusive or. -/
def execOpXor (p : Fin 4) (rd ra rb : Fin 16) (s : State) : Host.Outcome State Fault Refusal :=
  .next (s.registerOp p 1 (fun q => .ok (q.write rd (q.reg ra ^^^ q.reg rb))))

/-- ANDN (R431): ra and not rb. -/
def execOpAndn (p : Fin 4) (rd ra rb : Fin 16) (s : State) : Host.Outcome State Fault Refusal :=
  .next (s.registerOp p 1 (fun q => .ok (q.write rd (q.reg ra &&& ~~~(q.reg rb)))))

/-- SHL (R431, R432): by rb[5:0]. -/
def execOpShl (p : Fin 4) (rd ra rb : Fin 16) (s : State) : Host.Outcome State Fault Refusal :=
  .next (s.registerOp p 1 (fun q => .ok (q.write rd (shiftBy .shl (q.reg ra) (bitsOf (q.reg rb) 5 0)))))

/-- SHR (R431, R432): by rb[5:0]. -/
def execOpShr (p : Fin 4) (rd ra rb : Fin 16) (s : State) : Host.Outcome State Fault Refusal :=
  .next (s.registerOp p 1 (fun q => .ok (q.write rd (shiftBy .shr (q.reg ra) (bitsOf (q.reg rb) 5 0)))))

/-- SAR (R431, R432): by rb[5:0]. -/
def execOpSar (p : Fin 4) (rd ra rb : Fin 16) (s : State) : Host.Outcome State Fault Refusal :=
  .next (s.registerOp p 1 (fun q => .ok (q.write rd (shiftBy .sar (q.reg ra) (bitsOf (q.reg rb) 5 0)))))

/-- ROL (R431, R432): by rb[5:0]. -/
def execOpRol (p : Fin 4) (rd ra rb : Fin 16) (s : State) : Host.Outcome State Fault Refusal :=
  .next (s.registerOp p 1 (fun q => .ok (q.write rd (shiftBy .rol (q.reg ra) (bitsOf (q.reg rb) 5 0)))))

/-- SLT (R431): signed less than. -/
def execOpSlt (p : Fin 4) (rd ra rb : Fin 16) (s : State) : Host.Outcome State Fault Refusal :=
  .next (s.registerOp p 1 (fun q => .ok (q.write rd (boolWord ((q.reg ra).slt (q.reg rb))))))

/-- SLTU (R431): unsigned less than. -/
def execOpSltu (p : Fin 4) (rd ra rb : Fin 16) (s : State) : Host.Outcome State Fault Refusal :=
  .next (s.registerOp p 1 (fun q => .ok (q.write rd (boolWord ((q.reg ra).ult (q.reg rb))))))

/-- SEL (R431, R434): ra when CY is 1, otherwise rb. -/
def execOpSel (p : Fin 4) (rd ra rb : Fin 16) (s : State) : Host.Outcome State Fault Refusal :=
  .next (s.registerOp p 1 (fun q => .ok (q.write rd (if q.cy then q.reg ra else q.reg rb))))

/-- CLZ (R431): leading zero bits of ra; rb is not read. -/
def execOpClz (p : Fin 4) (rd ra _rb : Fin 16) (s : State) : Host.Outcome State Fault Refusal :=
  .next (s.registerOp p 1 (fun q => .ok (q.write rd (BitVec.ofNat 48 (leadingZeros (q.reg ra))))))

/-- ODIF (R426, R431): the octet distance, or an alignment fault. -/
def execOpOdif (p : Fin 4) (rd ra rb : Fin 16) (s : State) : Host.Outcome State Fault Refusal :=
  .next (s.registerOp p 1 (fun q => q.writePointer rd (octetDistance (q.reg ra) (q.reg rb))))

/-- OADD (R425, R431): optr_add(ra, rb), or an alignment fault. -/
def execOpOadd (p : Fin 4) (rd ra rb : Fin 16) (s : State) : Host.Outcome State Fault Refusal :=
  .next (s.registerOp p 1 (fun q => q.writePointer rd (optrAdd (q.reg ra) (q.reg rb).toInt)))

/-- ADDI (R422, R429, R430): ra plus the sign-extended immediate, and the carry. -/
def execOpAddi (p : Fin 4) (rd ra : Fin 16) (imm : Imm) (s : State) : Host.Outcome State Fault Refusal :=
  .next (s.registerOp p imm.parcels (fun q => .ok (q.writeCarry rd (addCarry (q.reg ra) imm.word false))))

/-- ANDI (R429, R430): ra and the sign-extended immediate. -/
def execOpAndi (p : Fin 4) (rd ra : Fin 16) (imm : Imm) (s : State) : Host.Outcome State Fault Refusal :=
  .next (s.registerOp p imm.parcels (fun q => .ok (q.write rd (q.reg ra &&& imm.word))))

/-- ORI (R429, R430): ra or the sign-extended immediate. -/
def execOpOri (p : Fin 4) (rd ra : Fin 16) (imm : Imm) (s : State) : Host.Outcome State Fault Refusal :=
  .next (s.registerOp p imm.parcels (fun q => .ok (q.write rd (q.reg ra ||| imm.word))))

/-- XORI (R429, R430): ra exclusive-or the sign-extended immediate. -/
def execOpXori (p : Fin 4) (rd ra : Fin 16) (imm : Imm) (s : State) : Host.Outcome State Fault Refusal :=
  .next (s.registerOp p imm.parcels (fun q => .ok (q.write rd (q.reg ra ^^^ imm.word))))

/-- SHI (R432): kind imm9[8:6] (4 to 7 are illegal) by imm9[5:0]. -/
def execOpShi (p : Fin 4) (rd ra : Fin 16) (imm : BitVec 9) (s : State) : Host.Outcome State Fault Refusal :=
  .next (s.registerOp p 1 (fun q =>
    match ShiftKind.ofCode (imm.toNat / 64) with
    | some k => .ok (q.write rd (shiftBy k (q.reg ra) (imm.toNat % 64)))
    | none => .error illegalTrap))

/-- MOVI (R429, R430): the sign-extended immediate. -/
def execOpMovi (p : Fin 4) (rd : Fin 16) (imm : MoviImm) (s : State) : Host.Outcome State Fault Refusal :=
  .next (s.registerOp p imm.parcels (fun q => .ok (q.write rd imm.word)))

/-- MOVHI (R430): rd[47:24] := imm24; rd[23:0] unchanged. -/
def execOpMovhi (p : Fin 4) (rd : Fin 16) (imm : BitVec 24) (s : State) : Host.Outcome State Fault Refusal :=
  .next (s.registerOp p 2 (fun q => .ok (q.write rd ((imm.setWidth 48 <<< 24) ||| (q.reg rd &&& 0xFFFFFF)))))

/-- OADDI (R425, R430): optr_add(ra, imm), or an alignment fault. -/
def execOpOaddi (p : Fin 4) (rd ra : Fin 16) (imm : Imm) (s : State) : Host.Outcome State Fault Refusal :=
  .next (s.registerOp p imm.parcels (fun q => q.writePointer rd (optrAdd (q.reg ra) imm.word.toInt)))

/-- MUL (R435, R440): low 48 bits of the product, read four instructions later. -/
def execOpMul (p : Fin 4) (rd ra rb : Fin 16) (s : State) : Host.Outcome State Fault Refusal :=
  .next (s.registerOp p 1 (fun q => .ok (q.writeAfter 4 (.g rd) (q.reg ra * q.reg rb))))

/-- MULHU (R435, R440): high 48 bits of the unsigned product, read four instructions later. -/
def execOpMulhu (p : Fin 4) (rd ra rb : Fin 16) (s : State) : Host.Outcome State Fault Refusal :=
  .next (s.registerOp p 1 (fun q => .ok (q.writeAfter 4 (.g rd) (mulHighU (q.reg ra) (q.reg rb)))))

/-- MULHS (R435, R440): high 48 bits of the signed product, read four instructions later. -/
def execOpMulhs (p : Fin 4) (rd ra rb : Fin 16) (s : State) : Host.Outcome State Fault Refusal :=
  .next (s.registerOp p 1 (fun q => .ok (q.writeAfter 4 (.g rd) (mulHighS (q.reg ra) (q.reg rb)))))

/-- MFMH (R435): rd := MH. -/
def execOpMfmh (p : Fin 4) (rd : Fin 16) (s : State) : Host.Outcome State Fault Refusal :=
  .next (s.registerOp p 1 (fun q => .ok (q.write rd q.mh)))

/-- MTMH (R435): MH := ra. -/
def execOpMtmh (p : Fin 4) (ra : Fin 16) (s : State) : Host.Outcome State Fault Refusal :=
  .next (s.registerOp p 1 (fun q => .ok (q.writeAfter 1 .mh (q.reg ra))))

/-- MADD (R435, R440): ra × rb + rc + MH, its low word in rd and its high word in MH, both read four instructions later. -/
def execOpMadd (p : Fin 4) (rd ra rb rc : Fin 16) (s : State) : Host.Outcome State Fault Refusal :=
  .next (s.registerOp p 2 (fun q =>
    let t := multiplyAdd (q.reg ra) (q.reg rb) (q.reg rc) q.mh
    .ok ((q.writeAfter 4 (.g rd) t.1).writeAfter 4 .mh t.2)))

end Sys2Proof.Machine
end

