-- ==== Sys2Proof/Machine/OnotteMemory.lean ====
section
/-! DEFINITION. Loads and stores, PUSH and POP, string and block-move instructions (spec/13_onotte_instruction_set.md, R437,
R438, R450 to R453). -/

namespace Sys2Proof.Machine

/-- R488: the stall cycles of a load by its target class, whose number is a free value. -/
def State.stallCycles (p : Fin 4) (addr : Nat) (s : State) : State :=
  let e := if addr < 0x100000 then 0 else if addr < 0x400000 then 3 else if addr < 0x800000 then 0
    else if addr < 0x1000000 then 4 else 5
  if e = 0 then s
  else
    let (c, s) := s.drawFree
    s.onPair p (Pair.perf e c.toNat)

/-- R373, R364: the octet pointer of ENT_TAKE as the pair sees it at its level. -/
def State.entTakePointer (s : State) (p : Fin 4) : Word :=
  BitVec.ofNat 48 ((0x1005000 + 0x100 * p.val + 0x40 * s.pairs[p].level.num + 5) * 8)

/-- R437, R440: a load of a size into rd, read three instructions later. A load that already waits for the entropy queue can
only be that of ENT_TAKE. -/
def State.loadOp (p : Fin 4) (rd ra : Fin 16) (disp : Imm) (z : Size) (signed : Bool) (b : BusReply) (s : State) : State :=
  s.issue p disp.parcels .load (fun s =>
    let q := s.pairs[p]
    match effective (q.reg ra) disp z with
    | none => .trap s (alignmentTrap 0)
    | some ptr =>
      if q.entropyWait && ptr != s.entTakePointer p then .stay s
      else match s.load p q.level z ptr b with
      | .ok s w =>
        .done ((s.onPair p (fun q =>
          { q with entropyWait := false }.writeAfter 3 (.g rd) (if signed then z.signed w else w))).stallCycles p
            (ptr.toNat / 8))
      | .trap s t => .trap s t
      | .stall => .stay (s.onPair p (fun q => { q with entropyWait := true })))

/-- R437: a store of a size from rs. -/
def State.storeOp (p : Fin 4) (rs ra : Fin 16) (disp : Imm) (z : Size) (b : BusReply) (s : State) : State :=
  s.issue p disp.parcels .plain (fun s =>
    let q := s.pairs[p]
    match effective (q.reg ra) disp z with
    | none => .trap s (alignmentTrap 0)
    | some ptr =>
      match s.storeAt p q.level z ptr (q.reg rs) b with
      | .ok s _ => .done s
      | .trap s t => .trap s t
      | .stall => .stay s)

/-- LDW (R437): a word. -/
def execOpLdw (p : Fin 4) (rd ra : Fin 16) (disp : Imm) (bus : BusReply) (s : State) : Host.Outcome State Fault Refusal :=
  .next (s.loadOp p rd ra disp .word false bus)

/-- LDH (R437): a half, zero-extended. -/
def execOpLdh (p : Fin 4) (rd ra : Fin 16) (disp : Imm) (bus : BusReply) (s : State) : Host.Outcome State Fault Refusal :=
  .next (s.loadOp p rd ra disp .half false bus)

/-- LDHS (R437): a half, sign-extended. -/
def execOpLdhs (p : Fin 4) (rd ra : Fin 16) (disp : Imm) (bus : BusReply) (s : State) : Host.Outcome State Fault Refusal :=
  .next (s.loadOp p rd ra disp .half true bus)

/-- LDO (R437): an octet, zero-extended. -/
def execOpLdo (p : Fin 4) (rd ra : Fin 16) (disp : Imm) (bus : BusReply) (s : State) : Host.Outcome State Fault Refusal :=
  .next (s.loadOp p rd ra disp .octet false bus)

/-- LDOS (R437): an octet, sign-extended. -/
def execOpLdos (p : Fin 4) (rd ra : Fin 16) (disp : Imm) (bus : BusReply) (s : State) : Host.Outcome State Fault Refusal :=
  .next (s.loadOp p rd ra disp .octet true bus)

/-- STW (R437): a word. -/
def execOpStw (p : Fin 4) (rs ra : Fin 16) (disp : Imm) (bus : BusReply) (s : State) : Host.Outcome State Fault Refusal :=
  .next (s.storeOp p rs ra disp .word bus)

/-- STH (R437): a half. -/
def execOpSth (p : Fin 4) (rs ra : Fin 16) (disp : Imm) (bus : BusReply) (s : State) : Host.Outcome State Fault Refusal :=
  .next (s.storeOp p rs ra disp .half bus)

/-- STO (R437): an octet. -/
def execOpSto (p : Fin 4) (rs ra : Fin 16) (disp : Imm) (bus : BusReply) (s : State) : Host.Outcome State Fault Refusal :=
  .next (s.storeOp p rs ra disp .octet bus)

/-! ## PUSH and POP (R453) -/

/-- R453: PUSH stores below g15; a new g15 below DSL is a data-stack fault, which follows a fault of the store (R479). -/
def State.pushBody (p : Fin 4) (ra : Fin 16) (s : State) : Issue :=
  let q := s.pairs[p]
  match optrAdd (q.reg 15) (-6) with
  | none => .trap s (alignmentTrap 0)
  | some sp =>
    match s.storeAt p q.level .word sp (q.reg ra) .ok with
    | .trap s t => .trap s t
    | .stall => .stay s
    | .ok s' _ =>
      if sp.toNat < q.dsl[q.level.idx].toNat then .trap s dataStackTrap
      else .done (s'.onPair p (fun q => q.write 15 sp))

/-- PUSH (R453). -/
def execOpPush (p : Fin 4) (ra : Fin 16) (s : State) : Host.Outcome State Fault Refusal :=
  .next (s.issue p 1 .plain (State.pushBody p ra))

/-- R453: POP loads the word at g15, with the load distance, then sets g15. -/
def State.popBody (p : Fin 4) (rd : Fin 16) (s : State) : Issue :=
  let q := s.pairs[p]
  match optrAdd (q.reg 15) 6 with
  | none => .trap s (alignmentTrap 0)
  | some sp =>
    match s.load p q.level .word (q.reg 15) .ok with
    | .trap s t => .trap s t
    | .stall => .stay s
    | .ok s w => .done (s.onPair p (fun q => (q.writeAfter 3 (.g rd) w).write 15 sp))

/-- POP (R453). -/
def execOpPop (p : Fin 4) (rd : Fin 16) (s : State) : Host.Outcome State Fault Refusal :=
  .next (s.issue p 1 .plain (State.popBody p rd))

/-! ## String and block moves (R450 to R452) -/

/-- A string instruction: the size of its elements, what it moves, and the octets its pointers advance by. -/
structure StringOp where
  size : Size
  /-- Copies from g12; otherwise fills with a value. -/
  fill : Option Word
  step : Int
deriving DecidableEq, Repr

/-- R450: one element: its value, its store, the pointers and the count. -/
def State.element (p : Fin 4) (o : StringOp) (s : State) : State × Option Trap :=
  let q := s.pairs[p]
  let l := q.level
  let got : Access := match o.fill with
    | some w => .ok s w
    | none => s.load p l o.size (q.reg 12) .ok
  match got with
  | .trap s t => (s, some t)
  | .stall => (s, some (busTrap entropyWaitStatus (q.reg 12)))
  | .ok s' w =>
    match optrAdd (q.reg 13) o.step, (if o.fill.isSome then some (q.reg 12) else optrAdd (q.reg 12) o.step) with
    | some d, some a =>
      (match s'.storeAt p l o.size (q.reg 13) w .ok with
      | .trap s t => (s, some t)
      | .stall => (s, none)
      | .ok s'' _ =>
        (s''.onPair p (fun q =>
          let q := (q.setNow 13 d).setNow 14 (q.reg 14 - 1)
          (if o.fill.isSome then q else q.setNow 12 a).perf 0x0C 1), none))
    | _, _ => (s, some (alignmentTrap 0))

/-- R450, R452: at most n elements, until g14 is zero or an element faults. -/
def State.elements (p : Fin 4) (o : StringOp) : Nat → State → State × Option Trap
  | 0, s => (s, none)
  | n + 1, s =>
    if s.pairs[p].reg 14 = 0 then (s, none)
    else match s.element p o with
    | (s, none) => State.elements p o n s
    | r => r

/-- R450: MOVW and FILLW require index 0 in the pointers they use. -/
def StringOp.startOk (o : StringOp) (q : Pair) : Bool :=
  o.size != .word || ((q.reg 13).toNat % 8 == 0 && (o.fill.isSome || (q.reg 12).toNat % 8 == 0))

/-- R452: a string instruction, of which `count` elements are performed before the next boundary; it completes when g14 is
zero. -/
def State.stringOp (p : Fin 4) (o : Pair → StringOp) (count : Nat) (s : State) : State :=
  s.issue p 1 .string (fun s =>
    let q := s.pairs[p]
    if q.reg 14 = 0 then .done s
    else if !(o q).startOk q then .trap s (alignmentTrap 0)
    else match s.elements p (o q) (min count (q.reg 14).toNat) with
    | (s, some t) => .trap s t
    | (s, none) => if s.pairs[p].reg 14 = 0 then .done s else .stay s)

/-- MOVO (R450). -/
def execOpMovo (p : Fin 4) (count : Nat) (s : State) : Host.Outcome State Fault Refusal :=
  .next (s.stringOp p (fun _ => { size := .octet, fill := none, step := 1 }) count)

/-- MOVOD (R450). -/
def execOpMovod (p : Fin 4) (count : Nat) (s : State) : Host.Outcome State Fault Refusal :=
  .next (s.stringOp p (fun _ => { size := .octet, fill := none, step := -1 }) count)

/-- MOVW (R450). -/
def execOpMovw (p : Fin 4) (count : Nat) (s : State) : Host.Outcome State Fault Refusal :=
  .next (s.stringOp p (fun _ => { size := .word, fill := none, step := 6 }) count)

/-- FILLO (R450). -/
def execOpFillo (p : Fin 4) (ra : Fin 16) (count : Nat) (s : State) : Host.Outcome State Fault Refusal :=
  .next (s.stringOp p (fun q => { size := .octet, fill := some (q.reg ra), step := 1 }) count)

/-- FILLW (R450). -/
def execOpFillw (p : Fin 4) (ra : Fin 16) (count : Nat) (s : State) : Host.Outcome State Fault Refusal :=
  .next (s.stringOp p (fun q => { size := .word, fill := some (q.reg ra), step := 6 }) count)

end Sys2Proof.Machine
end

