-- ==== Sys2Proof/Machine/OnotteControl.lean ====
section
/-! DEFINITION. Branches, jumps, calls, returns and hardware loops (spec/13_onotte_instruction_set.md, R443 to R449). -/

namespace Sys2Proof.Machine

/-- R443: a branch of n parcels, taken or not, with its delay slot to come. -/
def State.branchOp (p : Fin 4) (n : Nat) (f : Pair → Except Trap (Option Word × Bool × Bool)) (s : State) : State :=
  s.issue p n .control (fun s =>
    let q := s.pairs[p]
    match f q with
    | .error t => .trap s t
    | .ok (target, push, pop) =>
      .done (s.onPair p (fun q =>
        { q with branch := some { pointer := q.ip.setWidth 26, target, push, pop } })))

/-- R443: a conditional branch: the displacement counts parcels from the branch's instruction pointer. -/
def State.conditional (p : Fin 4) (disp : Imm) (c : Pair → Bool) (s : State) : State :=
  s.branchOp p disp.parcels (fun q => .ok (if c q then some (q.ip + disp.word) else none, false, false))

/-- R444: a call needs room on the return stack when its slot commits; without it the call faults. -/
def Pair.callTo (target : Word) (q : Pair) : Except Trap (Option Word × Bool × Bool) :=
  (q.pushEntry q.level 0).map (fun _ => (some target, true, false))

/-- BEQ (R430, R443). -/
def execOpBeq (p : Fin 4) (ra rb : Fin 16) (disp : Imm) (s : State) : Host.Outcome State Fault Refusal :=
  .next (s.conditional p disp (fun q => q.reg ra == q.reg rb))

/-- BNE (R430, R443). -/
def execOpBne (p : Fin 4) (ra rb : Fin 16) (disp : Imm) (s : State) : Host.Outcome State Fault Refusal :=
  .next (s.conditional p disp (fun q => q.reg ra != q.reg rb))

/-- BLT (R430, R443). -/
def execOpBlt (p : Fin 4) (ra rb : Fin 16) (disp : Imm) (s : State) : Host.Outcome State Fault Refusal :=
  .next (s.conditional p disp (fun q => (q.reg ra).slt (q.reg rb)))

/-- BGE (R430, R443). -/
def execOpBge (p : Fin 4) (ra rb : Fin 16) (disp : Imm) (s : State) : Host.Outcome State Fault Refusal :=
  .next (s.conditional p disp (fun q => !(q.reg ra).slt (q.reg rb)))

/-- BLTU (R430, R443). -/
def execOpBltu (p : Fin 4) (ra rb : Fin 16) (disp : Imm) (s : State) : Host.Outcome State Fault Refusal :=
  .next (s.conditional p disp (fun q => (q.reg ra).ult (q.reg rb)))

/-- BGEU (R430, R443). -/
def execOpBgeu (p : Fin 4) (ra rb : Fin 16) (disp : Imm) (s : State) : Host.Outcome State Fault Refusal :=
  .next (s.conditional p disp (fun q => !(q.reg ra).ult (q.reg rb)))

/-- BZ (R430, R443). -/
def execOpBz (p : Fin 4) (ra : Fin 16) (disp : Imm) (s : State) : Host.Outcome State Fault Refusal :=
  .next (s.conditional p disp (fun q => q.reg ra == 0))

/-- BNZ (R430, R443). -/
def execOpBnz (p : Fin 4) (ra : Fin 16) (disp : Imm) (s : State) : Host.Outcome State Fault Refusal :=
  .next (s.conditional p disp (fun q => q.reg ra != 0))

/-- BCY (R430, R443). -/
def execOpBcy (p : Fin 4) (_ra : Fin 16) (disp : Imm) (s : State) : Host.Outcome State Fault Refusal :=
  .next (s.conditional p disp (fun q => q.cy))

/-- BNC (R430, R443). -/
def execOpBnc (p : Fin 4) (_ra : Fin 16) (disp : Imm) (s : State) : Host.Outcome State Fault Refusal :=
  .next (s.conditional p disp (fun q => !q.cy))

/-- BNEG (R430, R443). -/
def execOpBneg (p : Fin 4) (ra : Fin 16) (disp : Imm) (s : State) : Host.Outcome State Fault Refusal :=
  .next (s.conditional p disp (fun q => (q.reg ra).getLsbD 47))

/-- BPOS (R430, R443). -/
def execOpBpos (p : Fin 4) (ra : Fin 16) (disp : Imm) (s : State) : Host.Outcome State Fault Refusal :=
  .next (s.conditional p disp (fun q => !(q.reg ra).getLsbD 47))

/-- BR (R443). -/
def execOpBr (p : Fin 4) (disp : JumpDisp) (s : State) : Host.Outcome State Fault Refusal :=
  .next (s.branchOp p disp.parcels (fun q => .ok (some (q.ip + disp.word), false, false)))

/-- CALL (R444). -/
def execOpCall (p : Fin 4) (disp : JumpDisp) (s : State) : Host.Outcome State Fault Refusal :=
  .next (s.branchOp p disp.parcels (fun q => q.callTo (q.ip + disp.word)))

/-- CALLR (R444). -/
def execOpCallr (p : Fin 4) (ra : Fin 16) (s : State) : Host.Outcome State Fault Refusal :=
  .next (s.branchOp p 1 (fun q => q.callTo (q.reg ra)))

/-- JR (R443). -/
def execOpJr (p : Fin 4) (ra : Fin 16) (s : State) : Host.Outcome State Fault Refusal :=
  .next (s.branchOp p 1 (fun q => .ok (some (q.reg ra), false, false)))

/-- R444, R457: the top entry must be a call entry. -/
def Pair.returnTarget (q : Pair) : Except Trap (Option Word × Bool × Bool) :=
  match q.popEntry q.level with
  | .error t => .error t
  | .ok (w, _) => if entryKind w = 0 then .ok (some (w &&& 0x3FFFFFF), false, true) else .error (returnStackTrap q.level)

/-- RET (R444, R457). -/
def execOpRet (p : Fin 4) (s : State) : Host.Outcome State Fault Refusal :=
  .next (s.branchOp p 1 Pair.returnTarget)

/-! ## Hardware loops (R446 to R449) -/

/-- R438: the parcel that fetch sees at a parcel pointer: instruction memory as of the last IFENCE. -/
def State.fetchedParcel (s : State) (p : Fin 4) (ip : Word) : BitVec 24 :=
  let a := ip.toNat / 2
  let w : Word :=
    if a < 0x20000 then octetsWord (memOctets s.pairs[p].fetched (a * 8) 6)
    else if a < 0x40000 then octetsWord (memOctets s.pairs[p].mem (a * 8) 6)
    else if a < 0x400000 then s.commonsWord (a * 8)
    else 0
  if ip.toNat % 2 = 0 then w.setWidth 24 else (w >>> 24).setWidth 24

/-- R446, R447: LOOP and LOOPI: the set's registers take their values from the third instruction after the set-up; a count of
zero goes on behind the instruction at LE; an e below the set-up's own length plus 2 is illegal. -/
def State.loopOp (p : Fin 4) (n : Nat) (set : Fin 2) (e : Nat) (count : Pair → Word) (s : State) : State :=
  s.issue p n .control (fun s =>
    let q := s.pairs[p]
    if e < n + 2 then .trap s illegalTrap
    else
      let last := q.ip + BitVec.ofNat 48 e
      let c := count q
      let s' := s.onPair p (fun q =>
        (((q.writeAfter 3 (.ls set) (q.ip + BitVec.ofNat 48 n)).writeAfter 3 (.le set) last).writeAfter 3 (.lc set) c).writeAfter
          3 (.setLevel set) (BitVec.ofNat 48 q.level.num))
      if c = 0 then .goto s' (last + BitVec.ofNat 48 (parcelCount (s.fetchedParcel p last))) else .done s')

/-- LOOP (R446). -/
def execOpLoop (p : Fin 4) (set : Fin 2) (rc : Fin 16) (e : BitVec 12) (s : State) : Host.Outcome State Fault Refusal :=
  .next (s.loopOp p 1 set e.toNat (fun q => q.reg rc))

/-- LOOPI (R446). -/
def execOpLoopi (p : Fin 4) (set : Fin 2) (n : BitVec 12) (e : BitVec 24) (s : State) :
    Host.Outcome State Fault Refusal :=
  .next (s.loopOp p 2 set e.toNat (fun _ => n.setWidth 48))

/-- LOOPX (R436): LC of set imm8[0] := 0, read by the next instruction (DEDUCED, notes/assumptions/53.md). -/
def execOpLoopx (p : Fin 4) (imm : BitVec 8) (s : State) : Host.Outcome State Fault Refusal :=
  .next (s.registerOp p 1 (fun q => .ok (q.writeAfter 1 (.lc (if imm.getLsbD 0 then 1 else 0)) 0)))

end Sys2Proof.Machine
end

