-- ==== Sys2Proof/Machine/OnotteSystem.lean ====
section
/-! DEFINITION. The system group, gate calls and returns from exceptions, interrupts, the register commands of a pair, lockstep
and pair reset (spec/01 R32; spec/13 R423, R436, R438, R454, R457; spec/14 R460 to R479). -/

namespace Sys2Proof.Machine

/-! ## Special registers (R423, R461) -/

/-- R423: a read of a special register; none where the number is absent. -/
def Pair.special (p : Fin 4) (q : Pair) (n : Nat) : Option Word :=
  match n with
  | 0x00 => some (boolWord q.cy)
  | 0x01 => some (q.ml.setWidth 48)
  | 0x02 => some (BitVec.ofNat 48 q.level.num)
  | 0x03 => some (BitVec.ofNat 48 p.val)
  | 0x04 => some q.mh
  | 0x08 => some q.ls[0]
  | 0x09 => some q.le[0]
  | 0x0A => some q.lc[0]
  | 0x0C => some q.ls[1]
  | 0x0D => some q.le[1]
  | 0x0E => some q.lc[1]
  | 0x10 => some q.dsl[0]
  | 0x11 => some q.dsl[1]
  | 0x12 => some q.dsl[2]
  | 0x14 => some q.rsp[0]
  | 0x15 => some q.rsp[1]
  | 0x16 => some q.rsp[2]
  | 0x18 => some q.rsb[0]
  | 0x19 => some q.rsb[1]
  | 0x1A => some q.rsb[2]
  | 0x1C => some q.rsl[0]
  | 0x1D => some q.rsl[1]
  | 0x1E => some q.rsl[2]
  | 0x20 => some (BitVec.ofNat 48 q.stack[0].length)
  | 0x21 => some (BitVec.ofNat 48 q.stack[1].length)
  | 0x22 => some (BitVec.ofNat 48 q.stack[2].length)
  | _ => none

/-- MFSR (R423): numbers from 0x10 on are read at Monitor alone. -/
def execOpMfsr (p : Fin 4) (rd : Fin 16) (imm : BitVec 8) (s : State) : Host.Outcome State Fault Refusal :=
  .next (s.registerOp p 1 (fun q =>
    match q.special p imm.toNat with
    | none => .error illegalTrap
    | some w => if 0x10 ≤ imm.toNat ∧ q.level ≠ .monitor then .error (privilegeTrap imm.toNat) else .ok (q.write rd w)))

/-- R461: the mask levels that a level may set. -/
def mayMask (l : Level) (ml : Nat) : Bool :=
  match l with
  | .user => false
  | .supervisor => ml ≤ 6
  | .monitor => ml ≤ 7

/-- R440, R461, R477: ML takes a value after a shadow of two instructions. -/
def Pair.setMask (v : Word) (q : Pair) : Except Trap Pair :=
  let ml : BitVec 3 := v.setWidth 3
  if mayMask q.level ml.toNat then .ok (q.writeAfter 3 .ml (ml.setWidth 48)) else .error (privilegeTrap 1)

/-- SETML (R436, R461); imm8[7:3] is zero. -/
def execOpSetml (p : Fin 4) (imm : BitVec 8) (s : State) : Host.Outcome State Fault Refusal :=
  .next (s.registerOp p 1 (fun q => if 8 ≤ imm.toNat then .error illegalTrap else q.setMask (imm.setWidth 48)))

/-- R424, R447: a write of a loop register, which records the level. -/
def Pair.setLoop (t : Target) (i : Fin 2) (v : Word) (q : Pair) : Pair :=
  (q.writeAfter 3 t v).writeAfter 3 (.setLevel i) (BitVec.ofNat 48 q.level.num)

/-- R454: a write of RSP, RSB or RSL discards the level's entries on die. -/
def Pair.dropEntries (i : Fin 3) (q : Pair) : Pair := { q with stack := q.stack.set i [] }

/-- MTSR (R423, R454): none where the number is absent; a register that the level may not write is a privilege fault. -/
def Pair.setSpecial (n : Nat) (v : Word) (q : Pair) : Except Trap Pair :=
  let monitor := fun (r : Pair) => if q.level = .monitor then Except.ok r else .error (privilegeTrap n)
  match n with
  | 0x00 => .ok (q.writeAfter 1 .cy v)
  | 0x01 => q.setMask v
  | 0x04 => .ok (q.writeAfter 1 .mh v)
  | 0x08 => .ok (q.setLoop (.ls 0) 0 v)
  | 0x09 => .ok (q.setLoop (.le 0) 0 v)
  | 0x0A => .ok (q.setLoop (.lc 0) 0 v)
  | 0x0C => .ok (q.setLoop (.ls 1) 1 v)
  | 0x0D => .ok (q.setLoop (.le 1) 1 v)
  | 0x0E => .ok (q.setLoop (.lc 1) 1 v)
  | 0x10 => monitor { q with dsl := q.dsl.set 0 v }
  | 0x11 => monitor { q with dsl := q.dsl.set 1 v }
  | 0x12 => monitor { q with dsl := q.dsl.set 2 v }
  | 0x14 => monitor ({ q with rsp := q.rsp.set 0 v }.dropEntries 0)
  | 0x15 => monitor ({ q with rsp := q.rsp.set 1 v }.dropEntries 1)
  | 0x16 => monitor ({ q with rsp := q.rsp.set 2 v }.dropEntries 2)
  | 0x18 => monitor ({ q with rsb := q.rsb.set 0 v }.dropEntries 0)
  | 0x19 => monitor ({ q with rsb := q.rsb.set 1 v }.dropEntries 1)
  | 0x1A => monitor ({ q with rsb := q.rsb.set 2 v }.dropEntries 2)
  | 0x1C => monitor ({ q with rsl := q.rsl.set 0 v }.dropEntries 0)
  | 0x1D => monitor ({ q with rsl := q.rsl.set 1 v }.dropEntries 1)
  | 0x1E => monitor ({ q with rsl := q.rsl.set 2 v }.dropEntries 2)
  | 0x02 | 0x03 | 0x20 | 0x21 | 0x22 => .error (privilegeTrap n)
  | _ => .error illegalTrap

/-- MTSR (R423). -/
def execOpMtsr (p : Fin 4) (imm : BitVec 8) (ra : Fin 16) (s : State) : Host.Outcome State Fault Refusal :=
  .next (s.registerOp p 1 (fun q => q.setSpecial imm.toNat (q.reg ra)))

/-! ## Fences, WAIT, BRK, RSSPILL (R436, R438, R454) -/

/-- FENCE (R438): every earlier store of the pair has been performed: stores are performed at once in this model (DEDUCED,
notes/assumptions/35.md). -/
def execOpFence (p : Fin 4) (s : State) : Host.Outcome State Fault Refusal :=
  .next (s.registerOp p 1 .ok)

/-- IFENCE (R438): fetch sees the stores made so far into instruction memory. -/
def execOpIfence (p : Fin 4) (s : State) : Host.Outcome State Fault Refusal :=
  .next (s.registerOp p 1 (fun q => .ok { q with fetched := q.mem.filter (fun c => c.1 < 0x20000 * 8) }))

/-- GFENCE (R485): no access checked under an earlier epoch is in flight between two commands (DEDUCED,
notes/assumptions/35.md). -/
def execOpGfence (p : Fin 4) (s : State) : Host.Outcome State Fault Refusal :=
  .next (s.registerOp p 1 .ok)

/-- WAIT (R436, R475): it completes, and issue stops until a source is admitted. -/
def execOpWait (p : Fin 4) (s : State) : Host.Outcome State Fault Refusal :=
  .next (s.issue p 1 .plain (fun s =>
    .placed ((s.complete p 1 s.pairs[p].branch).onPair p (fun q => { q with waiting := q.firstAdmitted.isNone }))))

/-- R463, R476: the breakpoint exception: the instruction has completed, in a delay slot with its branch, and the saved
pointer is that of the instruction after it in execution. -/
def State.breakpoint (p : Fin 4) (sub : Nat) (slot : Option Branch) (s : State) : State :=
  let before := s.pairs[p]
  let s' := s.complete p 1 slot
  let q := s'.pairs[p]
  if slot.isSome && (q.level != before.level || q.doubleFault != before.doubleFault || !q.inService) then s'
  else s'.enterException p { cause := 9, sub, detail := 0, pointer := q.ip, ds := false, target := faultTarget q.level,
                             ml := none, gate := none }

/-- BRK (R436, R463, R469): taken normally at ML 7. -/
def execOpBrk (p : Fin 4) (imm : BitVec 8) (s : State) : Host.Outcome State Fault Refusal :=
  .next (s.issue p 1 .plain (fun s => .placed (s.breakpoint p imm.toNat s.pairs[p].branch)))

/-- R436, R454: RSSPILL at Monitor spills every entry of a level. Below Monitor it is a privilege fault, for which the spec
states no subcode: a free value (notes/assumptions/54.md). Level 3 names no level: an illegal instruction (DESIGN CHOICE,
notes/assumptions/54.md). -/
def State.spillBody (p : Fin 4) (imm : BitVec 8) (s : State) : Issue :=
  let q := s.pairs[p]
  if q.level ≠ .monitor then
    let (w, s) := s.drawFree
    .trap s (privilegeTrap (w.toNat % 256))
  else match Level.ofNum (imm.toNat % 4) with
  | none => .trap s illegalTrap
  | some l =>
    let n := q.stack[l.idx].length
    if n = 0 then .done s
    else match q.spillTo l n with
    | .error t => .trap s t
    | .ok q => .done (s.onPair p (fun _ => q.perf 8 1))

/-- RSSPILL (R436, R454). -/
def execOpRsspill (p : Fin 4) (imm : BitVec 8) (s : State) : Host.Outcome State Fault Refusal :=
  .next (s.issue p 1 .plain (State.spillBody p imm))

/-! ## Gate calls (R472, R473) -/

/-- R473, R481: the programmable rule that decides an access. -/
def Gauntlet.deciding (g : Gauntlet) (gate : Nat) (a : Accessor) (addr : Nat) : Option Nat :=
  (List.range 16).find? (fun r => g.ruleMatches gate r a addr)

/-- R473: an argument range of a kind passes for a caller. -/
def State.rangeAdmitted (s : State) (p : Fin 4) (l : Level) (ptr len : Word) (kinds : List AccessKind) : Bool :=
  if len = 0 then true
  else if ptr.toNat % 8 ≥ 6 then false
  else
    let first := ptr.toNat / 8
    let last := (octMove ptr.toNat ((len.toNat - 1 : Nat) : Int)).toNat / 8
    match gateOf p first with
    | none => false
    | some g =>
      if gateOf p last ≠ some g then false
      else
        let a : Accessor := .pair p l
        (List.range (last + 1 - first)).all (fun i =>
          kinds.all (fun k => (s.accessTrap p l (first + i) k ptr).isNone) &&
            s.gaunt.deciding g.val a (first + i) == s.gaunt.deciding g.val a first)

/-- R472: the accesses that an argument kind asks for. -/
def argKinds (k : Nat) : List AccessKind :=
  match k with
  | 1 => [.read] | 2 => [.write] | 3 => [.read, .write] | _ => []

/-- R473: the first argument register whose check fails, 1 to 3. -/
def State.badArgument (s : State) (p : Fin 4) (entry : Word) : Option Nat :=
  let q := s.pairs[p]
  ([(1, q.reg 1, q.reg 4, bitsOf entry 39 38), (2, q.reg 2, q.reg 5, bitsOf entry 41 40),
    (3, q.reg 3, q.reg 6, bitsOf entry 43 42)].find? (fun e =>
      e.2.2.2 != 0 && !s.rangeAdmitted p q.level e.2.1 e.2.2.1 (argKinds e.2.2.2))).map (fun e => e.1)

/-- R472: entry n of the gate table, in the pair's instruction memory. -/
def Pair.gateEntry (q : Pair) (n : Nat) : Word :=
  let a := q.gtbase.toNat + n
  if a < 0x20000 then octetsWord (memOctets q.mem (a * 8) 6) else 0

/-- R472, R473: SYS. -/
def State.sysBody (p : Fin 4) (n : Nat) (s : State) : Issue :=
  let q := s.pairs[p]
  let e := q.gateEntry n
  let target := bitsOf e 47 46
  if q.gtcount.toNat ≤ n ∨ target = 0 ∨ target = 3 ∨ target < q.level.num ∨ q.level.num < bitsOf e 45 44 then
    .trap s (privilegeTrap n)
  else match s.badArgument p e with
  | some k => .trap s { cause := 8, sub := k, detail := 0 }
  | none =>
    let s := s.retire p
    .placed (s.enterException p
      { cause := 0x0A, sub := n, detail := 0, pointer := q.ip + 1, ds := false,
        target := if target = 1 then .supervisor else .monitor, ml := none, gate := some (e &&& 0x3FFFFFF) })

/-- SYS (R436, R472). -/
def execOpSys (p : Fin 4) (imm : BitVec 8) (s : State) : Host.Outcome State Fault Refusal :=
  .next (s.issue p 1 .control (State.sysBody p imm.toNat))

/-! ## Return from exception (R457, R467, R468, R470) -/

/-- R467 step 2: the words of a frame at g15 of the level. -/
def State.readFrame (p : Fin 4) (l : Level) : Nat → Word → State → Except (State × Trap) (State × List Word)
  | 0, _, s => .ok (s, [])
  | n + 1, ptr, s =>
    match s.load p l .word ptr .ok with
    | .trap s t => .error (s, t)
    | .stall => .error (s, busTrap entropyWaitStatus ptr)
    | .ok s w =>
      match State.readFrame p l n (ptr + 8) s with
      | .error e => .error e
      | .ok (s, ws) => .ok (s, w :: ws)

/-- R467 steps 4 and 5: the saved ML and the set levels are admitted at a level. -/
def frameAdmitted (l : Level) (header : Word) : Bool :=
  mayMask l (bitsOf header 29 27) && bitsOf header 24 23 ≤ l.num && bitsOf header 22 21 ≤ l.num

/-- R467 steps 6, 8 and 9: what a frame restores. -/
def Pair.restore (f : List Word) (q : Pair) : Pair :=
  let h := f.getD 0 0
  let level := fun (n : Nat) => (Level.ofNum n).getD .user
  { q with
    cy := h.getLsbD 25, mh := f.getD 3 0,
    ls := #v[f.getD 4 0, f.getD 7 0], le := #v[f.getD 5 0, f.getD 8 0], lc := #v[f.getD 6 0, f.getD 9 0],
    setLevel := #v[level (bitsOf h 24 23), level (bitsOf h 22 21)],
    level := level (bitsOf h 31 30), ml := BitVec.ofNat 3 (bitsOf h 29 27),
    ip := f.getD 1 0 &&& 0x3FFFFFF }

/-- R468: a privilege-return fault: a double fault of cause 0x0B whose saved pointer is the ERET. -/
def State.privilegeReturn (p : Fin 4) (s : State) : Issue :=
  .placed (s.doubleFault p 0x0B 0 0 s.pairs[p].ip false)

/-- R467, R470: ERET. In double fault at Monitor the frame comes from the double-fault area, and neither the return stack nor
g15 moves (DEDUCED of g15, notes/assumptions/55.md). A fault while the frame is read leaves the entry (DEDUCED,
notes/assumptions/55.md). -/
def State.eretBody (p : Fin 4) (s : State) : Issue :=
  let s := s.onPair p Pair.flush
  let q := s.pairs[p]
  let l := q.level
  if l = .monitor ∧ q.doubleFault = true then
    let f := (List.range 10).map (fun i => octetsWord (memOctets q.mem ((0x3FFF0 + i) * 8) 6))
    if frameAdmitted l (f.getD 0 0) then
      .placed ((s.onPair p (fun q => { q with doubleFault := false }.restore f)).retire p)
    else s.privilegeReturn p
  else match q.popEntry l with
  | .error t => .trap s t
  | .ok (w, q') =>
    if entryKind w ≠ 1 then .trap s (returnStackTrap l)
    else
      let popped := s.onPair p (fun _ => q')
      match popped.readFrame p l 10 (q.g15[l.idx]) with
      | .error (_, t) => .trap s t
      | .ok (s', f) =>
        if bitsOf (f.getD 0 0) 31 30 ≤ bitsOf w 45 44 ∧ frameAdmitted l (f.getD 0 0) = true then
          match optrAdd q.g15[l.idx] 60 with
          | none => .trap s (alignmentTrap 0)
          | some sp => .placed ((s'.onPair p (fun q => { q with g15 := q.g15.set l.idx sp }.restore f)).retire p)
        else popped.privilegeReturn p

/-- ERET (R436, R467). -/
def execOpEret (p : Fin 4) (s : State) : Host.Outcome State Fault Refusal :=
  .next (s.issue p 1 .control (State.eretBody p))

/-! ## Illegal instructions (R430) -/

/-- ILLEGAL_INSTRUCTION (R430): the parcels of an encoding that is assigned are none of this command. -/
def execIllegalInstruction (p : Fin 4) (parcel0 parcel1 : BitVec 24) (s : State) : Host.Outcome State Fault Refusal :=
  .next (if illegalParcels parcel0 parcel1 then
    s.issue p (parcelCount parcel0) .plain (fun s => .trap s illegalTrap) else s)

/-! ## Interrupts and the control block's commands (R462, R474, R475, R487) -/

/-- R475, R478: the interrupt that is due is taken; WAIT ends, its cycles counted as a free value. -/
def State.takeInterrupt (p : Fin 4) (s : State) : State :=
  let q := s.pairs[p]
  if !s.runs p then s
  else match q.interruptDue with
  | none => s
  | some n =>
    let (c, s) := s.drawFree
    let s := s.onPair p (fun q => if q.waiting then (q.perf 0x0E c.toNat).perf 0x0A 1 else q.perf 0x0A 1)
    s.enterException p { cause := 0x10 + n, sub := n, detail := 0, pointer := q.ip, ds := false, target := sourceTarget n,
                         ml := some (BitVec.ofNat 3 (q.priority n)), gate := none }

/-- INTERRUPT (R475). -/
def execInterrupt (p : Fin 4) (s : State) : Host.Outcome State Fault Refusal := .next (s.takeInterrupt p)

/-- R481, R482: a pair's write of a register at an offset of the register space: its effect, or the fault of the store. -/
def State.pairWrite (p : Fin 4) (l : Level) (off : Nat) (w : Word) (s : State) : State :=
  let ptr := BitVec.ofNat 48 ((0x1000000 + off) * 8)
  if !s.pairAt p l then s
  else match s.accessTrap p l (0x1000000 + off) .write ptr with
  | some t => s.takeFault p t
  | none =>
    match s.regWrite p l off w with
    | some s => s
    | none => s.takeFault p (busTrap ruleLockedStatus ptr)

/-- ICLEAR (R462). -/
def execIclear (p : Fin 4) (l : Level) (value : Word) (s : State) : Host.Outcome State Fault Refusal :=
  .next (s.pairWrite p l (0x3007 + 0x100 * p.val) value)

/-- DOORBELL (R462). -/
def execDoorbell (p : Fin 4) (l : Level) (value : Word) (s : State) : Host.Outcome State Fault Refusal :=
  .next (s.pairWrite p l (0x300B + 0x100 * p.val) value)

/-- PCOVF_WRITE (R487). -/
def execPcovfWrite (p : Fin 4) (l : Level) (value : Word) (s : State) : Host.Outcome State Fault Refusal :=
  .next (s.pairWrite p l (0x3027 + 0x100 * p.val) value)

/-- GAUNTLET_RULE_WRITE (R480, R484): word 1. -/
def execGauntletRuleWrite (p : Fin 4) (l : Level) (gate : Fin 14) (rule : Fin 16) (value : Word) (s : State) :
    Host.Outcome State Fault Refusal :=
  .next (s.pairWrite p l (0x6001 + 0x20 * gate.val + 2 * rule.val) value)

/-- TIMER_EXPIRY (R462): a timer that runs reaches zero, raises source 4 or 5 and stops. -/
def execTimerExpiry (p : Fin 4) (t : Fin 2) (s : State) : Host.Outcome State Fault Refusal :=
  .next (s.whenLive (fun s =>
    if s.pairs[p].timers[t] = 0 then s
    else s.onPair p (fun q => { q with timers := q.timers.set t 0 }.interrupt (4 + t.val))))

/-- ENT_TAKE (R373): the next word, or a wait. -/
def State.entTake (p : Fin 4) (s : State) : State :=
  match s.takeWords 1 with
  | some (w, s) => (s.onPair p (fun q => { q with entropyWait := false })).send (.readData p (w.headD 0))
  | none => s.onPair p (fun q => { q with entropyWait := true })

/-- ENT_TAKE (R364, R373). -/
def execEntTake (p : Fin 4) (l : Level) (s : State) : Host.Outcome State Fault Refusal :=
  .next (if s.pairAt p l then s.entTake p else s)

/-- ENTROPY_WAIT_TIMEOUT (R373): a read of ENT_TAKE that still finds no word ends with a bus error. -/
def execEntropyWaitTimeout (p : Fin 4) (s : State) : Host.Outcome State Fault Refusal :=
  .next (s.whenLive (fun s =>
    if s.pairs[p].entropyWait && s.ent.queue.isEmpty then s.takeFault p (busTrap entropyWaitStatus (s.entTakePointer p))
    else s))

/-! ## Plain register writes (R66, R255, R270, R364, R462, R480, R487, R495) -/

/-- R255: BASE_LO, BASE_HI, SIZE and the next sequence of a ring, which accept writes only while the ring
is not enabled; bits [11:0] of BASE_LO are zero, and SIZE takes an admitted size only (notes/assumptions/78.md). -/
def ExportRing.setPlain (which : Fin 5) (v : BitVec 32) (r : ExportRing) : ExportRing :=
  if r.ctrl.getLsbD 0 then r
  else match which with
  | 0 => { r with baseLo := v &&& 0xFFFFF000 }
  | 1 => { r with baseHi := v }
  | 2 => { r with size := if ringSizeOk v then v else r.size }
  | 3 => { r with nextSeq := r.nextSeq / 2 ^ 32 * 2 ^ 32 + v.toNat }
  | 4 => { r with nextSeq := v.toNat % 2 ^ 16 * 2 ^ 32 + r.nextSeq % 2 ^ 32 }

/-- R495: the offsets of the controller's plain registers. -/
def flashPlain (which : Fin 6) : Nat :=
  match which with
  | 0 => 0x02 | 1 => 0x03 | 2 => 0x04 | 3 => 0x10 | 4 => 0x11 | 5 => 0x14

/-- REGISTER_WRITE: a register that only holds its value. -/
def State.writeRegister (r : PlainReg) (value : Word) (s : State) : State :=
  match r with
  | .requestOctet k off =>
    s.onDict (fun d =>
      { d with mailbox := d.mailbox.set k { d.mailbox[k] with
          reqBuf := memSet d.mailbox[k].reqBuf off.val (value.setWidth 8) } })
  | .ring r which =>
    s.onLedger (fun l => { l with rings := l.rings.set r (l.rings[r].setPlain which (value.setWidth 32)) })
  | .hubDesc p l i => s.pairWrite p l (0x4000 + 0x100 * p.val + 0x40 * l.num + i.val) value
  | .keyArg p l i => s.pairWrite p l (0x5000 + 0x100 * p.val + 0x40 * l.num + i.val) value
  | .control p l off => s.pairWrite p l (0x3000 + 0x100 * p.val + off.val) value
  | .ruleWord0 p l gate r => s.pairWrite p l (0x6000 + 0x20 * gate.val + 2 * r.val) value
  | .flash p which => s.pairWrite p s.pairs[p].level (0x7000 + flashPlain which) value

/-- REGISTER_WRITE (R66). -/
def execRegisterWrite (r : PlainReg) (value : Word) (s : State) : Host.Outcome State Fault Refusal :=
  .next (s.whenLive (State.writeRegister r value))

/-! ## Lockstep (R31, R32) -/

/-- LOCKSTEP_MISMATCH (R32): the pair halts and resets, its jobs migrate, the mismatch is counted and logged. -/
def execLockstepMismatch (p : Fin 4) (s : State) : Host.Outcome State Fault Refusal :=
  .next (s.whenLive (fun s =>
    if s.pairs[p].inService then
      ((s.bumpWord (okey 0x7100 0x43) 4 p.val).event 0x58 (detailOf 1 (p.val * 2 ^ 32))).resetPair p
    else s))

/-- PAIR_RETURN_TO_SERVICE (R32, R471): a pair in reset is in service again, outside a hot restart and a start. -/
def execPairReturnToService (p : Fin 4) (s : State) : Host.Outcome State Fault Refusal :=
  .next (s.whenLive (fun s =>
    if s.pairs[p].inService || s.dict.restarting || s.modes.starting then s else s.onPair p (Pair.bringUp s.entryParcel)))

end Sys2Proof.Machine
end

