-- ==== Sys2Proof/Machine/Sessions.lean ====
section
/-! DEFINITION. Session setup, elevation by roster signatures, the end of sessions and segmented writes
(spec/02_dexrek_dictionary.md R49 to R56, R58, R62, R63, R612). -/

namespace Sys2Proof.Machine

/-! ## Frames of the wrong kind (R58) -/

/-- FORBIDDEN_KIND_FRAME (R58): a RESPONSE, PUBLISHED or ERROR frame from a peer is dropped and counted. -/
def execForbiddenKindFrame (f : Frame) (s : State) : Host.Outcome State Fault Refusal :=
  .next (if f.kind == kindResponse || f.kind == kindPublished || f.kind == kindError then (s.receive f).1 else s)

/-! ## Setup messages -/

/-- A SETUP or ERROR frame of the N4812: index 0x0000, the step in its subindex octet. -/
def setupFrame (f : Frame) (kind : BitVec 4) (step code offset : Nat) (more : Bool) (b : List Byte) : Frame :=
  { f with kind, version := 1, index := 0, sub := BitVec.ofNat 8 step, code := BitVec.ofNat 24 code,
           offset := BitVec.ofNat 24 offset, length := BitVec.ofNat 16 b.length, flags := if more then 2 else 0, reserved := 0,
           payload := b, session := none, seq := 0, check := [] }

/-- Sends a sessionless frame of the N4812; only the first of a message fills a PCIe slot (DESIGN CHOICE,
notes/assumptions/85.md). -/
def State.sendPlain (first : Bool) (f : Frame) (s : State) : State :=
  let g : Frame := { f with check := f.crc }
  if first then s.deliver g else s.send (.frame g)

/-- Sends a frame under the keys of a setup whose session secret is formed. -/
def State.sendUnder (id : Word) (secret : BitVec 512) (seq : Nat) (f : Frame) (s : State) : State :=
  let g : Frame := { f with session := some id, seq := BitVec.ofNat 48 seq, flags := (f.flags &&& 2) ||| 1 }
  let c := gcmSeal (BitVec.ofNat 256 secret.toNat) g.prefixOctets g.header f.payload
  s.deliver { g with payload := c.1, check := c.2 }

/-- R54: a message longer than 1,024 octets in its segments (R62). -/
def State.sendMessage (f : Frame) (step : Nat) (b : List Byte) (s : State) : State :=
  s.forAll (List.range ((b.length + 1023) / 1024)) (fun i =>
    State.sendPlain (i == 0) (setupFrame f kindSetup step codeOk (1024 * i) (1024 * (i + 1) < b.length)
      ((b.drop (1024 * i)).take 1024)))

/-- Removes setups. -/
def State.dropSetups (which : Setup → Bool) (s : State) : State :=
  s.onDict (fun d => { d with setups := d.setups.filter (fun x => !which x) })

/-- The setup whose step 1 is in arrival on a transport. -/
def arriving (t : Transport) (x : Setup) : Bool := x.transport == t && x.secret.isNone

/-- R612: the ERROR frame that answers a step, and the end of its setup. -/
def State.failSetup (f : Frame) (step code : Nat) (which : Setup → Bool) (s : State) : State :=
  (s.dropSetups which).sendPlain true (setupFrame f kindError step code 0 false [])

/-! ## Step 1 and step 2 (R54, R55, R612) -/

/-- Octets of step 1: key, encapsulation key, nonce. -/
def step1Length : Nat := 97 + 1568 + 32

/-- R55: sessions and setups in progress, all of them and on the field-network port (DEDUCED, notes/assumptions/86.md). -/
def State.setupsFull (s : State) (t : Transport) : Bool :=
  let l := s.dict.sessions.map Session.transport ++ (s.dict.setups.filter (fun x => x.secret.isSome)).map Setup.transport
  16 ≤ l.length || (t == .net && 8 ≤ (l.filter (fun x => x == .net)).length)

/-- R54: step 2: the device's ephemeral part, the session ID, both signatures of the identity key over the transcript hash. -/
def State.step2 (s : State) (b : List Byte) : List Byte × Word × State :=
  let d := s.drawFree
  let part := (List.range step1Length).map (Config.setupStep2 b s.free)
  let h := sha384 (b ++ part ++ wordBe d.1)
  let ec := ((s.keySlot 2).map KeySlot.material).getD []
  let ml := ((s.keySlot 3).map KeySlot.material).getD []
  let sigs := beOctets 96 (Config.ecdsaSign ec h s.free).toNat ++ (List.range 4627).map (Config.mldsaSign ml h [] s.free)
  (part ++ wordBe d.1 ++ sigs, d.1, d.2)

/-- R54: the session secret. -/
def sessionSecret (shared transcript : List Byte) : BitVec 512 :=
  BitVec.ofNat 512 (Config.kmac256 shared (sha384 transcript) (ascii "DXK-SESS") 512)

/-- Step 1 is whole: step 2 goes out and the setup waits for step 3. -/
def State.answerStep1 (f : Frame) (b : List Byte) (s : State) : State :=
  let r := s.step2 b
  let t := b ++ r.1
  let x : Setup := { id := r.2.1, transport := f.transport, transcript := t, partialStep := [],
                     secret := some (sessionSecret (Config.setupShared b s.free) t), rxHigh := 0, rxSeen := [], since := s.now }
  (r.2.2.onDict (fun d => { d with setups := x :: d.setups.filter (fun y => !arriving f.transport y) })).sendMessage f 2 r.1

/-- A segment of step 1, after its refusals. A segment that others follow gets no frame (DESIGN CHOICE,
notes/assumptions/85.md). -/
def State.takeStep1 (f : Frame) (p : List Byte) (s : State) : State :=
  let held := s.dict.setups.find? (arriving f.transport)
  let before := if f.offset = 0 then [] else (held.map Setup.partialStep).getD []
  let b := before ++ p
  if f.offset.toNat != before.length || step1Length < b.length then
    s.failSetup f 1 frameMalformed (arriving f.transport)
  else if f.flags.getLsbD 1 then
    let x : Setup := { id := 0, transport := f.transport, transcript := [], partialStep := b, secret := none, rxHigh := 0,
                       rxSeen := [], since := s.now }
    (s.onDict (fun d => { d with setups := x :: d.setups.filter (fun y => !arriving f.transport y) })).unanswered f
  else if b.length != step1Length then s.failSetup f 1 frameMalformed (arriving f.transport)
  else s.answerStep1 f b

/-- A received sessionless SETUP frame. A step other than 1 is out of order; the tag admits no setup (R526). -/
def State.setupRequest (f : Frame) (p : List Byte) (s : State) : State :=
  if f.transport == .tag then s.answerAs kindError f accessDenied [] false
  else if f.sub != 1 || f.index != 0 then s.failSetup f f.sub.toNat frameMalformed (arriving f.transport)
  else if s.modes.mode == .blank || s.modes.mode == .recover then s.failSetup f 1 modeRefused (arriving f.transport)
  else if s.setupsFull f.transport then s.failSetup f 1 sessionsFull (arriving f.transport)
  else s.takeStep1 f p

/-- SETUP_STEP_1 (R55): a SETUP frame outside the keys of any setup. -/
def execSetupStep1 (f : Frame) (s : State) : Host.Outcome State Fault Refusal :=
  .next (if f.kind != kindSetup || f.session.isSome then s
    else match s.receive f with
    | (s, .ended) => s
    | (s, .request _ p) => s.setupRequest f p)

/-! ## Step 3 and step 4 (R51, R54, R612) -/

/-- R51, R612: the role that step 3 gains: Operator with an empty chain in a provisioning session, else by the credential. -/
def State.grantedRole (s : State) (x : Setup) (b : List Byte) : Option (Role × Bool) :=
  let root := s.objOctets (okey 0x1100 0x28)
  if root.all (· == 0) then (if b.isEmpty && s.modes.mode == .provision then some (.operator, true) else none)
  else
    let n := Config.credentialLength b
    let h := sha384 (x.transcript ++ b.take n)
    match Config.credential (b.take n) (BitVec.ofNat 384 (beNat root)) with
    | none => none
    | some (role, ec, ml) =>
      if n != 0 && b.length == n + 96 + 4627 && Config.ecdsaVerify 1 ec h ((b.drop n).take 96) &&
          Config.mldsaVerify 87 ml h [] (b.drop (n + 96)) then
        (if role = 1 then some (.operator, false) else if role = 2 then some (.auditor, false) else none)
      else none

/-- R54: the setup ends in a session, which step 4 announces. -/
def State.openSession (f : Frame) (x : Setup) (secret : BitVec 512) (role : Role) (provisioning : Bool) (b : List Byte)
    (s : State) : State :=
  let code : Byte := if role == .operator then 1 else 2
  let y : Session := { id := x.id, transport := x.transport, role, provisioning, glovePair := false, officers := none,
                       transcript := x.transcript ++ b ++ [code], secret, rxHigh := x.rxHigh, rxSeen := x.rxSeen, txNext := 2,
                       lastUsed := s.now, holder := Holder.initial }
  ((s.dropSetups (fun z => z.id == x.id && z.secret.isSome)).onDict (fun d => { d with sessions := y :: d.sessions })).sendUnder x.id
    secret 1 (setupFrame f kindSetup 4 codeOk 0 false [code])

/-- R612: a failure of step 3 is answered under the new keys. -/
def State.failStep3 (f : Frame) (x : Setup) (secret : BitVec 512) (code : Nat) (s : State) : State :=
  (s.dropSetups (fun z => z.id == x.id && z.secret.isSome)).sendUnder x.id secret 1
    (setupFrame f kindError 3 code 0 false [])

/-- A segment of step 3 in clear. -/
def State.takeStep3 (f : Frame) (x : Setup) (secret : BitVec 512) (p : List Byte) (s : State) : State :=
  let b := (if f.offset = 0 then [] else x.partialStep) ++ p
  if f.sub != 3 || f.index != 0 || f.offset.toNat + p.length != b.length || 12288 < b.length then
    s.failStep3 f x secret frameMalformed
  else if f.flags.getLsbD 1 then
    (s.onDict (fun d =>
      { d with setups := d.setups.map (fun z => if z.id = x.id then { z with partialStep := b } else z) })).unanswered f
  else match s.grantedRole x b with
  | some (role, provisioning) => s.openSession f x secret role provisioning b
  | none => s.failStep3 f x secret accessDenied

/-- A SETUP frame protected under the keys of a setup: its check, sequence and header (R57 to R60), then the step. -/
def State.protectedSetup (f : Frame) (id : Word) (s : State) : State :=
  match s.dict.setups.find? (fun x => x.id == id && x.secret.isSome) with
  | none => s.dropFrame (okey 0x1100 4) f
  | some x =>
    let secret := x.secret.getD 0
    match gcmOpen (BitVec.ofNat 256 (secret.toNat / 2 ^ 256)) f.prefixOctets f.header f.payload f.check with
    | none => s.dropFrame (okey 0x1100 4) f
    | some p =>
      if !seqFresh x.rxHigh x.rxSeen f.seq.toNat then s.dropFrame (okey 0x1100 5) f
      else
        let w := seqAccept x.rxHigh x.rxSeen f.seq.toNat
        let x := { x with rxHigh := w.1, rxSeen := w.2 }
        let s := s.onDict (fun d => { d with setups := d.setups.map (fun z => if z.id = id ∧ z.secret.isSome then x else z) })
        if !f.headerOk then s.failStep3 f x secret frameMalformed
        else if s.dict.restarting then s.sendUnder id secret 1 (setupFrame f kindError 3 restartingCode 0 false [])
        else s.takeStep3 f x secret p

/-- SETUP_STEP_3 (R51): a SETUP frame under the keys of a setup, or under those of a session, which is out of step order. -/
def execSetupStep3 (f : Frame) (s : State) : Host.Outcome State Fault Refusal :=
  .next (match f.session with
    | none => s
    | some id =>
      if f.kind != kindSetup then s
      else if (s.session id).isSome then
        (match s.receive f with
        | (s, .ended) => s
        | (s, .request _ _) => s.answerAs kindError f frameMalformed [] false)
      else if !s.arrives f then s
      else s.protectedSetup f id)

/-- SETUP_TIMEOUT (R55): 2 s after the last segment of step 1. -/
def execSetupTimeout (id : Word) (s : State) : Host.Outcome State Fault Refusal :=
  .next (s.whenLive (State.dropSetups (fun x => x.id == id && x.secret.isSome && x.since + 2 * second ≤ s.now)))

/-! ## Elevation by two roster entries (R52) -/

/-- The key under which the segments of a session's ELEVATE message are kept, beyond those of the objects. -/
def elevateKey (id : Word) : Nat := 2 ^ 24 + id.toNat

/-- Octets of one hybrid signature. -/
def hybridLength : Nat := 96 + 4627

/-- R52: the two distinct entries in force whose signatures, in either order of the entries, the message carries. -/
def State.elevators (s : State) (x : Session) (b : List Byte) : Option (Nat × Nat) :=
  let h := sha384 (x.transcript ++ ascii "OFFICER")
  let signs := fun (e : Nat) (g : List Byte) => hybridOk (s.rosterKeys e) h (g.take 96) (g.drop 96) ""
  let one := s.rosterInForce.find? (fun e => signs e (b.take hybridLength))
  match one with
  | none => none
  | some e =>
    if b.length != 2 * hybridLength then none
    else (s.rosterInForce.find? (fun k => k != e && signs k (b.drop hybridLength))).map (fun k => (min e k, max e k))

/-- R52: the session becomes Officer, without a glove pair, or the request ends ELEVATION_FAILED. -/
def State.elevateWith (f : Frame) (x : Session) (b : List Byte) (s : State) : State :=
  match s.elevators x b with
  | some p => (s.onSession x.id (fun y => { y with role := .officer, officers := some p })).answer f codeOk
  | none => s.answer f elevationFailed

/-- A received ELEVATE frame: its segments (R62), then the whole message. -/
def State.elevateRequest (f : Frame) (a : Asker) (p : List Byte) (s : State) : State :=
  match a.session.bind s.session with
  | none => if f.transport == .tag then s.answerAs kindError f accessDenied [] false else s.answer f sessionRequired
  | some x =>
    let key := elevateKey x.id
    let before := if f.offset = 0 then [] else ((s.segment key).map SegWrite.octets).getD []
    let b := before ++ p
    if f.offset.toNat != before.length then (s.endSegment key).answer f offsetRange
    else if f.flags.getLsbD 1 then (s.keepSegment a key b).answer f codeOk
    else (s.endSegment key).elevateWith f x b

/-- ELEVATE (R52). -/
def execElevate (f : Frame) (s : State) : Host.Outcome State Fault Refusal :=
  .next (if f.kind != kindElevate then s
    else match s.receive f with
    | (s, .ended) => s
    | (s, .request a p) => s.elevateRequest f a p)

/-! ## The end of sessions and segmented writes (R56, R63) -/

/-- SESSION_IDLE_TIMEOUT (R56): idle for longer than 0x1100:23. -/
def execSessionIdleTimeout (id : Word) (s : State) : Host.Outcome State Fault Refusal :=
  .next (s.whenLive (fun s =>
    match s.session id with
    | some x => if x.lastUsed + s.objNum (okey 0x1100 0x23) * second < s.now then s.endSession id else s
    | none => s))

/-- SEGMENT_GAP_TIMEOUT (R63): the write is abandoned; its next segment receives SEGMENT_TIMEOUT. -/
def execSegmentGapTimeout (index : BitVec 16) (sub : BitVec 8) (s : State) : Host.Outcome State Fault Refusal :=
  .next (s.whenLive (fun s => s.onDict (fun d =>
    { d with segments := d.segments.map (fun w =>
        if w.key = okey index.toNat sub.toNat then { w with octets := [], abandoned := true } else w) })))

end Sys2Proof.Machine
end

