-- ==== Sys2Proof/Machine/Transports.lean ====
section
/-! DEFINITION. The transports: mailbox slots, field-network packets, the tag's ENVELOPE, and publishing
(spec/02_dexrek_dictionary.md R66, R67, R69 to R73; spec/16_contactless.md R526). -/

namespace Sys2Proof.Machine

/-! ## PCIe mailbox (R66, R67) -/

/-- The request buffer takes the octets that the host wrote. -/
def Mailbox.fill (b : List Byte) (m : Mailbox) : Mailbox := { m with reqBuf := memStore m.reqBuf 0 (b.take 2048) }

/-- Updates a mailbox slot. -/
def State.onMailbox (k : Fin 4) (f : Mailbox → Mailbox) (s : State) : State :=
  s.onDict (fun d => { d with mailbox := d.mailbox.set k (f d.mailbox[k]) })

/-- MAILBOX_DOORBELL (R67): MBX_CTRL k is written, after the octets of its request buffer. A doorbell on a slot that is not
free is ignored and counted. -/
def execMailboxDoorbell (k : Fin 4) (value : BitVec 32) (buffer : List Byte) (s : State) : Host.Outcome State Fault Refusal :=
  .next (s.whenLive (fun s =>
    let s := s.onMailbox k (Mailbox.fill buffer)
    if !value.getLsbD 31 then s
    else if s.dict.mailbox[k].stat == .free then
      s.onMailbox k (fun m => { m with stat := .busy, reqLen := value.toNat % 2048 })
    else s.bump (okey 0x1100 4)))

/-- MAILBOX_ACK (R66): writing 1 frees a slot that reads response ready. -/
def execMailboxAck (k : Fin 4) (value : BitVec 32) (s : State) : Host.Outcome State Fault Refusal :=
  .next (s.whenLive (fun s =>
    if value = 1 ∧ s.dict.mailbox[k].stat = .ready then s.onMailbox k (fun m => { m with stat := .free }) else s))

/-- R66, R73: what MBX_STAT k reads. -/
def State.mailboxStat (s : State) (k : Fin 4) : BitVec 32 :=
  let m := s.dict.mailbox[k]
  BitVec.ofNat 32 ((match m.stat with | .free => 0 | .busy => 1 | .ready => 2) + m.respLen % 2048 * 4 +
    (if s.dict.restarting then 2 ^ 31 else 0))

/-! ## The field network (R69, R70) -/

/-- NETWORK_PACKET_DROP (R69, R70): dropped without trace. -/
def execNetworkPacketDrop (why : BadPacket) (s : State) : Host.Outcome State Fault Refusal :=
  .next (match why with | .ipv4 | .tcp | .ipv6Fragment | .source => s)

/-- ICMPV6_ECHO (R69): the echo is answered. -/
def execIcmpv6Echo (data : List Byte) (s : State) : Host.Outcome State Fault Refusal :=
  .next (s.whenLive (State.send (.net (Config.icmpv6EchoReply data))))

/-- NEIGHBOUR_DISCOVERY (R69, R70). -/
def execNeighbourDiscovery (data : List Byte) (s : State) : Host.Outcome State Fault Refusal :=
  .next (s.whenLive (fun s =>
    match Config.neighbourAnswer data (s.objOctets (okey 0x1000 5)) (s.objOctets (okey 0x1100 0x34)) with
    | some b => s.send (.net b)
    | none => s))

/-! ## The tag (R526) -/

/-- A frame that an ENVELOPE carries: READ and WRITE as on every transport; SETUP and ELEVATE are refused. -/
def State.tagRequest (f : Frame) (s : State) : State :=
  match s.receive f with
  | (s, .ended) => s
  | (s, .request a p) =>
    if f.kind == kindRead then s.readRequest f a
    else if f.kind == kindWrite then s.writeRequest none [] f a p
    else s.answerAs kindError f accessDenied [] false

/-- ENVELOPE (R526): without main power there is no dictionary, and the command ends 69 85 (R525). -/
def execEnvelope (f : Frame) (s : State) : Host.Outcome State Fault Refusal :=
  .next (s.whenSelected (fun s =>
    if !s.modes.mainPower then s.apduAnswer [0x69, 0x85]
    else (s.countFreezeWrite { f with transport := .tag }).tagRequest { f with transport := .tag }))

/-! ## Publishing (R71 to R73, R609) -/

/-- The objects of a subscription list: index 0x0000 ends it. -/
def subscribed (b : List Byte) : List Nat :=
  ((List.range 32).map (fun i => beNat ((b.drop (3 * i)).take 3))).takeWhile (fun k => 256 ≤ k)

/-- What an object gives its subscriber; nothing for an object that it may not read (DESIGN CHOICE, notes/assumptions/87.md). -/
def State.subscribedValue (s : State) (a : Asker) (key : Nat) : Option (List Byte) :=
  match s.readAdmitted a key with
  | .error _ => none
  | .ok d => (s.readValue a d).toOption

/-- R71: the entries, in list order. A value that does not fit beside the headers still to come is left out. -/
def State.entries (s : State) (a : Asker) : Nat → List Nat → List Byte
  | _, [] => []
  | used, k :: rest =>
    match s.subscribedValue a k with
    | some v =>
      if used + 5 + v.length + 5 * rest.length ≤ 1024 then
        beOctets 3 k ++ beOctets 2 v.length ++ v ++ s.entries a (used + 5 + v.length) rest
      else beOctets 3 k ++ [0xFF, 0xFF] ++ s.entries a (used + 5) rest
    | none => beOctets 3 k ++ [0xFF, 0xFF] ++ s.entries a (used + 5) rest

/-- R72: the telemetry window takes the entries; the update counter passes its odd value and is even again. -/
def State.updateWindow (b : List Byte) (s : State) : State :=
  (s.onDict (fun d => { d with telemetry := b, telemetryCount := (d.telemetryCount + 2) % 2 ^ 32 })).send (.msix 4)

/-- R71: the PUBLISHED frame of a session. Its tag is 0 and it names the subscription list (DESIGN CHOICE,
notes/assumptions/87.md). -/
def publishedFrame (x : Session) (b : List Byte) : Frame :=
  { transport := x.transport, slot := 0, session := some x.id, seq := 0, version := 1, kind := kindPublished, tag := 0,
    index := 0x1100, sub := 0x40, code := 0, offset := 0, length := BitVec.ofNat 16 b.length, flags := 0, reserved := 0,
    payload := b, check := [] }

/-- R71, R609: one period of a subscription ends. -/
def State.publish (who : Publisher) (s : State) : State :=
  match who with
  | .session id =>
    (match s.session id with
    | none => s
    | some x =>
      let a : Asker := { transport := x.transport, session := some id, role := x.role, glovePair := x.glovePair,
                         officers := x.officers }
      let e := s.entries a 6 (subscribed x.holder.subscription)
      if x.holder.destination = 1 then
        let r := s.sealFrame (publishedFrame x (beOctets 6 s.now ++ e)) (some id)
        r.2.send (.frame r.1)
      else if x.holder.destination = 2 then s.updateWindow e
      else s)
  | .sessionless t =>
    let a : Asker := { transport := t, session := none, role := .observer, glovePair := false, officers := none }
    let h := s.holder a
    if h.destination = 2 then s.updateWindow (s.entries a 6 (subscribed h.subscription)) else s

/-- PUBLISH (R71, R72): publishing pauses during a hot restart (R73). -/
def execPublish (who : Publisher) (s : State) : Host.Outcome State Fault Refusal :=
  .next (s.whenLive (fun s => if s.dict.restarting || s.modes.starting then s else s.publish who))

end Sys2Proof.Machine
end

