-- ==== Sys2Proof/Machine/Dispatch.lean ====
section
/-! DEFINITION. One arm per command: its meaning. -/

namespace Sys2Proof.Machine

/-- The effect of a command on everything but the queue. -/
def exec (i : Instr) (s : State) : Host.Outcome State Fault Refusal :=
  match i with
  | .mainPowerArrives env => Sys2Proof.Machine.execMainPowerArrives env s
  | .bootWatchdogExpiry env => Sys2Proof.Machine.execBootWatchdogExpiry env s
  | .vio33InRange => Sys2Proof.Machine.execVio33InRange s
  | .vauxRise => Sys2Proof.Machine.execVauxRise s
  | .vauxFall => Sys2Proof.Machine.execVauxFall s
  | .pfailNFall => Sys2Proof.Machine.execPfailNFall s
  | .pfailNRise => Sys2Proof.Machine.execPfailNRise s
  | .mainPowerLoss => Sys2Proof.Machine.execMainPowerLoss s
  | .gateEntry => Sys2Proof.Machine.execGateEntry s
  | .channelFlashInit n cs r => Sys2Proof.Machine.execChannelFlashInit n cs r s
  | .prescanBurst n octets => Sys2Proof.Machine.execPrescanBurst n octets s
  | .prescanBurstStall n => Sys2Proof.Machine.execPrescanBurstStall n s
  | .manifestVerification n => Sys2Proof.Machine.execManifestVerification n s
  | .regionVerdict n r => Sys2Proof.Machine.execRegionVerdict n r s
  | .recoveryComplete n r content => Sys2Proof.Machine.execRecoveryComplete n r content s
  | .gateAttestationCutoff => Sys2Proof.Machine.execGateAttestationCutoff s
  | .primaryRecordAppend failedChecks => Sys2Proof.Machine.execPrimaryRecordAppend failedChecks s
  | .primaryRecordLate => Sys2Proof.Machine.execPrimaryRecordLate s
  | .holdRelease => Sys2Proof.Machine.execHoldRelease s
  | .lockstepMismatch p => Sys2Proof.Machine.execLockstepMismatch p s
  | .pairReturnToService p => Sys2Proof.Machine.execPairReturnToService p s
  | .patrolScrubVisit m o => Sys2Proof.Machine.execPatrolScrubVisit m o s
  | .busKeyReplacement => Sys2Proof.Machine.execBusKeyReplacement s
  | .hourlySave => Sys2Proof.Machine.execHourlySave s
  | .dexRead f => Sys2Proof.Machine.execDexRead f s
  | .dexWrite f => Sys2Proof.Machine.execDexWrite f s
  | .forbiddenKindFrame f => Sys2Proof.Machine.execForbiddenKindFrame f s
  | .setupStep1 f => Sys2Proof.Machine.execSetupStep1 f s
  | .setupStep3 f => Sys2Proof.Machine.execSetupStep3 f s
  | .setupTimeout id => Sys2Proof.Machine.execSetupTimeout id s
  | .elevate f => Sys2Proof.Machine.execElevate f s
  | .officerElevation f => Sys2Proof.Machine.execOfficerElevation f s
  | .closeSession f => Sys2Proof.Machine.execCloseSession f s
  | .sessionIdleTimeout id => Sys2Proof.Machine.execSessionIdleTimeout id s
  | .segmentGapTimeout index sub => Sys2Proof.Machine.execSegmentGapTimeout index sub s
  | .dictionaryTickClose => Sys2Proof.Machine.execDictionaryTickClose s
  | .persistCommitDone ok => Sys2Proof.Machine.execPersistCommitDone ok s
  | .cmdAbort f => Sys2Proof.Machine.execCmdAbort f s
  | .publish who => Sys2Proof.Machine.execPublish who s
  | .mailboxDoorbell k value buffer => Sys2Proof.Machine.execMailboxDoorbell k value buffer s
  | .mailboxAck k value => Sys2Proof.Machine.execMailboxAck k value s
  | .networkPacketDrop why => Sys2Proof.Machine.execNetworkPacketDrop why s
  | .icmpv6Echo data => Sys2Proof.Machine.execIcmpv6Echo data s
  | .neighbourDiscovery data => Sys2Proof.Machine.execNeighbourDiscovery data s
  | .modeRequest f => Sys2Proof.Machine.execModeRequest f s
  | .lifecycleAdvance f env => Sys2Proof.Machine.execLifecycleAdvance f env s
  | .commitProvisioning f env => Sys2Proof.Machine.execCommitProvisioning f env s
  | .deviceReset f env => Sys2Proof.Machine.execDeviceReset f env s
  | .hotRestart f => Sys2Proof.Machine.execHotRestart f s
  | .hotRestartComplete env => Sys2Proof.Machine.execHotRestartComplete env s
  | .boardBoot f => Sys2Proof.Machine.execBoardBoot f s
  | .pePerstNAssert flr => Sys2Proof.Machine.execPePerstNAssert flr s
  | .perstBoardBoot => Sys2Proof.Machine.execPerstBoardBoot s
  | .retire f env => Sys2Proof.Machine.execRetire f env s
  | .maintainLimitExpiry => Sys2Proof.Machine.execMaintainLimitExpiry s
  | .ceremonyLimitExpiry => Sys2Proof.Machine.execCeremonyLimitExpiry s
  | .installImage f env => Sys2Proof.Machine.execInstallImage f env s
  | .installFromCard f content env => Sys2Proof.Machine.execInstallFromCard f content env s
  | .functionEnable f => Sys2Proof.Machine.execFunctionEnable f s
  | .functionDisable f => Sys2Proof.Machine.execFunctionDisable f s
  | .functionDrainComplete fn => Sys2Proof.Machine.execFunctionDrainComplete fn s
  | .functionStartComplete fn => Sys2Proof.Machine.execFunctionStartComplete fn s
  | .hostFastRead n cs opcode addr len flash stopped memFault => Sys2Proof.Machine.execHostFastRead n cs opcode addr len flash stopped memFault s
  | .readId n cs => Sys2Proof.Machine.execReadId n cs s
  | .readSfdp n cs addr len => Sys2Proof.Machine.execReadSfdp n cs addr len s
  | .readStatus n cs => Sys2Proof.Machine.execReadStatus n cs s
  | .hostRegisterRead n cs len => Sys2Proof.Machine.execHostRegisterRead n cs len s
  | .writeEnable n cs => Sys2Proof.Machine.execWriteEnable n cs s
  | .writeDisable n cs => Sys2Proof.Machine.execWriteDisable n cs s
  | .hostPageProgram n cs opcode addr data => Sys2Proof.Machine.execHostPageProgram n cs opcode addr data s
  | .hostSectorErase n cs opcode addr => Sys2Proof.Machine.execHostSectorErase n cs opcode addr s
  | .hostSuspend n cs => Sys2Proof.Machine.execHostSuspend n cs s
  | .hostResume n cs => Sys2Proof.Machine.execHostResume n cs s
  | .setHostProtocol n cs data => Sys2Proof.Machine.execSetHostProtocol n cs data s
  | .enter4Byte n cs => Sys2Proof.Machine.execEnter4Byte n cs s
  | .exit4Byte n cs => Sys2Proof.Machine.execExit4Byte n cs s
  | .resetEnable n cs => Sys2Proof.Machine.execResetEnable n cs s
  | .softReset n cs => Sys2Proof.Machine.execSoftReset n cs s
  | .deepPowerDown n cs => Sys2Proof.Machine.execDeepPowerDown n cs s
  | .releaseDeepPowerDown n cs => Sys2Proof.Machine.execReleaseDeepPowerDown n cs s
  | .chipErase n cs => Sys2Proof.Machine.execChipErase n cs s
  | .hostRegisterWrite n cs opcode => Sys2Proof.Machine.execHostRegisterWrite n cs opcode s
  | .hostUnknownCommand n cs opcode => Sys2Proof.Machine.execHostUnknownCommand n cs opcode s
  | .hostProtocolError n => Sys2Proof.Machine.execHostProtocolError n s
  | .hostClockExcess n cs kHz => Sys2Proof.Machine.execHostClockExcess n cs kHz s
  | .forwardedOpComplete n cs => Sys2Proof.Machine.execForwardedOpComplete n cs s
  | .pinnedReloadComplete n r content => Sys2Proof.Machine.execPinnedReloadComplete n r content s
  | .dqsRetrain n cs taps tapSize => Sys2Proof.Machine.execDqsRetrain n cs taps tapSize s
  | .channelLogicError n => Sys2Proof.Machine.execChannelLogicError n s
  | .channelRestartComplete n r0 r1 => Sys2Proof.Machine.execChannelRestartComplete n r0 r1 s
  | .haltOverride f => Sys2Proof.Machine.execHaltOverride f s
  | .manifestWrite f => Sys2Proof.Machine.execManifestWrite f s
  | .fillIn n octets => Sys2Proof.Machine.execFillIn n octets s
  | .roundAgeVisit n => Sys2Proof.Machine.execRoundAgeVisit n s
  | .sweep f => Sys2Proof.Machine.execSweep f s
  | .i3cDiscovery found => Sys2Proof.Machine.execI3cDiscovery found s
  | .discoveryTimeout => Sys2Proof.Machine.execDiscoveryTimeout s
  | .hotJoin identity => Sys2Proof.Machine.execHotJoin identity s
  | .endpointIdAssigned eid => Sys2Proof.Machine.execEndpointIdAssigned eid s
  | .spdmResponse slot reply octets => Sys2Proof.Machine.execSpdmResponse slot reply octets s
  | .spdmTimeout slot => Sys2Proof.Machine.execSpdmTimeout slot s
  | .spdmRetryWait slot => Sys2Proof.Machine.execSpdmRetryWait slot s
  | .spdmSlotTimeLimit slot => Sys2Proof.Machine.execSpdmSlotTimeLimit slot s
  | .serveCollectionWindowExpiry => Sys2Proof.Machine.execServeCollectionWindowExpiry s
  | .closeServeCollection f => Sys2Proof.Machine.execCloseServeCollection f s
  | .attestationHoldOverride f => Sys2Proof.Machine.execAttestationHoldOverride f s
  | .getVersion port request => Sys2Proof.Machine.execGetVersion port request s
  | .getCapabilities port request => Sys2Proof.Machine.execGetCapabilities port request s
  | .negotiateAlgorithms port request asyms hashes => Sys2Proof.Machine.execNegotiateAlgorithms port request asyms hashes s
  | .getDigests port request => Sys2Proof.Machine.execGetDigests port request s
  | .getCertificate port request slot offset len => Sys2Proof.Machine.execGetCertificate port request slot offset len s
  | .challenge port request slot summary => Sys2Proof.Machine.execChallenge port request slot summary s
  | .getMeasurements port request index signed => Sys2Proof.Machine.execGetMeasurements port request index signed s
  | .respondIfReady port request => Sys2Proof.Machine.execRespondIfReady port request s
  | .spdmUnsupportedRequest port request => Sys2Proof.Machine.execSpdmUnsupportedRequest port request s
  | .doeDiscovery index => Sys2Proof.Machine.execDoeDiscovery index s
  | .supplementPendingTimeout => Sys2Proof.Machine.execSupplementPendingTimeout s
  | .supplementPeriodExpiry => Sys2Proof.Machine.execSupplementPeriodExpiry s
  | .supplementRequest f => Sys2Proof.Machine.execSupplementRequest f s
  | .ledgerSignaturesVerified failedChecks => Sys2Proof.Machine.execLedgerSignaturesVerified failedChecks s
  | .ledgerRoomAvailable => Sys2Proof.Machine.execLedgerRoomAvailable s
  | .ledgerCommit ok => Sys2Proof.Machine.execLedgerCommit ok s
  | .ledgerPreErase => Sys2Proof.Machine.execLedgerPreErase s
  | .ledgerKeyRollover f => Sys2Proof.Machine.execLedgerKeyRollover f s
  | .acknowledgeExport f => Sys2Proof.Machine.execAcknowledgeExport f s
  | .windowCursorWrite f => Sys2Proof.Machine.execWindowCursorWrite f s
  | .windowRecordRead f => Sys2Proof.Machine.execWindowRecordRead f s
  | .ringCtrlWrite r reg value => Sys2Proof.Machine.execRingCtrlWrite r reg value s
  | .ringConsWrite r value => Sys2Proof.Machine.execRingConsWrite r value s
  | .ringFrameWrite => Sys2Proof.Machine.execRingFrameWrite s
  | .tagSummaryWrite held => Sys2Proof.Machine.execTagSummaryWrite held s
  | .tagSummaryRetry held => Sys2Proof.Machine.execTagSummaryRetry held s
  | .jhSubmit p l => Sys2Proof.Machine.execJhSubmit p l s
  | .jhPop p l => Sys2Proof.Machine.execJhPop p l s
  | .jhAbort p l value => Sys2Proof.Machine.execJhAbort p l value s
  | .jhQuery p l value => Sys2Proof.Machine.execJhQuery p l value s
  | .jhTake p l => Sys2Proof.Machine.execJhTake p l s
  | .jhCurrent p l value => Sys2Proof.Machine.execJhCurrent p l value s
  | .jhDone p l value => Sys2Proof.Machine.execJhDone p l value s
  | .jhCheckpoint p l value => Sys2Proof.Machine.execJhCheckpoint p l value s
  | .jobPlacement cls => Sys2Proof.Machine.execJobPlacement cls s
  | .engineCompletion r => Sys2Proof.Machine.execEngineCompletion r s
  | .jobSuspension slot octets => Sys2Proof.Machine.execJobSuspension slot octets s
  | .urgencyAging => Sys2Proof.Machine.execUrgencyAging s
  | .jobRunTimeout slot => Sys2Proof.Machine.execJobRunTimeout slot s
  | .keyWaitExpiry => Sys2Proof.Machine.execKeyWaitExpiry s
  | .laneFault lane => Sys2Proof.Machine.execLaneFault lane s
  | .laneSelfTest lane pass => Sys2Proof.Machine.execLaneSelfTest lane pass s
  | .runLaneSelfTest f => Sys2Proof.Machine.execRunLaneSelfTest f s
  | .unitFault unit => Sys2Proof.Machine.execUnitFault unit s
  | .unitSelfTest unit pass => Sys2Proof.Machine.execUnitSelfTest unit pass s
  | .runUnitSelfTest f => Sys2Proof.Machine.execRunUnitSelfTest f s
  | .loadableCurveWrite f => Sys2Proof.Machine.execLoadableCurveWrite f s
  | .kuLoad p l => Sys2Proof.Machine.execKuLoad p l s
  | .kuWrap p l => Sys2Proof.Machine.execKuWrap p l s
  | .kuGenerate p l => Sys2Proof.Machine.execKuGenerate p l s
  | .kuDerive p l => Sys2Proof.Machine.execKuDerive p l s
  | .kuClear p l => Sys2Proof.Machine.execKuClear p l s
  | .kuInfo p l => Sys2Proof.Machine.execKuInfo p l s
  | .kuPublic p l => Sys2Proof.Machine.execKuPublic p l s
  | .kuImport p l => Sys2Proof.Machine.execKuImport p l s
  | .kuAbort p l => Sys2Proof.Machine.execKuAbort p l s
  | .keyExpiry slot => Sys2Proof.Machine.execKeyExpiry slot s
  | .advanceBlobGeneration f => Sys2Proof.Machine.execAdvanceBlobGeneration f s
  | .raiseMinimumGeneration f => Sys2Proof.Machine.execRaiseMinimumGeneration f s
  | .zeroise f => Sys2Proof.Machine.execZeroise f s
  | .entTake p l => Sys2Proof.Machine.execEntTake p l s
  | .entropyWaitTimeout p => Sys2Proof.Machine.execEntropyWaitTimeout p s
  | .rawBlockComplete cell bits => Sys2Proof.Machine.execRawBlockComplete cell bits s
  | .drbgInstantiate katPass => Sys2Proof.Machine.execDrbgInstantiate katPass s
  | .drbgReseed => Sys2Proof.Machine.execDrbgReseed s
  | .drbgGenerate => Sys2Proof.Machine.execDrbgGenerate s
  | .testPatternEnable f => Sys2Proof.Machine.execTestPatternEnable f s
  | .rawCapture f bits => Sys2Proof.Machine.execRawCapture f bits s
  | .sensorSample x => Sys2Proof.Machine.execSensorSample x s
  | .switchDebounceExpiry x level => Sys2Proof.Machine.execSwitchDebounceExpiry x level s
  | .vcoreGlitch => Sys2Proof.Machine.execVcoreGlitch s
  | .sensorRecalibration k ca cb => Sys2Proof.Machine.execSensorRecalibration k ca cb s
  | .vigilTick => Sys2Proof.Machine.execVigilTick s
  | .vigilSample x => Sys2Proof.Machine.execVigilSample x s
  | .vigilAckTimeout source => Sys2Proof.Machine.execVigilAckTimeout source s
  | .responseChange f => Sys2Proof.Machine.execResponseChange f s
  | .clearRestraint f => Sys2Proof.Machine.execClearRestraint f s
  | .unlock f => Sys2Proof.Machine.execUnlock f s
  | .cellChangeWindow f vauxInRange => Sys2Proof.Machine.execCellChangeWindow f vauxInRange s
  | .cellWindowExpiry => Sys2Proof.Machine.execCellWindowExpiry s
  | .cellRestored => Sys2Proof.Machine.execCellRestored s
  | .eventLogFlush failedRow => Sys2Proof.Machine.execEventLogFlush failedRow s
  | .flush f => Sys2Proof.Machine.execFlush f s
  | .flushAgeExpiry => Sys2Proof.Machine.execFlushAgeExpiry s
  | .eventCursorWrite f => Sys2Proof.Machine.execEventCursorWrite f s
  | .eventWindowRead f => Sys2Proof.Machine.execEventWindowRead f s
  | .eventAcknowledgeExport f => Sys2Proof.Machine.execEventAcknowledgeExport f s
  | .verifyChain f => Sys2Proof.Machine.execVerifyChain f s
  | .eventRingEntryWrite => Sys2Proof.Machine.execEventRingEntryWrite s
  | .opAdd p rd ra rb => Sys2Proof.Machine.execOpAdd p rd ra rb s
  | .opAddc p rd ra rb => Sys2Proof.Machine.execOpAddc p rd ra rb s
  | .opSub p rd ra rb => Sys2Proof.Machine.execOpSub p rd ra rb s
  | .opSubb p rd ra rb => Sys2Proof.Machine.execOpSubb p rd ra rb s
  | .opAnd p rd ra rb => Sys2Proof.Machine.execOpAnd p rd ra rb s
  | .opOr p rd ra rb => Sys2Proof.Machine.execOpOr p rd ra rb s
  | .opXor p rd ra rb => Sys2Proof.Machine.execOpXor p rd ra rb s
  | .opAndn p rd ra rb => Sys2Proof.Machine.execOpAndn p rd ra rb s
  | .opShl p rd ra rb => Sys2Proof.Machine.execOpShl p rd ra rb s
  | .opShr p rd ra rb => Sys2Proof.Machine.execOpShr p rd ra rb s
  | .opSar p rd ra rb => Sys2Proof.Machine.execOpSar p rd ra rb s
  | .opRol p rd ra rb => Sys2Proof.Machine.execOpRol p rd ra rb s
  | .opSlt p rd ra rb => Sys2Proof.Machine.execOpSlt p rd ra rb s
  | .opSltu p rd ra rb => Sys2Proof.Machine.execOpSltu p rd ra rb s
  | .opSel p rd ra rb => Sys2Proof.Machine.execOpSel p rd ra rb s
  | .opClz p rd ra rb => Sys2Proof.Machine.execOpClz p rd ra rb s
  | .opOdif p rd ra rb => Sys2Proof.Machine.execOpOdif p rd ra rb s
  | .opOadd p rd ra rb => Sys2Proof.Machine.execOpOadd p rd ra rb s
  | .opAddi p rd ra imm => Sys2Proof.Machine.execOpAddi p rd ra imm s
  | .opAndi p rd ra imm => Sys2Proof.Machine.execOpAndi p rd ra imm s
  | .opOri p rd ra imm => Sys2Proof.Machine.execOpOri p rd ra imm s
  | .opXori p rd ra imm => Sys2Proof.Machine.execOpXori p rd ra imm s
  | .opShi p rd ra imm => Sys2Proof.Machine.execOpShi p rd ra imm s
  | .opMovi p rd imm => Sys2Proof.Machine.execOpMovi p rd imm s
  | .opMovhi p rd imm => Sys2Proof.Machine.execOpMovhi p rd imm s
  | .opOaddi p rd ra imm => Sys2Proof.Machine.execOpOaddi p rd ra imm s
  | .opLdw p rd ra disp bus => Sys2Proof.Machine.execOpLdw p rd ra disp bus s
  | .opLdh p rd ra disp bus => Sys2Proof.Machine.execOpLdh p rd ra disp bus s
  | .opLdhs p rd ra disp bus => Sys2Proof.Machine.execOpLdhs p rd ra disp bus s
  | .opLdo p rd ra disp bus => Sys2Proof.Machine.execOpLdo p rd ra disp bus s
  | .opLdos p rd ra disp bus => Sys2Proof.Machine.execOpLdos p rd ra disp bus s
  | .opStw p rs ra disp bus => Sys2Proof.Machine.execOpStw p rs ra disp bus s
  | .opSth p rs ra disp bus => Sys2Proof.Machine.execOpSth p rs ra disp bus s
  | .opSto p rs ra disp bus => Sys2Proof.Machine.execOpSto p rs ra disp bus s
  | .opBeq p ra rb disp => Sys2Proof.Machine.execOpBeq p ra rb disp s
  | .opBne p ra rb disp => Sys2Proof.Machine.execOpBne p ra rb disp s
  | .opBlt p ra rb disp => Sys2Proof.Machine.execOpBlt p ra rb disp s
  | .opBge p ra rb disp => Sys2Proof.Machine.execOpBge p ra rb disp s
  | .opBltu p ra rb disp => Sys2Proof.Machine.execOpBltu p ra rb disp s
  | .opBgeu p ra rb disp => Sys2Proof.Machine.execOpBgeu p ra rb disp s
  | .opBz p ra disp => Sys2Proof.Machine.execOpBz p ra disp s
  | .opBnz p ra disp => Sys2Proof.Machine.execOpBnz p ra disp s
  | .opBcy p ra disp => Sys2Proof.Machine.execOpBcy p ra disp s
  | .opBnc p ra disp => Sys2Proof.Machine.execOpBnc p ra disp s
  | .opBneg p ra disp => Sys2Proof.Machine.execOpBneg p ra disp s
  | .opBpos p ra disp => Sys2Proof.Machine.execOpBpos p ra disp s
  | .opBr p disp => Sys2Proof.Machine.execOpBr p disp s
  | .opCall p disp => Sys2Proof.Machine.execOpCall p disp s
  | .opCallr p ra => Sys2Proof.Machine.execOpCallr p ra s
  | .opJr p ra => Sys2Proof.Machine.execOpJr p ra s
  | .opRet p => Sys2Proof.Machine.execOpRet p s
  | .opLoop p set rc e => Sys2Proof.Machine.execOpLoop p set rc e s
  | .opLoopi p set n e => Sys2Proof.Machine.execOpLoopi p set n e s
  | .opLoopx p imm => Sys2Proof.Machine.execOpLoopx p imm s
  | .opMul p rd ra rb => Sys2Proof.Machine.execOpMul p rd ra rb s
  | .opMulhu p rd ra rb => Sys2Proof.Machine.execOpMulhu p rd ra rb s
  | .opMulhs p rd ra rb => Sys2Proof.Machine.execOpMulhs p rd ra rb s
  | .opMfmh p rd => Sys2Proof.Machine.execOpMfmh p rd s
  | .opMtmh p ra => Sys2Proof.Machine.execOpMtmh p ra s
  | .opMadd p rd ra rb rc => Sys2Proof.Machine.execOpMadd p rd ra rb rc s
  | .opMovo p count => Sys2Proof.Machine.execOpMovo p count s
  | .opMovod p count => Sys2Proof.Machine.execOpMovod p count s
  | .opMovw p count => Sys2Proof.Machine.execOpMovw p count s
  | .opFillo p ra count => Sys2Proof.Machine.execOpFillo p ra count s
  | .opFillw p ra count => Sys2Proof.Machine.execOpFillw p ra count s
  | .opSys p imm => Sys2Proof.Machine.execOpSys p imm s
  | .opEret p => Sys2Proof.Machine.execOpEret p s
  | .opSetml p imm => Sys2Proof.Machine.execOpSetml p imm s
  | .opMfsr p rd imm => Sys2Proof.Machine.execOpMfsr p rd imm s
  | .opMtsr p imm ra => Sys2Proof.Machine.execOpMtsr p imm ra s
  | .opFence p => Sys2Proof.Machine.execOpFence p s
  | .opIfence p => Sys2Proof.Machine.execOpIfence p s
  | .opGfence p => Sys2Proof.Machine.execOpGfence p s
  | .opWait p => Sys2Proof.Machine.execOpWait p s
  | .opBrk p imm => Sys2Proof.Machine.execOpBrk p imm s
  | .opPush p ra => Sys2Proof.Machine.execOpPush p ra s
  | .opPop p rd => Sys2Proof.Machine.execOpPop p rd s
  | .opRsspill p imm => Sys2Proof.Machine.execOpRsspill p imm s
  | .illegalInstruction p parcel0 parcel1 => Sys2Proof.Machine.execIllegalInstruction p parcel0 parcel1 s
  | .interrupt p => Sys2Proof.Machine.execInterrupt p s
  | .iclear p l value => Sys2Proof.Machine.execIclear p l value s
  | .doorbell p l value => Sys2Proof.Machine.execDoorbell p l value s
  | .timerExpiry p t => Sys2Proof.Machine.execTimerExpiry p t s
  | .pcovfWrite p l value => Sys2Proof.Machine.execPcovfWrite p l value s
  | .gauntletRuleWrite p l gate rule value => Sys2Proof.Machine.execGauntletRuleWrite p l gate rule value s
  | .gateFence f => Sys2Proof.Machine.execGateFence f s
  | .fcKey p value => Sys2Proof.Machine.execFcKey p value s
  | .wordProgram via => Sys2Proof.Machine.execWordProgram via s
  | .rowProgram via => Sys2Proof.Machine.execRowProgram via s
  | .sectorErase via => Sys2Proof.Machine.execSectorErase via s
  | .eraseSuspend via => Sys2Proof.Machine.execEraseSuspend via s
  | .eraseResume via => Sys2Proof.Machine.execEraseResume via s
  | .retireWord via => Sys2Proof.Machine.execRetireWord via s
  | .marginRead via => Sys2Proof.Machine.execMarginRead via s
  | .counterIncrement via => Sys2Proof.Machine.execCounterIncrement via s
  | .counterSet via => Sys2Proof.Machine.execCounterSet via s
  | .optionRewrite via => Sys2Proof.Machine.execOptionRewrite via s
  | .flashLifecycleAdvance via => Sys2Proof.Machine.execFlashLifecycleAdvance via s
  | .fcAbort p => Sys2Proof.Machine.execFcAbort p s
  | .fqTailWrite p value => Sys2Proof.Machine.execFqTailWrite p value s
  | .fqAbort p value => Sys2Proof.Machine.execFqAbort p value s
  | .flashOperationComplete bank e => Sys2Proof.Machine.execFlashOperationComplete bank e s
  | .periodicMarginRead failing corrected => Sys2Proof.Machine.execPeriodicMarginRead failing corrected s
  | .marginPass f => Sys2Proof.Machine.execMarginPass f s
  | .reqa => Sys2Proof.Machine.execReqa s
  | .wupa => Sys2Proof.Machine.execWupa s
  | .anticollision level bits => Sys2Proof.Machine.execAnticollision level bits s
  | .tagSelect level uid => Sys2Proof.Machine.execTagSelect level uid s
  | .hlta => Sys2Proof.Machine.execHlta s
  | .rats => Sys2Proof.Machine.execRats s
  | .pps => Sys2Proof.Machine.execPps s
  | .rBlock ack number => Sys2Proof.Machine.execRBlock ack number s
  | .sDeselect => Sys2Proof.Machine.execSDeselect s
  | .doff => Sys2Proof.Machine.execDoff s
  | .apduSelect aid => Sys2Proof.Machine.execApduSelect aid s
  | .readRecord r => Sys2Proof.Machine.execReadRecord r s
  | .writeRecord r data more => Sys2Proof.Machine.execWriteRecord r data more s
  | .directory => Sys2Proof.Machine.execDirectory s
  | .envelope f => Sys2Proof.Machine.execEnvelope f s
  | .unknownApdu => Sys2Proof.Machine.execUnknownApdu s
  | .fieldOn => Sys2Proof.Machine.execFieldOn s
  | .fieldLoss => Sys2Proof.Machine.execFieldLoss s
  | .doffDeadline => Sys2Proof.Machine.execDoffDeadline s
  | .endDoff f => Sys2Proof.Machine.execEndDoff f s
  | .wiredRecordWrite f held => Sys2Proof.Machine.execWiredRecordWrite f held s
  | .readerPoll external tokens => Sys2Proof.Machine.execReaderPoll external tokens s
  | .tokenAuthentication t => Sys2Proof.Machine.execTokenAuthentication t s
  | .presentationTimeout => Sys2Proof.Machine.execPresentationTimeout s
  | .rosterAdd f => Sys2Proof.Machine.execRosterAdd f s
  | .rosterRevoke f => Sys2Proof.Machine.execRosterRevoke f s
  | .cardInsertion k c => Sys2Proof.Machine.execCardInsertion k c s
  | .cardRemoval k answers => Sys2Proof.Machine.execCardRemoval k answers s
  | .cardArchive => Sys2Proof.Machine.execCardArchive s
  | .cardWriteBusyEnd => Sys2Proof.Machine.execCardWriteBusyEnd s
  | .cardStatusResponse r => Sys2Proof.Machine.execCardStatusResponse r s
  | .cardBusyTimeout => Sys2Proof.Machine.execCardBusyTimeout s
  | .journalResolution index content rewriteOk => Sys2Proof.Machine.execJournalResolution index content rewriteOk s
  | .prepareCard f => Sys2Proof.Machine.execPrepareCard f s
  | .stageImage f => Sys2Proof.Machine.execStageImage f s
  | .islandEntry x idle => Sys2Proof.Machine.execIslandEntry x idle s
  | .islandWake x => Sys2Proof.Machine.execIslandWake x s
  | .islandExitComplete x => Sys2Proof.Machine.execIslandExitComplete x s
  | .hostLatencyToleranceWrite f => Sys2Proof.Machine.execHostLatencyToleranceWrite f s
  | .reportedLtrWrite f => Sys2Proof.Machine.execReportedLtrWrite f s
  | .referenceClockLoss => Sys2Proof.Machine.execReferenceClockLoss s
  | .referenceClockReturn inRange => Sys2Proof.Machine.execReferenceClockReturn inRange s
  | .pllLossOfLock => Sys2Proof.Machine.execPllLossOfLock s
  | .pllRelock => Sys2Proof.Machine.execPllRelock s
  | .crystalStop => Sys2Proof.Machine.execCrystalStop s
  | .pcieRefclockLoss => Sys2Proof.Machine.execPcieRefclockLoss s
  | .vigilCopyCheck => Sys2Proof.Machine.execVigilCopyCheck s
  | .crystalMeasurement count meanA0 => Sys2Proof.Machine.execCrystalMeasurement count meanA0 s
  | .trimUpdate => Sys2Proof.Machine.execTrimUpdate s
  | .slew f => Sys2Proof.Machine.execSlew f s
  | .slewStep => Sys2Proof.Machine.execSlewStep s
  | .setVigilTime f => Sys2Proof.Machine.execSetVigilTime f s
  | .snapshot f => Sys2Proof.Machine.execSnapshot f s
  | .performanceDump => Sys2Proof.Machine.execPerformanceDump s
  | .freezePin lowNs => Sys2Proof.Machine.execFreezePin lowNs s
  | .freeze f => Sys2Proof.Machine.execFreeze f s
  | .freezeCommandDelay => Sys2Proof.Machine.execFreezeCommandDelay s
  | .readoutRead addr count => Sys2Proof.Machine.execReadoutRead addr count s
  | .readoutRelease addr env => Sys2Proof.Machine.execReadoutRelease addr env s
  | .readoutUnknownCommand command => Sys2Proof.Machine.execReadoutUnknownCommand command s
  | .registerWrite r value => Sys2Proof.Machine.execRegisterWrite r value s
  | .pcieLinkUp ltr => Sys2Proof.Machine.execPcieLinkUp ltr s
  | .pcieLinkL1Transition enter => Sys2Proof.Machine.execPcieLinkL1Transition enter s
  | .xt32Return => Sys2Proof.Machine.execXt32Return s
  | .vigilSupplyLoss lost => Sys2Proof.Machine.execVigilSupplyLoss lost s
  | .pairJobAbortBound slot => Sys2Proof.Machine.execPairJobAbortBound slot s
  | .eraseMinimumRunExpiry bank => Sys2Proof.Machine.execEraseMinimumRunExpiry bank s
  | .faultInjectionCanary block => Sys2Proof.Machine.execFaultInjectionCanary block s
  | .boundaryScan tms tdi => Sys2Proof.Machine.execBoundaryScan tms tdi s
  | .mctpControlResponse r => Sys2Proof.Machine.execMctpControlResponse r s

end Sys2Proof.Machine
end

