-- ==== Sys2Proof/Safety.lean ====
section
/-! DEFINITION. What counts as a safe step of this block, and the terms in which the statements speak: what a command object's
row writes, what an instruction finds when it issues, what the memories' canonical form is. -/

namespace Sys2Proof.Machine

/-- The step answers a next state: neither a fault nor a refusal. -/
def Safe (s : State) : Prop := ∃ t, step s = .next t

/-- The command answers a next state of which something holds. -/
def Completes (c : Instr) (s : State) (post : State → Prop) : Prop := ∃ t, exec c s = .next t ∧ post t

/-! ## Memories -/

/-- Every addressed memory of the block keeps its canonical form: the commons, the pairs' memories and what their fetch sees,
the mailbox request buffers. -/
def State.memoriesCanonical (s : State) : Prop :=
  memWf s.commons = true ∧ (∀ p : Fin 4, memWf s.pairs[p].mem = true ∧ memWf s.pairs[p].fetched = true) ∧
    ∀ k : Fin 4, memWf s.dict.mailbox[k].reqBuf = true

/-! ## Command objects (R46) -/

/-- The frame, the object and the action of a row that is a write of a CMD object. -/
def cmdRow : Instr → Option (Frame × Nat × Action)
  | .closeSession f => some (f, okey 0x1100 0x21, closeAction)
  | .officerElevation f => some (f, okey 0x1100 0x20, elevationAction)
  | .modeRequest f => some (f, modeRequestKey, modeRequestAction)
  | .lifecycleAdvance f env => some (f, okey 0x1200 4, lifecycleAction env)
  | .commitProvisioning f env => some (f, okey 0x1200 5, commitAction env)
  | .deviceReset (some f) env => some (f, okey 0x1200 6, resetAction env)
  | .hotRestart f => some (f, hotRestartKey, hotRestartAction)
  | .boardBoot f => some (f, okey 0x1200 8, boardBootAction f)
  | .retire f env => some (f, retireKey, retireAction env)
  | .installImage f env => some (f, okey 0x7000 4, installAction env)
  | .installFromCard f content env => some (f, okey 0x7000 5, cardInstallAction content env)
  | .functionEnable f => (fnOfIndex f.index.toNat).map (fun i => (f, fnEnable i, enableAction i))
  | .functionDisable f => (fnOfIndex f.index.toNat).map (fun i => (f, fnDisable i, disableAction i))
  | .haltOverride f => (chanOfIndex f.index.toNat).map (fun n => (f, ckey 2 n 5, haltOverrideAction n))
  | .sweep f => some (f, okey 0x2C00 0x20, sweepAction)
  | .closeServeCollection f => some (f, okey 0x3000 0x21, closeCollectionAction)
  | .attestationHoldOverride f => some (f, okey 0x3000 0x20, attestationOverrideAction)
  | .supplementRequest f => some (f, supplementKey, supplementAction)
  | .ledgerKeyRollover f => some (f, rolloverKey, rolloverAction)
  | .acknowledgeExport f => some (f, okey 0x3100 0x13, acknowledgeAction)
  | .runLaneSelfTest f => some (f, okey 0x4100 4, runLanesAction)
  | .runUnitSelfTest f => some (f, okey 0x4200 4, runUnitsAction)
  | .advanceBlobGeneration f => some (f, okey 0x5000 0x20, advanceGenerationAction)
  | .raiseMinimumGeneration f => some (f, okey 0x5000 0x21, raiseMinimumAction)
  | .zeroise f => some (f, okey 0x5000 0x22, zeroiseAction)
  | .clearRestraint f => some (f, okey 0x6100 0x20, clearRestraintAction)
  | .unlock f => some (f, okey 0x6100 0x30, unlockAction)
  | .cellChangeWindow f vauxInRange => some (f, okey 0x6100 0x40, cellWindowAction vauxInRange)
  | .flush f => some (f, okey 0x6200 5, flushAction)
  | .eventAcknowledgeExport f => some (f, okey 0x6200 6, ackEventsAction)
  | .verifyChain f => some (f, okey 0x6200 0x0B, verifyAction)
  | .snapshot f => some (f, okey 0x7100 1, snapshotAction)
  | .gateFence f => some (f, okey 0x7200 0x10, gateFenceAction)
  | .marginPass f => some (f, okey 0x7300 0x10, marginPassAction)
  | .endDoff f => some (f, okey 0x8000 9, endDoffAction)
  | .rosterAdd f => some (f, okey 0x8000 0x23, rosterAddAction)
  | .rosterRevoke f => some (f, okey 0x8000 0x24, rosterRevokeAction)
  | .prepareCard f => some (f, okey 0x8200 0x20, prepareAction)
  | .stageImage f => some (f, okey 0x8200 0x21, stageAction)
  | .setVigilTime f => some (f, okey 0x9000 2, setTimeAction)
  | .slew f => some (f, okey 0x9000 7, slewAction)
  | _ => none

/-- A write frame of the CMD object `key` passes the rows of R608 on object, reach, role, length and value: `a` asks, `v` is
the whole value, `r` the state in which the action may begin. -/
def State.CmdAdmitted (s : State) (key : Nat) (f : Frame) (x : Action) (a : Asker) (v : List Byte) (r : State) : Prop :=
  f.kind = kindWrite ∧ f.key = key ∧ ∃ q p d n, s.receive f = (q, .request a p) ∧ q.outOfTarget key p = false ∧
    q.writeAdmitted a key = .ok d ∧ q.assemble a d f p x.arg = .whole v n ∧ r = (q.countEnvelope n).endSegment key

/-- The state in which an action of `key` runs: its object reads Busy, its response has gone out with OK. -/
def State.cmdStarted (r : State) (key : Nat) (f : Frame) (a : Asker) : State :=
  ((r.setCmd key cmdBusy 0).touch a key).answer f codeOk

/-- The frame, the objects and the tag record that a field command holds, of a row that is a write of objects. -/
def writeRow : Instr → Option (Frame × (Nat → Bool) × Option (Fin 32))
  | .dexWrite f => some (f, fun _ => true, none)
  | .manifestWrite f =>
    some (f, fun k => (chanGroup k).any (fun e => e.2 == 1) && 1 ≤ k % 256 && k % 256 ≤ 8, none)
  | .windowCursorWrite f => some (f, fun k => k == okey 0x3100 0x10, none)
  | .loadableCurveWrite f => some (f, fun k => okey 0x4200 0x10 ≤ k && k ≤ okey 0x4200 0x17, none)
  | .testPatternEnable f => some (f, fun k => k == okey 0x5100 0x11, none)
  | .responseChange f => some (f, fun k => k == okey 0x6100 1, none)
  | .eventCursorWrite f => some (f, fun k => k == okey 0x6200 3, none)
  | .wiredRecordWrite f held => some (f, fun k => okey 0x8100 0x20 ≤ k && k ≤ okey 0x8100 0x3F, held)
  | .hostLatencyToleranceWrite f => some (f, fun k => k == okey 0x1300 1, none)
  | .reportedLtrWrite f => some (f, fun k => k == okey 0x1300 4, none)
  | _ => none

/-! ## Instructions of a pair (R438 to R449) -/

/-- The pair issues an instruction of n parcels and a kind: no interrupt comes first, its fetch is admitted, and it stands
where it may. -/
def State.Issues (s : State) (p : Fin 4) (n : Nat) (k : OpKind) : Prop :=
  s.mayIssue p k = true ∧ s.fetchTrap p n = none ∧ s.pairs[p].misplaced k = false

/-- An instruction of n parcels left the pair's registers and writes in flight as q, and completes, in a delay slot with its
branch. -/
def State.afterOp (s : State) (p : Fin 4) (n : Nat) (q : Pair) : State :=
  (s.onPair p (fun _ => q)).complete p n s.pairs[p].branch

/-- No write in flight names general register n as the level sees it. -/
def Pair.quiet (q : Pair) (n : Fin 16) : Prop := ∀ e ∈ q.inFlight, e.target ≠ .g n

/-- Two states agree on memory outside the octet pointers of one word address of a pair's memory or of the commons. -/
def sameMemoryExcept (s t : State) (p : Fin 4) (addr : Nat) : Prop :=
  (∀ a, a / 8 ≠ addr → memGet t.pairs[p].mem a = memGet s.pairs[p].mem a ∧ memGet t.commons a = memGet s.commons a) ∧
    ∀ o : Fin 4, o ≠ p → t.pairs[o].mem = s.pairs[o].mem

end Sys2Proof.Machine
end

