-- ==== Sys2Proof/Certificates/Slice0/Obligations.lean ====
section
/-! DEFINITION. The statements for the provers, by chapter. Each docstring names the rules it formalises. -/

open Sys2Proof Sys2Proof.Machine

/-! ## The block -/

/-- A step runs the command at the front of the queue on the state with the queue's rest. -/
def Obligations.StepRunsFrontCommand : Prop :=
  ∀ (c : Instr) (rest : List Instr) (s : State), step { s with pending := c :: rest } = exec c { s with pending := rest }

/-- The model's choice (notes/assumptions/1.md): on an empty queue the block idles. What State.reset holds: an unpowered part; the
values are the model's (notes/assumptions/88.md). -/
def Obligations.ResetAndIdleAreTheModels : Prop :=
  (∀ s : State, s.pending = [] → step s = .next s) ∧
  (State.reset.modes.mainPower = false ∧ State.reset.modes.mode = .vigil ∧ State.reset.modes.starting = false ∧
   State.reset.vigil.vaux = false ∧ (∀ h : Fin 16, State.reset.modes.holds[h] = .hiZ) ∧
   (∀ p : Fin 4, State.reset.pairs[p].inService = false) ∧ State.reset.commons = [] ∧ State.reset.pending = [])

/-- No command adds to the queue or takes from it, whatever the state. -/
def Obligations.CommandsKeepTheQueue : Prop := ∀ (c : Instr) (s t : State), exec c s = .next t → t.pending = s.pending

/-- The memories are canonical in the state after reset. -/
def Obligations.ResetMemoriesCanonical : Prop := State.reset.memoriesCanonical

/-- Every step keeps the canonical form of the commons, of the pairs' memories and of the mailbox buffers. -/
def Obligations.StepKeepsMemoriesCanonical : Prop :=
  ∀ s t : State, s.memoriesCanonical → step s = .next t → t.memoriesCanonical

/-! ## Command objects (R46, R47, R608) -/

/-- R46: an admitted write of a command object whose action the object's chapter does not refuse starts it: the object reads
Busy and the response carries OK before the action runs, and the action's end decides what the object reads after it. R46, R608:
an admitted write of a command object that is Busy is answered BUSY, a second one in a tick OBJECT_CONTENDED and counted, and
one that the object's chapter refuses with its code; nothing else happens. Where the spec is open it states the model's choice
(notes/assumptions/9.md). -/
def Obligations.CommandObjectsStartOrRefuse : Prop :=
  (∀ (c : Instr) (f : Frame) (key : Nat) (x : Action) (s r : State) (a : Asker) (v : List Byte),
     cmdRow c = some (f, key, x) → s.CmdAdmitted key f x a v r → r.busy key = false → r.alreadyWritten key = false →
     x.guard a v r = 0 → exec c s = .next (State.conclude key (x.act a v (r.cmdStarted key f a)))) ∧
  (∀ (c : Instr) (f : Frame) (key : Nat) (x : Action) (s r : State) (a : Asker) (v : List Byte),
     cmdRow c = some (f, key, x) → s.CmdAdmitted key f x a v r →
     (r.busy key = true → exec c s = .next (r.answer f busyCode)) ∧
     (r.busy key = false → r.alreadyWritten key = true →
       exec c s = .next ((r.bump (okey 0x1100 3)).answer f objectContended)) ∧
     (r.busy key = false → r.alreadyWritten key = false → x.guard a v r ≠ 0 →
       exec c s = .next (r.answer f (x.guard a v r))))

/-! ## Frames, sessions and the dictionary's tick (spec/02) -/

/-- R61, R62, R65: an admitted read of an object of plain size returns its value, at offset 0 and where the asked length covers
it; of an object read in segments, the octets from the offset, at most 1,024 and at most the asked length, with the flag for
more where the value goes on. Rows READ, WINDOW_RECORD_READ, EVENT_WINDOW_READ. Where the spec is open it states the model's
choice (notes/assumptions/7.md, 81.md, 119.md). -/
def Obligations.ReadsReturnTheValue : Prop :=
  ∀ (f : Frame) (s r : State) (a : Asker) (p b : List Byte) (d : Desc),
    f.kind = kindRead → s.receive f = (r, .request a p) → r.readAdmitted a f.key = .ok d → r.readValue a d = .ok b →
    (inSegments d = false → f.offset = 0 → b.length ≤ f.length.toNat →
      (ownRead f.key = false → exec (.dexRead f) s = .next (r.answer f codeOk b)) ∧
      (f.key = okey 0x3100 0x11 → exec (.windowRecordRead f) s = .next (r.answer f codeOk b)) ∧
      (f.key = okey 0x6200 4 → exec (.eventWindowRead f) s = .next (r.answer f codeOk b))) ∧
    (inSegments d = true → f.offset.toNat ≤ b.length →
      let x := (b.drop f.offset.toNat).take (min f.length.toNat 1024)
      let e := f.offset.toNat + x.length
      let t := (r.moveWindow a d.key e).answerAs kindResponse f codeOk x (decide (e < b.length))
      (ownRead f.key = false → exec (.dexRead f) s = .next t) ∧
      (f.key = okey 0x3100 0x11 → exec (.windowRecordRead f) s = .next t) ∧
      (f.key = okey 0x6200 4 → exec (.eventWindowRead f) s = .next t))

/-- R64: an admitted write of an object without an action, of its whole value, waits for the close of its tick, unanswered: it
is appended to the tick's writes and the object is not written yet. Row WRITE and the rows that are writes of one object. Where
the spec is open it states the model's choice (notes/assumptions/79.md). -/
def Obligations.WritesWaitForTheTick : Prop :=
  ∀ (c : Instr) (f : Frame) (mine : Nat → Bool) (held : Option (Fin 32)) (s r : State) (a : Asker) (p v : List Byte) (d : Desc)
    (n : Option Nat),
    writeRow c = some (f, mine, held) → f.kind = kindWrite → mine f.key = true → f.sub ≠ 0xFE → f.key ≠ okey 0x5100 0x13 →
    actionOf f f.key = none → (s.countFreezeWrite f).receive f = (r, .request a p) → r.writeAdmitted a f.key = .ok d →
    r.assemble a d f p (r.valueCode a d) = .whole v n → holdsRecord held d.key = false →
    exec c s = .next (((r.countEnvelope n).endSegment d.key).queueWrite f d v)

/-- R47, R376, R58: an abort of an index one of whose Busy objects the asker may write is answered OK and aborts them; a raw
capture starts its action; a frame of a kind that only the N4812 sends is dropped without response and counted. FREEZE (R583):
the write is counted, then it starts its action as the other command objects do. Where the spec is open it states the model's
choice (notes/assumptions/15.md). -/
def Obligations.FreezeAbortCaptureAndForbiddenFrames : Prop :=
  (∀ (f : Frame) (s r : State) (a : Asker) (p v bits : List Byte),
     (f.kind = kindWrite → f.key % 256 = 0xFE → f.sub = 0xFE → (s.countFreezeWrite f).receive f = (r, .request a p) →
       ((cmdsOf f.index.toNat).filter (fun d => r.busy d.key)).any (fun d => r.abortCode a d == 0) = true →
       exec (.cmdAbort f) s = .next (((r.touch a f.key).answer f codeOk).abortIndex f.index.toNat)) ∧
     ((s.countFreezeWrite f).CmdAdmitted (okey 0x5100 0x13) f (captureAction bits) a v r → f.sub ≠ 0xFE →
       r.busy (okey 0x5100 0x13) = false → r.alreadyWritten (okey 0x5100 0x13) = false →
       exec (.rawCapture f bits) s = .next (State.conclude (okey 0x5100 0x13)
         (((r.cmdStarted (okey 0x5100 0x13) f a).put (okey 0x5100 0x13) (.num (beNat v))).put (okey 0x5100 0x12)
           (.octets (bits.take 131072)), .done))) ∧
     (s.arrives f = true → f.kind = kindResponse ∨ f.kind = kindPublished ∨ f.kind = kindError →
       exec (.forbiddenKindFrame f) s = .next (s.dropFrame (okey 0x1100 4) f))) ∧
  (∀ (f : Frame) (s r : State) (a : Asker) (v : List Byte),
     (s.countFreezeWrite f).CmdAdmitted (okey 0x9000 0x20) f freezeAction a v r → r.busy (okey 0x9000 0x20) = false →
     r.alreadyWritten (okey 0x9000 0x20) = false → freezeAction.guard a v r = 0 →
     exec (.freeze f) s =
       .next (State.conclude (okey 0x9000 0x20) (freezeAction.act a v (r.cmdStarted (okey 0x9000 0x20) f a))))

/-- R54, R55, R612: the last segment of step 1 on a transport with room is answered by step 2, and its setup waits for step 3;
the last segment of a step 3 under its keys that proves a role opens the session with that role. R52, R62: a segment of an
ELEVATE message that others follow is kept; with the last one, a message that carries the signatures of two distinct roster
entries in force makes the session Officer, with those two entries. Where the spec is open it states the model's choice
(notes/assumptions/12.md, 85.md). -/
def Obligations.SetupAndElevationOpenSessions : Prop :=
  (∀ (f : Frame) (s r : State) (a : Asker) (p b : List Byte),
     (f.kind = kindSetup → f.session = none → s.receive f = (r, .request a p) → f.transport ≠ .tag → f.sub = 1 → f.index = 0 →
       b = (if f.offset = 0 then [] else ((r.dict.setups.find? (arriving f.transport)).map Setup.partialStep).getD []) ++ p →
       f.offset.toNat + p.length = b.length → f.flags.getLsbD 1 = false → r.modes.mode ≠ .blank → r.modes.mode ≠ .recover →
       r.setupsFull f.transport = false → b.length = step1Length → exec (.setupStep1 f) s = .next (r.answerStep1 f b)) ∧
     (∀ (id : Word) (x : Setup) (secret : BitVec 512) (role : Role) (prov : Bool), f.kind = kindSetup → f.session = some id →
       s.session id = none → s.arrives f = true →
       s.dict.setups.find? (fun y => y.id == id && y.secret.isSome) = some x → x.secret = some secret →
       gcmOpen (BitVec.ofNat 256 (secret.toNat / 2 ^ 256)) f.prefixOctets f.header f.payload f.check = some p →
       seqFresh x.rxHigh x.rxSeen f.seq.toNat = true → f.headerOk = true → s.dict.restarting = false → f.sub = 3 → f.index = 0 →
       b = (if f.offset = 0 then [] else x.partialStep) ++ p → f.offset.toNat + p.length = b.length → b.length ≤ 12288 →
       f.flags.getLsbD 1 = false →
       let w := seqAccept x.rxHigh x.rxSeen f.seq.toNat
       let y : Setup := { x with rxHigh := w.1, rxSeen := w.2 }
       let q := s.onDict (fun d => { d with setups := d.setups.map (fun z => if z.id = id ∧ z.secret.isSome then y else z) })
       q.grantedRole y b = some (role, prov) → exec (.setupStep3 f) s = .next (q.openSession f y secret role prov b))) ∧
  (∀ (f : Frame) (s r : State) (a : Asker) (p b : List Byte) (x : Session),
     f.kind = kindElevate → s.receive f = (r, .request a p) → a.session.bind r.session = some x →
     b = (if f.offset = 0 then [] else ((r.segment (elevateKey x.id)).map SegWrite.octets).getD []) ++ p →
     f.offset.toNat + p.length = b.length →
     (f.flags.getLsbD 1 = true → exec (.elevate f) s = .next ((r.keepSegment a (elevateKey x.id) b).answer f codeOk)) ∧
     (∀ e, f.flags.getLsbD 1 = false → (r.endSegment (elevateKey x.id)).elevators x b = some e →
       exec (.elevate f) s = .next (((r.endSegment (elevateKey x.id)).onSession x.id (fun y =>
         { y with role := .officer, officers := some e })).answer f codeOk)))

/-- R55, R56, R63: a setup two seconds after its last segment of step 1 is dropped; a session idle for longer than 0x1100:23
ends; a segmented write whose gap has run out is abandoned with what it held. Where the spec is open it states the model's
choice (notes/assumptions/8.md). -/
def Obligations.TimeoutsEndSetupsSessionsAndSegments : Prop :=
  ∀ (s : State) (id : Word) (index : BitVec 16) (sub : BitVec 8), s.live = true →
    exec (.setupTimeout id) s = .next { s with dict := { s.dict with setups := s.dict.setups.filter (fun x =>
      !(x.id == id && x.secret.isSome && decide (x.since + 2 * second ≤ s.now))) } } ∧
    (∀ x : Session, s.session id = some x → x.lastUsed + s.objNum (okey 0x1100 0x23) * second < s.now →
      exec (.sessionIdleTimeout id) s = .next (s.endSession id)) ∧
    exec (.segmentGapTimeout index sub) s = .next { s with dict := { s.dict with segments := s.dict.segments.map (fun w =>
      if w.key = okey index.toNat sub.toNat then { w with octets := [], abandoned := true } else w) } }

/-- R64: at the close of a tick the first write of an object, in transport order and then in arrival order, takes effect, and
each further write of it is answered OBJECT_CONTENDED and counted. R64, R45: the close of a tick runs the tick's writes in that
order, empties its queue and counts the tick; a flash commit that succeeds commits its value and answers OK, one that fails
answers PERSIST_FAILED and commits nothing. Where the spec is open it states the model's choice (notes/assumptions/9.md, 84.md).
-/
def Obligations.WritesOfATickContendAndCommit : Prop :=
  (∀ (s : State) (w : TickWrite) (rest : List TickWrite) (won : List (Nat × Option (Option Word × Transport))),
     (w.slot ∉ won → State.closeWrites (w :: rest) won s = State.closeWrites rest (w.slot :: won) (s.winWrite w)) ∧
     (w.slot ∈ won → State.closeWrites (w :: rest) won s =
       State.closeWrites rest won ((s.bump (okey 0x1100 3)).answer w.frame objectContended)) ∧
     (inTransportOrder (w :: rest)).Perm (w :: rest) ∧
     ((inTransportOrder (w :: rest)).map (fun x => x.transport.index)).Pairwise (fun i j => i.val ≤ j.val)) ∧
  (∀ (s : State), s.live = true →
     (∀ (x : Commit) (rest : List Commit) (f : Frame), s.dict.commits = x :: rest → x.frame = some f →
       exec (.persistCommitDone true) s =
         .next (((s.onDict (fun d => { d with commits := rest })).committed x.key x.value).answer f codeOk) ∧
       exec (.persistCommitDone false) s = .next ((s.onDict (fun d => { d with commits := rest })).answer f persistFailed)) ∧
     (let won := State.closeWrites (inTransportOrder s.dict.tickWrites) [] (s.onDict (fun d => { d with tickWrites := [] }))
      let done := won.repeatAborts.settleWrites
      exec .dictionaryTickClose s =
        .next (done.onDict (fun d => { d with touched := [], tick := (d.tick + 1) % 2 ^ 48 })).closeBoardBoot.openTick))

/-- R66, R67: a doorbell with bit 31 set makes a free slot busy with the length of its bits [10:0]; on a slot that is not free
it is counted and otherwise ignored; an acknowledgement of 1 frees a slot whose response is ready. R69, R70: a dropped packet
leaves no trace; an echo and a neighbour solicitation for the device are answered on the field network and change nothing else.
Where the spec is open it states the model's choice (notes/assumptions/14.md, 15.md). -/
def Obligations.MailboxAndNetworkFollowTheirRules : Prop :=
  (∀ (s : State) (k : Fin 4) (value : BitVec 32) (buffer : List Byte), s.live = true →
     let q := s.onMailbox k (Mailbox.fill buffer)
     (value.getLsbD 31 = true → s.dict.mailbox[k].stat = .free →
       exec (.mailboxDoorbell k value buffer) s =
         .next (q.onMailbox k (fun m => { m with stat := .busy, reqLen := value.toNat % 2048 }))) ∧
     (value.getLsbD 31 = true → s.dict.mailbox[k].stat ≠ .free →
       exec (.mailboxDoorbell k value buffer) s = .next (q.bump (okey 0x1100 4))) ∧
     (s.dict.mailbox[k].stat = .ready →
       exec (.mailboxAck k 1) s = .next (s.onMailbox k (fun m => { m with stat := .free }))) ∧
     (value ≠ 1 ∨ s.dict.mailbox[k].stat ≠ .ready → exec (.mailboxAck k value) s = .next s)) ∧
  (∀ (s : State) (why : BadPacket) (data : List Byte),
     exec (.networkPacketDrop why) s = .next s ∧
     (s.live = true → exec (.icmpv6Echo data) s = .next { s with out := .net (Config.icmpv6EchoReply data) :: s.out }) ∧
     (∀ b, s.live = true →
       Config.neighbourAnswer data (s.objOctets (okey 0x1000 5)) (s.objOctets (okey 0x1100 0x34)) = some b →
       exec (.neighbourDiscovery data) s = .next { s with out := .net b :: s.out }))

/-- R71, R72, R73, R609: outside a hot restart and a start, a subscription with destination 1 is published as a frame of its
session with the time before its entries, one with destination 2 updates the telemetry window; during a hot restart nothing is
published. Where the spec is open it states the model's choice (notes/assumptions/13.md, 87.md). -/
def Obligations.SubscriptionsArePublished : Prop :=
  ∀ (s : State), s.live = true →
    (∀ who, s.dict.restarting = true → exec (.publish who) s = .next s) ∧
    (s.dict.restarting = false → s.modes.starting = false →
      (∀ (id : Word) (x : Session), s.session id = some x →
        let a : Asker := { transport := x.transport, session := some id, role := x.role, glovePair := x.glovePair,
                           officers := x.officers }
        let e := s.entries a 6 (subscribed x.holder.subscription)
        (x.holder.destination = 1 →
          let r := s.sealFrame (publishedFrame x (beOctets 6 s.now ++ e)) (some id)
          exec (.publish (.session id)) s = .next (r.2.send (.frame r.1))) ∧
        (x.holder.destination = 2 → exec (.publish (.session id)) s = .next (s.updateWindow e))) ∧
      (∀ t : Transport,
        let a : Asker := { transport := t, session := none, role := .observer, glovePair := false, officers := none }
        (s.holder a).destination = 2 →
          exec (.publish (.sessionless t)) s = .next (s.updateWindow (s.entries a 6 (subscribed (s.holder a).subscription)))))

/-! ## Supplies, resets and modes (spec/03, spec/18) -/

/-- R94, R95, R97, R589, R601: what the supplies' rows do: VIO33 lets the ring drive the holds of the mirror; VAUX moves the vigil
domain's supply; main power that arrives starts the device; PFAIL_N halts every pair but the duty pair, ends running big-number
and lattice jobs, abandons a start's choice and, when it rises again, lets the
flash go on; a loss of main power leaves the vigil domain alone, in mode Vigil, with every hold released and SRAM empty; with no
supply left the vigil domain stands still, and loses its canary and hold mirror where its registers are lost. Where the spec is
open it states the model's choice (notes/assumptions/11.md, 27.md, 121.md). -/
def Obligations.SuppliesDriveTheDevice : Prop :=
  ∀ (s : State) (env : StartEnv),
    (s.modes.vio33 = false → exec .vio33InRange s = .next { s with modes := { s.modes with
      vio33 := true,
      holds := Vector.ofFn (fun h : Fin 16 => if s.vigil.holdMirror.getLsbD h.val then .low else .hiZ) } }) ∧
    exec .vauxRise s = .next { s with vigil := { s.vigil with vaux := true, supply := .vaux } } ∧
    (∃ t, exec .vauxFall s = .next t ∧ t.vigil.vaux = false ∧
      t.vigil.supply = (if s.vigil.supply = .vaux then .vbat else s.vigil.supply) ∧
      (s.modes.mainPower = true → t.tag = s.tag) ∧ t.modes = s.modes ∧ t.out = s.out) ∧
    (s.modes.mainPower = false → exec (.mainPowerArrives env) s = .next (s.powerOn env)) ∧
    (s.modes.mainPower = true → s.modes.pfail = false → s.power.frozen = none →
      let q := (s.onModes (fun m => { m with pfail := true })).haltForPowerFail
      let q := (q.onModes (fun m => { m with startPending := if m.starting then none else m.startPending })).wakeAll [0, 1]
      let q := q.flashPowerFail.saveAll
      let q := if q.modes.mode.serving || q.modes.mode == .gate then q.saveStatistics else q
      exec .pfailNFall s = .next (q.onTamper (fun t =>
        { t with flushDue := t.flushDue || !t.buffer.isEmpty || !t.arising.isEmpty }))) ∧
    (s.modes.mainPower = true → s.modes.pfail = true → s.power.frozen = none →
      exec .pfailNRise s = .next (s.onModes (fun m => { m with pfail := false })).flashPowerBack) ∧
    (s.modes.mainPower = true → ∃ t, exec .mainPowerLoss s = .next t ∧ t.modes.mode = .vigil ∧ t.modes.mainPower = false ∧
      t.modes.vio33 = false ∧ t.modes.holdMask = 0 ∧ t.modes.holds = Vector.replicate 16 .hiZ ∧ t.commons = [] ∧
      t.hub = JobHub.initial ∧ t.ent = Entropy.initial ∧ (∀ p : Fin 4, t.pairs[p] = Pair.initial)) ∧
    (s.vigil.vaux = false → exec (.vigilSupplyLoss true) s = .next { s with vigil := { s.vigil with
        supply := .none, canary := 0, holdMirror := 0xFFFF } } ∧
      exec (.vigilSupplyLoss false) s = .next { s with vigil := { s.vigil with supply := .none } })

/-- R98, R111, R114, R403, R587: what resets a running device: a start that has not entered its mode when the watchdog expires,
an accepted unlock, the release of a frozen device with its address; a hot restart that completes resumes under its image, or a
device reset follows when neither the UDS nor an image lets it resume. R109, R111: PE_PERST_N resets the PCIe endpoint and is
remembered, a function-level reset is not; held, with option word 51 bit 0 set and in a serving mode, it asks for one board
boot. Where the spec is open it states the model's choice (notes/assumptions/10.md, 11.md, 17.md). -/
def Obligations.ResetsRestartsAndBoardBoot : Prop :=
  (∀ (s : State) (env : StartEnv), s.live = true →
     (s.modes.starting = true →
       let q := s.onVigil (fun v => { v with watchdogs := v.watchdogs + 1 })
       let chosen := match s.modes.startPending with | some m => m.code | none => 0xFF
       exec (.bootWatchdogExpiry env) s =
         .next (((q.event 0x30 (detailOf 2 (min q.vigil.watchdogs 255 * 256 + chosen))).flushBeforeReset).deviceReset env)) ∧
     (s.tamper.unlockAccepted = true → exec (.deviceReset none env) s = .next (s.flushBeforeReset.deviceReset env)) ∧
     (∀ i b, s.modes.hotRestart = some i → (env.udsCopies.1 || env.udsCopies.2) = true → (s.restartImage i).1 = some b →
       exec (.hotRestartComplete env) s = .next ((s.restartImage i).2.resumeWith b 0)) ∧
     (∀ i, s.modes.hotRestart = some i → (env.udsCopies.1 || env.udsCopies.2) = false →
       exec (.hotRestartComplete env) s = .next ((s.restartImage i).2.deviceReset env))) ∧
  (∀ (s : State), s.live = true →
     exec (.pePerstNAssert false) s = .next (s.onDict (fun d => { d with perst := true })).pcieReset ∧
     exec (.pePerstNAssert true) s = .next s.pcieReset ∧
     exec .pcieRefclockLoss s = .next (s.onPower (fun p => { p with peRefclk := false })).pcieReset ∧
     (s.dict.perst = true → (s.opt 51).getLsbD 0 = true → s.modes.mode.serving = true → s.dict.boardBoot = none →
       exec .perstBoardBoot s = .next (s.onDict (fun d => { d with boardBoot := some none }))))

/-- R83: a request for a mode. Without a row of R83 for it, or with a role or a glove pair short of the row, it ends Failed with
its code and changes nothing; Maintain and Ceremony are entered at once. R87: when the limit of Maintain or of Ceremony expires
the mode returns to Serve at once, or, while an operation of the mode is Busy, keeps the expiry until it has ended; in every
other mode the row does nothing. Where the spec is open it states the model's choice (notes/assumptions/23.md). -/
def Obligations.ModeRequestsAndLimits : Prop :=
  (∀ (s : State) (a : Asker) (b : List Byte) (t : Mode), Mode.ofCode (beNat b) = some t →
     (requestCode a (requestRow s.modes.mode t) ≠ 0 →
       modeRequestAction.act a b s = (s, .failed (requestCode a (requestRow s.modes.mode t)))) ∧
     (requestCode a (requestRow s.modes.mode t) = 0 → t = .maintain ∨ t = .ceremony →
       s.modes.mode = .serve ∧ (a.role = .officer ∨ (t = .maintain ∧ a.role = .operator)) ∧
       modeRequestAction.act a b s = (s.onModes (fun m => { m with mode := t, limitExpired := false }), .done)) ∧
     (requestCode a (requestRow s.modes.mode t) = 0 → t = .forensic → s.modes.mode = .locked →
       a.role = .officer ∧ a.glovePair = true)) ∧
  (∀ (s : State), s.live = true →
     (s.modes.mode = .maintain → s.operationBusy = true →
       exec .maintainLimitExpiry s = .next (s.onModes (fun m => { m with limitExpired := true }))) ∧
     (s.modes.mode = .maintain → s.operationBusy = false → exec .maintainLimitExpiry s =
       .next ((s.onModes (fun m => { m with mode := .serve, limitExpired := false })).confirmTrial.doneCmd (okey 0x1200 3))) ∧
     (s.modes.mode = .ceremony → s.operationBusy = true →
       exec .ceremonyLimitExpiry s = .next (s.onModes (fun m => { m with limitExpired := true }))) ∧
     (s.modes.mode = .ceremony → s.operationBusy = false → exec .ceremonyLimitExpiry s =
       .next ((s.onModes (fun m => { m with mode := .serve, limitExpired := false })).confirmTrial.doneCmd (okey 0x1200 3))) ∧
     (s.modes.mode ≠ .maintain → exec .maintainLimitExpiry s = .next s) ∧
     (s.modes.mode ≠ .ceremony → exec .ceremonyLimitExpiry s = .next s))

/-! ## Gate (spec/04, spec/01) -/

/-- R130, R131, R132, R135: Gate waits for the scrambling keys and its fingerprint key; a chip select is initialised; a burst of
the region under pre-scan is kept; a third failed attempt leaves the region unreadable, the first two are retried; the manifests
in force are decided once. Where the spec is open it states the model's choice (notes/assumptions/44.md, 45.md). -/
def Obligations.GateScansAChannel : Prop :=
  ∀ (s : State) (n : Fin 12), s.live = true →
    (∀ k q, s.modes.startPending = some .gate → s.integ.busKeysFromDrbg = true → s.drawFingerprintKey = some (k, q) →
      exec .gateEntry s = .next (q.enterGateWith k)) ∧
    (s.modes.mode = .gate → (s.chanDesc n).enabled = true →
      (∀ (cs : Fin 2) (r : FlashReply), s.initDone n cs = false →
        let q := s.initFlash n cs r
        ((q.initDone n 0 && q.initDone n 1) = false → exec (.channelFlashInit n cs r) s = .next q) ∧
        ((q.initDone n 0 && q.initDone n 1) = true → exec (.channelFlashInit n cs r) s =
          .next (((if q.chans[n].phase = 8 then q else q.onChan n (fun c => { c with phase := 2 })).advanceScan n
            65).checkComplete n))) ∧
      (s.chans[n].manifestsDecided = false → exec (.manifestVerification n) s = .next (s.onChan n (fun c =>
        { c with manifestsDecided := true, status := c.manifests.map (fun e => (e.1, s.manifestStatus n e.1 e.2)) })))) ∧
    (∀ (r : Nat) (d : RegionDef) (b : List Byte), s.scanning n = some (r, d) → s.modes.mode = .gate → 2 ≤ s.chans[n].phase →
      s.streamReady n = true →
      (s.initDone n 0 = true → s.initDone n 1 = true → b ≠ [] → b.length ≤ s.burstRoom n r d →
        kget s.cons.bases (n.val * 64 + r) = none → d.isPinned = false →
        exec (.prescanBurst n b) s = .next (((s.countLane (s.hashingOf n) b.length).onRegion n r (fun x =>
          { x with scanned := x.scanned ++ b, retries := 0 })).hashRegion n r d)) ∧
      ((s.region n r).retries < 2 → exec (.prescanBurstStall n) s =
        .next (s.onRegion n r (fun x => { x with retries := x.retries + 1 }))) ∧
      (2 ≤ (s.region n r).retries → exec (.prescanBurstStall n) s =
        .next (((s.unreadableRegion n r d).closeStream n).advanceScan n 65)))

/-- R137: the verdict of a region before its policy acts: UNREADABLE, then NOT MEASURED under policy 0, then NO ENTRY, then
MATCH or MISMATCH by the digest of the manifest entry. Where the spec is open it states the model's choice
(notes/assumptions/100.md). -/
def Obligations.RawVerdictsFollowTheManifest : Prop :=
  ∀ (s : State) (n : Fin 12) (r : Nat) (d : RegionDef),
    ((s.region n r).unreadable = true → s.rawVerdict n r d = 5) ∧
    ((s.region n r).unreadable = false → d.policy = 0 → s.rawVerdict n r d = 2) ∧
    ((s.region n r).unreadable = false → d.policy ≠ 0 →
      (s.manifestEntry n d = none → s.rawVerdict n r d = 4) ∧
      (∀ e, s.manifestEntry n d = some e → (e.digest = (s.region n r).digest → s.rawVerdict n r d = 1) ∧
        (e.digest ≠ (s.region n r).digest → s.rawVerdict n r d = 3)))

/-- R137, R138, R139: the verdict of a hashed region whose manifests are decided: final under policies 0 and 1 (an event when
policy 1 finds no match), HALTED under policy 3 without a match; under policy 2 without a match recovery begins, and ends
RECOVERED with content that hashes to the entry's digest, HALTED otherwise. R19, R20, R35, R143: with every channel complete the
attestation cutoff ends Gate-phase attestation and a late primary record is an outage; with attestation ended and no append
under way the primary record is appended; one entry of the release queue is released at a time. Where the spec is open it states
the model's choice (notes/assumptions/97.md, 100.md). -/
def Obligations.VerdictsRecoveryAndTheEndOfGate : Prop :=
  (∀ (s : State) (n : Fin 12) (r : Fin 64) (d : RegionDef), s.live = true → s.regionDef n r.val = some d → s.modes.mode = .gate →
     (d.valid = true → (s.region n r.val).hashed = true → (s.region n r.val).complete = false →
       (s.region n r.val).recovering = none → s.chans[n].manifestsDecided = true →
       (d.policy = 0 → exec (.regionVerdict n r) s = .next (s.finishRegion n r.val d (s.rawVerdict n r.val d))) ∧
       (d.policy = 3 → exec (.regionVerdict n r) s =
         .next (s.finishRegion n r.val d (if s.rawVerdict n r.val d = 1 then 1 else 7))) ∧
       (d.policy = 1 → s.rawVerdict n r.val d ≠ 1 → exec (.regionVerdict n r) s =
         .next ((s.event (0x40 + n.val) (detailOf 2 (r.val * 2 ^ 32 + s.rawVerdict n r.val d * 2 ^ 24))).finishRegion n r.val d
           (s.rawVerdict n r.val d))) ∧
       (d.policy = 2 → s.rawVerdict n r.val d ≠ 1 → exec (.regionVerdict n r) s = .next (s.beginRecovery n r.val d))) ∧
     ((s.region n r.val).recovering ≠ none → s.streamReady n = true →
       let q := s.closeStream n
       (∀ b e, q.manifestEntry n d = some e → b.length = 4096 * d.pages → regionHash d.digest b = e.digest →
         exec (.recoveryComplete n r (some b)) s = .next ((((q.countLane (q.hashingOf n) b.length).recovered n r.val d e.digest
           b).finishRegion n r.val d 6).scanOn n)) ∧
       exec (.recoveryComplete n r none) s = .next ((q.finishRegion n r.val d 7).scanOn n))) ∧
  (∀ (s : State), s.live = true →
     (s.modes.mode = .gate → s.allComplete = true →
       (s.att.gateEnded = false → exec .gateAttestationCutoff s = .next s.snapshotGate) ∧
       (s.ledger.full = false → exec .primaryRecordLate s = .next (s.primaryOutage true)) ∧
       (∀ k, s.modes.startPending = none → s.att.gateEnded = true → s.ledger.rolloverDue = none → s.ledger.append = none →
         s.ledger.queue = [] → s.ledger.primaryAsked = false → exec (.primaryRecordAppend k) s =
           .next (((((s.onLedger (fun l => { l with primaryAsked := true })).askAppend .primary 0 none []).signaturesVerified
             k).ledgerCommit true).afterAppend))) ∧
     (∀ e rest, s.modes.releaseQueue.dropWhile (fun x => !entryValid x) = e :: rest →
       exec .holdRelease s = .next ((s.onModes (fun m => { m with releaseQueue := rest })).releaseEntry e)))

/-- R26, R28, R29, R34, R38: the patrol scrub counts a corrected word by its memory class and treats an uncorrectable one and an
address fault as a memory error; the scrambling keys come from the DRBG once it has delivered; the hourly save keeps every saved
object's value and the time. R115, R116: a function that drains reads OFF at its end, or STARTING where an enable was queued,
and its Disable reads Done; one that starts reads ON and its Enable reads Done; the rows find no other function changed. Where
the spec is open it states the model's choice (notes/assumptions/20.md, 27.md). -/
def Obligations.ScrubKeysSavesAndFunctions : Prop :=
  (∀ (s : State) (m : MemClass), s.live = true →
     (memClassNumber m ≤ 3 →
       exec (.patrolScrubVisit m .corrected) s = .next (s.bumpWord (okey 0x7100 0x40) 6 (memClassNumber m)) ∧
       exec (.patrolScrubVisit m .uncorrectable) s = .next (s.memoryError (memClassNumber m) true) ∧
       exec (.patrolScrubVisit m .addressFault) s = .next (s.memoryError (memClassNumber m) false) ∧
       exec (.patrolScrubVisit m .ok) s = .next s) ∧
     (s.ent.delivered = true → exec .busKeyReplacement s = .next (s.onInteg (fun i => { i with busKeysFromDrbg := true }))) ∧
     exec .hourlySave s =
       .next ((s.reckon.forAll savedObjects State.saveObj).onInteg (fun i => { i with savedAt := s.reckon.now }))) ∧
  (∀ (s : State) (i : FnId), s.live = true →
     ((s.fn i).st = .draining → exec (.functionDrainComplete i) s = .next (((s.fnOff i).doneCmd (fnDisable i)).setFn i
       { st := if (s.fn i).queued then .starting else .off, queued := false })) ∧
     ((s.fn i).st ≠ .draining → exec (.functionDrainComplete i) s = .next s) ∧
     ((s.fn i).st = .starting → exec (.functionStartComplete i) s =
       .next (((s.setFn i { st := .on, queued := false }).fnOn i).doneCmd (fnEnable i))) ∧
     ((s.fn i).st ≠ .starting → exec (.functionStartComplete i) s = .next s))

/-! ## Host ports (spec/04) -/

/-- R157, R158: on a port that answers and is not in deep power-down, the commands that keep emulated state, with no other
channel or device touched: the write-enable latch, the address mode, deep power-down, the arming of the soft reset by 0x66.
Every command but 0x66 ends an armed soft reset. Where the spec is open it states the model's choice (notes/assumptions/46.md,
96.md). -/
def Obligations.HostCommandsKeepEmulatedState : Prop :=
  ∀ (s : State) (n : Fin 12) (cs : Fin 2), s.live = true → s.portAnswers n cs = true → (s.emu n cs).deepDown = false →
    exec (.writeEnable n cs) s = .next (s.onEmu n cs (fun e => { e with writeEnable := true, resetArmed := false })) ∧
    exec (.writeDisable n cs) s = .next (s.onEmu n cs (fun e => { e with writeEnable := false, resetArmed := false })) ∧
    exec (.enter4Byte n cs) s = .next (s.onEmu n cs (fun e => { e with addr4 := true, resetArmed := false })) ∧
    exec (.exit4Byte n cs) s = .next (s.onEmu n cs (fun e => { e with addr4 := false, resetArmed := false })) ∧
    exec (.deepPowerDown n cs) s = .next (s.onEmu n cs (fun e => { e with deepDown := true, resetArmed := false })) ∧
    exec (.resetEnable n cs) s = .next (s.onEmu n cs (fun e => { e with resetArmed := true })) ∧
    ((s.emu n cs).resetArmed = true → exec (.softReset n cs) s = .next (s.onEmu n cs (fun e =>
      { e with protocol := (s.chanDesc n).startProtocol, addr4 := (s.chanDesc n).startAddr4, writeEnable := false,
               deepDown := false, resetArmed := false }))) ∧
    (∀ data : Byte, data = 4 ∨ data = 5 → (s.emu n cs).writeEnable = true → (s.chanDesc n).masks data.toNat = true →
      exec (.setHostProtocol n cs data) s = .next (s.onEmu n cs (fun e =>
        { e with protocol := data.toNat, writeEnable := false, resetArmed := false })))

/-- R157, R158: in deep power-down a port answers 0xAB, 0x66 and, right after 0x66, 0x99; every other command changes nothing and
drives nothing. A port that does not answer drives nothing whatever the command. R148, R158: what the identification and status
reads drive: the descriptor's ID or the flash's own, the SFDP octets presented, the busy and write-enable bits, zero octets of the
other registers. Where the spec is open it states the model's choice (notes/assumptions/96.md, 117.md). -/
def Obligations.IdentificationAndPowerDownOfThePort : Prop :=
  (∀ (s : State) (n : Fin 12) (cs : Fin 2) (op : Byte) (addr len : Nat) (data flash : List Byte) (st : Bool)
     (k : Option Nat),
     (s.portAnswers n cs = true → s.live = true → (s.emu n cs).deepDown = true →
       exec (.releaseDeepPowerDown n cs) s = .next (s.onEmu n cs (fun e => { e with deepDown := false, resetArmed := false })) ∧
       exec (.resetEnable n cs) s = .next (s.onEmu n cs (fun e => { e with resetArmed := true }))) ∧
     ((s.portAnswers n cs = false ∨ (s.emu n cs).deepDown = true) →
       exec (.readId n cs) s = .next s ∧ exec (.readStatus n cs) s = .next s ∧ exec (.readSfdp n cs addr len) s = .next s ∧
       exec (.hostRegisterRead n cs len) s = .next s ∧ exec (.writeEnable n cs) s = .next s ∧
       exec (.chipErase n cs) s = .next s ∧
       (op ≠ 0xAB → op ≠ 0x66 → op ≠ 0x99 → exec (.hostFastRead n cs op addr len flash st k) s = .next s ∧
         exec (.hostPageProgram n cs op addr data) s = .next s ∧ exec (.hostSectorErase n cs op addr) s = .next s ∧
         exec (.hostUnknownCommand n cs op) s = .next s ∧ exec (.hostRegisterWrite n cs op) s = .next s))) ∧
  (∀ (s : State) (n : Fin 12) (cs : Fin 2) (addr len : Nat), s.live = true → s.portAnswers n cs = true →
     (s.emu n cs).deepDown = false →
     let disarm := State.onEmu n cs (fun e => { e with resetArmed := false })
     let e := s.emu n cs
     let id := (s.chanDesc n).emulatedId
     exec (.readId n cs) s = .next (disarm (s.send (.host n cs
       (if id = 0 then s.ownId n cs else beOctets 3 id)))) ∧
     exec (.readSfdp n cs addr len) s =
       .next (disarm (s.send (.host n cs ((List.range len).map (fun i => s.sfdpAt n cs (addr + i)))))) ∧
     exec (.readStatus n cs) s = .next (disarm (s.send (.host n cs
       [BitVec.ofNat 8 ((if e.busy then 1 else 0) + (if e.writeEnable then 2 else 0))]))) ∧
     exec (.hostRegisterRead n cs len) s = .next (disarm (s.send (.host n cs (List.replicate len 0)))))

/-- R145, R158, R159, R160: fast reads are served; programs and erases go forward under write enable, with no operation pending,
where every page lies in a region that allows writes and was not recovered, and are refused otherwise; a chip erase and a register
write are refused under policy; suspend and resume go to a pending operation; an unknown command is counted. Where the spec is
open it states the model's choice (notes/assumptions/96.md, 98.md, 118.md). -/
def Obligations.HostWritesAreFiltered : Prop :=
  ∀ (s : State) (n : Fin 12) (cs : Fin 2) (op : Byte) (addr len : Nat) (data flash : List Byte) (st : Bool)
    (k : Option Nat), s.live = true → s.portAnswers n cs = true → (s.emu n cs).deepDown = false →
    let disarm := State.onEmu n cs (fun e => { e with resetArmed := false })
    let a := s.hostAddress n cs op.toNat addr
    let program := op :: (s.addressOctets n cs op.toNat a ++ data)
    let erase := op :: s.addressOctets n cs op.toNat a
    let pages := erasePages cs.val a op.toNat
    ((readProtocols op.toNat).any (runsProtocol (s.chanDesc n) (s.emu n cs).protocol) = true → op ≠ 0x66 →
      exec (.hostFastRead n cs op addr len flash st k) s = .next (disarm (s.fastRead n cs a len flash st k))) ∧
    (op = 0x02 ∨ op = 0x12 ∨ op = 0x32 ∨ op = 0x34 → s.portPasses n = false →
      ((s.emu n cs).writeEnable = true → s.chans[n].forwarded[cs] = none →
        s.mayWritePages n [cs.val * 65536 + a / 4096] = true →
        exec (.hostPageProgram n cs op addr data) s =
          .next (disarm (s.forwardHost n cs program [cs.val * 65536 + a / 4096] false))) ∧
      ((s.emu n cs).writeEnable = false ∨ s.mayWritePages n [cs.val * 65536 + a / 4096] = false →
        exec (.hostPageProgram n cs op addr data) s = .next (disarm (s.refuseHost n cs)))) ∧
    (op = 0x20 ∨ op = 0x21 ∨ op = 0xD8 ∨ op = 0xDC → s.portPasses n = false →
      ((s.emu n cs).writeEnable = true → s.chans[n].forwarded[cs] = none → s.mayWritePages n pages = true →
        exec (.hostSectorErase n cs op addr) s = .next (disarm (s.forwardHost n cs erase pages true))) ∧
      ((s.emu n cs).writeEnable = false ∨ s.mayWritePages n pages = false →
        exec (.hostSectorErase n cs op addr) s = .next (disarm (s.refuseHost n cs)))) ∧
    (s.portPasses n = false → exec (.chipErase n cs) s = .next (disarm (s.refuseHost n cs)) ∧
      (op ≠ 0x66 → exec (.hostRegisterWrite n cs op) s = .next (disarm (s.refuseHost n cs)))) ∧
    (∀ f, s.chans[n].forwarded[cs] = some f →
      exec (.hostSuspend n cs) s = .next (disarm ((((s.send (.flash n cs [0x75])).onChan n (fun c =>
        { c with forwarded := c.forwarded.set cs (some { f with suspended := true }) })).onEmu n cs (fun e =>
        { e with busy := false })).bump (ckey 4 n 4))) ∧
      exec (.hostResume n cs) s = .next (disarm ((((s.send (.flash n cs [0x7A])).onChan n (fun c =>
        { c with forwarded := c.forwarded.set cs (some { f with suspended := false }) })).onEmu n cs (fun e =>
        { e with busy := true })).bump (ckey 4 n 4)))) ∧
    (op ≠ 0x66 → exec (.hostUnknownCommand n cs op) s = .next (disarm (s.bump (ckey 4 n 6))))

/-- R120, R153, R157, R159, R162 to R165: what happens to a channel while it serves: a protocol error is counted; a clock beyond
the limit is logged; a forwarded operation that completes leaves the device not busy; a reload whose content hashes to the
region's digest puts the region back in the reservation, one that does not is logged; training moves the delay by at most two taps
or, below eight taps, ends in Flash fault; a logic error restarts the channel, and the restart initialises its flash again. Where
the spec is open it states the model's choice (notes/assumptions/47.md, 98.md, 107.md, 118.md). -/
def Obligations.ChannelEventsWhileServing : Prop :=
  ∀ (s : State) (n : Fin 12) (cs : Fin 2), s.live = true →
    (s.portEnabled n = true → exec (.hostProtocolError n) s = .next (s.bump (ckey 4 n 6))) ∧
    (∀ kHz, s.portAnswers n cs = true → kHz * 100 > (s.chanDesc n).limit (s.emu n cs).protocol * 102 →
      exec (.hostClockExcess n cs kHz) s =
        .next (s.event (0x40 + n.val) (detailOf 3 ((s.emu n cs).protocol * 2 ^ 32 + min kHz 0xFFFFFF)))) ∧
    exec (.forwardedOpComplete n cs) s = .next ((s.onChan n (fun c => { c with forwarded := c.forwarded.set cs none })).onEmu n cs
      (fun e => { e with busy := false })) ∧
    (s.modes.pfail = true → ∀ (r : Fin 64) b, exec (.pinnedReloadComplete n r b) s = .next s) ∧
    (s.modes.pfail = true → ∀ taps tapSize, exec (.dqsRetrain n cs taps tapSize) s = .next s) ∧
    (s.modes.mode.serving = true →
      (∀ (r : Fin 64) (d : RegionDef) (b : List Byte), s.modes.pfail = false → s.regionDef n r.val = some d → (s.region n r.val).reloading = true →
        (regionHash d.digest b = (s.region n r.val).digest → exec (.pinnedReloadComplete n r b) s =
          .next ((s.closeStream n).onRegion n r.val (fun x =>
            { x with reloading := false, pinned := b, fromCommons := x.verdict != 7 && x.verdict != 8 }))) ∧
        (regionHash d.digest b ≠ (s.region n r.val).digest → exec (.pinnedReloadComplete n r b) s =
          .next (((s.closeStream n).onRegion n r.val (fun x => { x with reloading := false, reloadFailed := true })).event
            (0x40 + n.val) (detailOf 6 (r.val * 2 ^ 32))))) ∧
      (∀ taps tapSize, s.modes.pfail = false → s.chans[n].phase = 5 → s.chans[n].flash[cs].ready = true →
        (8 ≤ (dqsWindow taps).2 → exec (.dqsRetrain n cs taps tapSize) s =
          .next ((s.trained n cs (moveDelay s.chans[n].flash[cs].delay (dqsWindow taps).1) (dqsWindow taps).2 tapSize).marginLow n
            cs.val (dqsWindow taps).2)) ∧
        ((dqsWindow taps).2 < 8 → exec (.dqsRetrain n cs taps tapSize) s = .next (s.flashFaulty n cs 2))) ∧
      ((s.chanDesc n).enabled = true → s.chans[n].phase ≠ 7 →
        let q := s.bumpBy (ckey 2 n 8) 24 1
        let q := if q.portEnabled n then q.portOutage n true else q
        exec (.channelLogicError n) s = .next ((q.restartRounds n).onChan n (fun c =>
          { c with phase := 7, flash := c.flash.map (fun f => { f with ready := false, fault := false }) })))) ∧
    (∀ r0 r1, s.chans[n].phase = 7 →
      let q := (s.restartEmu n).onChan n (fun c => { c with phase := if s.halted n then 6 else 5 })
      let q := if (q.chanDesc n).hasFlash 0 then q.initFlash n 0 r0 else q
      let q := if (q.chanDesc n).hasFlash 1 then q.initFlash n 1 r1 else q
      exec (.channelRestartComplete n r0 r1) s = .next (q.portOutage n false))

/-! ## Read consistency (spec/05) -/

/-- R171, R173, R174: with a key whose values pass their check, the contribution of a segment within one sub-block is the sum,
over its octets, of the octet times the key to the power of its offset in the page plus one: the terms that the fingerprint of the
page sums. -/
def Obligations.SegmentContributionIsItsFingerprintTerms : Prop :=
  ∀ (k : Word) (offset : Nat) (b : List Byte), keyValuesOk k = true → b ≠ [] →
    offset / 128 = (offset + b.length - 1) / 128 →
    contribution k offset b =
      (b.mapIdx (fun i o => gfMul (o.setWidth 48) (gfPow k (offset + i + 1)))).foldl (· ^^^ ·) 0

/-- R178, R180: while a channel serves, a fill-in that delivers the uncovered octets of its entry adds their contributions,
covers the page and compares it; an age visit marks every non-empty current round, or begins its closing when it was marked.
R163: a training moves a delay toward its centre by at most two taps and never past it. Where the spec is open it states the
model's choice (notes/assumptions/96.md, 110.md). -/
def Obligations.FillInsTrainingAndAgeVisits : Prop :=
  (∀ (s : State) (n : Fin 12), s.live = true → s.modes.pfail = true → ∀ b, exec (.fillIn n b) s = .next s) ∧
  (∀ (s : State) (n : Fin 12), s.live = true → s.modes.mode.serving = true →
     (∀ (e : Nat) (rest : List Nat) (k : Word) (b : List Byte), s.modes.pfail = false → (s.fpUnit n).fillIns = e :: rest → (s.fpUnit n).key = some k →
       b.length = (s.uncovered n e).length →
       let sum := ((s.uncovered n e).zip b).foldl (fun a (x : Nat × Byte) => a ^^^ contribution k x.1 [x.2]) 0
       let q := (s.bumpWord (okey 0x2C00 8) 12 n.val b.length).onUnit n (fun u =>
         { u with ranges := u.ranges.filter (fun r => r.page != e || r.next) })
       exec (.fillIn n b) s = .next ((q.onEntry e (fun x =>
         { x with accumulator := x.accumulator ^^^ sum, mask := BitVec.allOnes 32 })).compare n e true (s.fpEntry e).mask)) ∧
     exec (.roundAgeVisit n) s = .next (s.forAll (s.channelEntries n) (fun (e : Nat × FpEntry) q =>
       if e.2.st = .armed ∧ q.roundOpen n e.1 = true then
         if e.2.aged then q.beginClosing n e.1 else q.onEntry e.1 (fun x => { x with aged := true })
       else q))) ∧
  (∀ delay centre : Nat, moveDelay delay centre ≤ delay + 2 ∧ delay ≤ moveDelay delay centre + 2 ∧
     (delay ≤ centre → delay ≤ moveDelay delay centre ∧ moveDelay delay centre ≤ centre) ∧
     (centre ≤ delay → centre ≤ moveDelay delay centre ∧ moveDelay delay centre ≤ delay))

/-! ## Attestation (spec/06) -/

/-- R201, R202: discovery and addressing: a discovery in Gate marks the found devices and asks them to take their endpoint IDs;
its timeout ends the Gate-phase slots without one ABSENT; a hot-join seeks the open Serve-phase slots of its identity; an
endpoint ID assigned over PCIe is kept and the routing table asked for; an accepted assignment gives the slot the ID 0x20 + its
number. Where the spec is open it states the model's choice (notes/assumptions/4.md). -/
def Obligations.DiscoveryAddressesTheDevices : Prop :=
  ∀ (s : State), s.live = true →
    (∀ found : List Word, s.modes.mode = .gate → s.att.discovered = false → s.att.phase = 1 →
      let q := s.onAtt (fun a => { a with discovered := true })
      exec (.i3cDiscovery found) s = .next (q.forAll
        (q.slotsOf (fun k => q.slotTransport k == 2 || (q.slotTransport k == 1 && found.contains (q.slotWord k 0))))
        (fun k t => (t.onSlot k (fun x => { x with found := true })).send (.mctp (Config.mctpControl 1 (0x20 + k)))))) ∧
    (s.modes.mode = .gate → exec .discoveryTimeout s = .next (s.forAll
      (s.gateSlots.filter (fun k => (s.responder k).eid.isNone && (s.responder k).outcome == 0)) (fun k => State.endSlot k 0x0B))) ∧
    (∀ identity : Word, exec (.hotJoin identity) s = .next (s.forAll
      (s.slotsOf (fun k => s.collects k && s.slotServe k && (s.responder k).eid.isNone &&
        (s.slotTransport k == 2 || (s.slotTransport k == 1 && s.slotWord k 0 == identity))))
      (fun k t => (t.onSlot k (fun x => { x with found := true })).send (.mctp (Config.mctpControl 1 (0x20 + k)))))) ∧
    (∀ eid : BitVec 8, exec (.endpointIdAssigned eid) s = .next { s with
      att := { s.att with ownEid := eid.toNat }, out := .mctp (Config.mctpControl 2 eid.toNat) :: s.out }) ∧
    (∀ k : Fin 64, s.slotValid k.val = true → s.slotTransport k.val ≠ 3 → (s.responder k.val).found = true →
      exec (.mctpControlResponse (.setEndpoint k true)) s =
        .next (s.onSlot k.val (fun x => { x with eid := some (0x20 + k.val) })).startSlots)

/-- R203, R208: the course of a slot in progress: the version reply chooses 1.3 before 1.2; a Busy reply waits, at most three
times; a timeout resends twice and then ends NO_RESPONSE; after a Busy wait the request goes out again; a slot of serve-phase
collection in progress for 30 s ends NO_RESPONSE. R208: the waits of a slot: a resend, a retry, and the ends NO_RESPONSE. Where
the spec is open it states the model's choice (notes/assumptions/26.md). -/
def Obligations.SlotsFollowTheirExchange : Prop :=
  (∀ (s : State) (k : Fin 64) (octets : List Byte) (w : SpdmAwait) (y : Responder), s.live = true →
     (s.responder k.val).await = some w → (s.responder k.val).noted octets = some y → (s.responder k.val).waiting = none →
     let q := s.onSlot k.val (fun _ => y)
     (w = .version → exec (.spdmResponse k (.version [0x12, 0x13]) octets) s =
       .next ((q.onSlot k.val (fun x => { x with version := 0x13 })).sendNext k.val .capabilities)) ∧
     (w = .version → exec (.spdmResponse k (.version [0x11]) octets) s = .next (q.endSlot k.val 8)) ∧
     ((q.responder k.val).busyWaits < 3 → exec (.spdmResponse k .busy octets) s =
       .next (q.onSlot k.val (fun x => { x with waiting := some none, busyWaits := x.busyWaits + 1 }))) ∧
     (3 ≤ (q.responder k.val).busyWaits → exec (.spdmResponse k .busy octets) s = .next (q.endSlot k.val 4))) ∧
  (∀ (s : State) (k : Fin 64), s.live = true →
     ((s.responder k.val).inProgress = true → (s.responder k.val).waiting = none →
       ((s.responder k.val).resends < 2 → exec (.spdmTimeout k) s =
         .next ((s.onSlot k.val (fun x => { x with resends := x.resends + 1 })).sendSpdm k.val (s.responder k.val).request)) ∧
       (2 ≤ (s.responder k.val).resends → exec (.spdmTimeout k) s = .next (s.endSlot k.val 4))) ∧
     ((s.responder k.val).waiting = some none →
       exec (.spdmRetryWait k) s = .next (s.sendSpdm k.val (s.responder k.val).request)) ∧
     (∀ r, (s.responder k.val).waiting = some (some r) → exec (.spdmRetryWait k) s =
       .next (s.sendSpdm k.val (Config.spdmRequest 8 (s.responder k.val).version 0 0 []))) ∧
     (s.att.phase = 2 → (s.responder k.val).inProgress = true → exec (.spdmSlotTimeLimit k) s = .next (s.endSlot k.val 4)) ∧
     (s.att.phase = 2 → exec .serveCollectionWindowExpiry s = .next s.closeCollection) ∧
     (s.att.phase ≠ 2 → exec (.spdmSlotTimeLimit k) s = .next s ∧ exec .serveCollectionWindowExpiry s = .next s))

/-- R195, R217, R218, R219: in a mode that responds and outside a hot restart the N4812 answers each request of its connection, in
the order of the connection; the response codes and the octets of an answer are the model's (notes/assumptions/63.md). -/
def Obligations.SpdmRequestsAreAnswered : Prop :=
  ∀ (s : State) (port : SpdmPort) (req : List Byte), s.live = true → s.modes.hotRestart = none → s.modes.mode.responds = true →
    exec (.getVersion port req) s = .next ((s.onConnection port (fun _ => SpdmConnection.initial)).spdmAnswer port 0x04 req
      [0x12, 0x13] (fun c => { c with versioned := true })) ∧
    ((s.connection port).versioned = true → exec (.getCapabilities port req) s =
      .next (s.spdmAnswer port 0x61 req [1, 1, 2, 14] (fun c => { c with capable := true }))) ∧
    (∀ asyms hashes : List Nat, (s.connection port).capable = true → asyms.contains 2 = true → hashes.contains 2 = true →
      exec (.negotiateAlgorithms port req asyms hashes) s =
        .next (s.spdmAnswer port 0x63 req [2, 2] (fun c => { c with negotiated := true }))) ∧
    ((s.connection port).negotiated = true →
      exec (.getDigests port req) s = .next (s.spdmAnswer port 0x01 req ([1] ++ sha384 s.certSlot) id) ∧
      (∀ offset len : Nat, offset ≤ s.certSlot.length →
        let b := (s.certSlot.drop offset).take len
        exec (.getCertificate port req 0 offset len) s = .next (s.spdmAnswer port 0x02 req
          (beOctets 2 b.length ++ beOctets 2 (s.certSlot.length - offset - b.length) ++ b) id)) ∧
      (∀ slot : Fin 8, slot ≠ 0 → ∀ offset len, exec (.getCertificate port req slot offset len) s =
        .next (s.spdmFails port req errorInvalid)) ∧
      exec (.challenge port req 0 0) s = .next (s.spdmSign port 0x03 req (sha384 s.certSlot)) ∧
      exec (.challenge port req 0 1) s =
        .next (s.spdmSign port 0x03 req (sha384 s.certSlot ++ sha384 (s.blockOctets 1))) ∧
      exec (.getMeasurements port req 0 false) s = .next (s.spdmAnswer port 0x60 req [6] id) ∧
      exec (.getMeasurements port req 0xFF true) s = .next (s.spdmSign port 0x60 req ([6] ++ s.allBlocks)) ∧
      (∀ i, 1 ≤ i → i ≤ 6 → exec (.getMeasurements port req i true) s =
        .next (s.spdmSign port 0x60 req ([1] ++ s.blockOctets i)))) ∧
    exec (.respondIfReady port req) s = .next (s.spdmFails port req errorUnexpected) ∧
    exec (.spdmUnsupportedRequest port req) s = .next (s.spdmFails port req errorUnsupported) ∧
    (∀ i, exec (.doeDiscovery i) s = .next { s with out := .doe (Config.doeDiscovery i) :: s.out })

/-- R219: during a hot restart every SPDM request is answered ERROR Busy, and in a mode that does not respond ERROR Unspecified;
each such answer is counted as an answered request and touches no connection. Where the spec is open it states the model's
choice (notes/assumptions/63.md). -/
def Obligations.SpdmErrorsByMode : Prop :=
  ∀ (s : State) (port : SpdmPort) (req : List Byte) (asyms hashes : List Nat) (slot : Fin 8) (i j : Nat) (b : Bool),
    s.live = true → (∀ e : Byte, (s.modes.hotRestart.isSome = true ∧ e = errorBusy) ∨
        (s.modes.hotRestart = none ∧ s.modes.mode.responds = false ∧ e = errorUnspecified) →
      let t := (s.bump (okey 0x3000 0x30)).send (.spdmResponse port (Config.spdmResponse spdmError req [e]))
      exec (.getVersion port req) s = .next t ∧ exec (.getCapabilities port req) s = .next t ∧
      exec (.negotiateAlgorithms port req asyms hashes) s = .next t ∧ exec (.getDigests port req) s = .next t ∧
      exec (.getCertificate port req slot i j) s = .next t ∧ exec (.challenge port req slot i) s = .next t ∧
      exec (.getMeasurements port req i b) s = .next t ∧ exec (.respondIfReady port req) s = .next t ∧
      exec (.spdmUnsupportedRequest port req) s = .next t)

/-! ## The boot ledger (spec/07) -/

/-- R226, R231, R241, R246, R248: the steps of an append and what asks for one: pending items are recorded one second after the
first of them, or after the period of 0x3100:0A; an append that is signed is programmed when its record fits; one that waits
goes on when there is room; its commit word commits it, and a failure of its programming is handled; the sector ahead of the
head is reclaimed when the fill policy lets it be. Where the spec is open it states the model's choice
(notes/assumptions/91.md). -/
def Obligations.LedgerStepsFollowTheAppend : Prop :=
  ∀ (s : State), s.live = true →
    (∀ t, s.ledger.pendingSince = some t → t + second ≤ s.now → exec .supplementPendingTimeout s = .next s.timedSupplement) ∧
    (s.objNum (okey 0x3100 0x0A) ≠ 0 → s.ledger.appendedAt + s.objNum (okey 0x3100 0x0A) * second ≤ s.now →
      exec .supplementPeriodExpiry s = .next s.timedSupplement) ∧
    (∀ k, exec (.ledgerSignaturesVerified k) s = .next (s.signaturesVerified k).afterAppend) ∧
    (∀ a : Append, s.ledger.append = some a →
      (a.stage = .waitingRoom → exec .ledgerRoomAvailable s = .next (s.seekRoom a).afterAppend) ∧
      (a.stage = .signed → s.makeRoom.hasRoom a.record.length = true → exec .ledgerRoomAvailable s =
        .next (((s.makeRoom.onLedger (fun l => { l with full := false })).programAppend a)).afterAppend) ∧
      (a.stage = .programmed →
        exec (.ledgerCommit false) s = .next (s.appendFails a).afterAppend ∧
        (a.rest = [] → a.request.kind = .primary → exec (.ledgerCommit true) s =
          .next ((((s.commitState a).watchHighWater).endAppendCmd a.request cmdDone 0).afterAppend)) ∧
        (a.rest = [] → a.request.kind = .rollover → exec (.ledgerCommit true) s =
          .next (((((s.commitState a).commitRollover a).watchHighWater).endAppendCmd a.request cmdDone 0).afterAppend)))) ∧
    (∀ x, s.nextUnerased = some x → s.mayReclaim x = true → exec .ledgerPreErase s = .next (s.reclaimLedger x))

/-- R234: what a committed record leaves in the ledger's own state: it is the last record of the list, with its sequence and hash
the last ones, the head stands behind its commit word, and no append is in progress; the older records stay. -/
def Obligations.CommitMovesTheLedgerOn : Prop :=
  ∀ (s : State) (a : Append),
    let t := s.commitState a
    t.ledger.last = a.sequence ∧ t.ledger.lastHash = sha384 a.record ∧ t.ledger.append = none ∧
    t.ledger.head = ringNext (commitAt (a.start.getD s.ledger.head) a.record.length) ∧
    (∃ r, t.ledger.records = s.ledger.records ++ [r] ∧ r.sequence = a.sequence ∧ r.hash = sha384 a.record ∧
      r.length = a.record.length ∧ r.kind = a.request.kind.code) ∧
    (s.ledger.records ≠ [] → t.ledger.tail = s.ledger.tail) ∧ t.vigil = s.vigil ∧ t.modes = s.modes ∧ t.tamper = s.tamper

/-- R255: a ring's registers other than CTRL keep their values while it is enabled; while it is not they take them, BASE_LO with
its low 12 bits zero and SIZE only as a power of two from 131,072 to 67,108,864 octets (the refusal of another size is the model's
choice, notes/assumptions/78.md). The other ring is not touched. -/
def Obligations.RingRegistersLockWhileEnabled : Prop :=
  ∀ (s : State) (r o : Fin 2) (reg : RingReg) (v : BitVec 32), s.live = true →
    exec (.ringCtrlWrite r reg v) s = .next (s.onRing r (ExportRing.write reg v)) ∧
    (s.ledger.rings[r].ctrl.getLsbD 0 = true → reg ≠ .ctrl → exec (.ringCtrlWrite r reg v) s = .next s) ∧
    (∀ t, exec (.ringCtrlWrite r reg v) s = .next t →
      (o ≠ r → t.ledger.rings[o] = s.ledger.rings[o]) ∧
      (s.ledger.rings[r].ctrl.getLsbD 0 = false →
        (reg = .baseLo → t.ledger.rings[r].baseLo = v &&& 0xFFFFF000) ∧ (reg = .baseHi → t.ledger.rings[r].baseHi = v) ∧
        (reg = .size → t.ledger.rings[r].size = (if ringSizeOk v then v else s.ledger.rings[r].size))))

/-- R257, R256, R413: CONS beyond PROD or off a frame boundary stops the ring with its error bit and an event; a CONS on a
boundary is taken; a ring that runs writes the next committed record or event record at PROD, or waits without room; the tag's
summary is written after a committed record, and again after a field command held it. Where the spec is open it states the
model's choice (notes/assumptions/60.md, 92.md). -/
def Obligations.RingsExportRecords : Prop :=
  ∀ (s : State) (r : Fin 2) (v : BitVec 32), s.live = true →
    ((v - s.ledger.rings[r].cons).toNat > s.ledger.rings[r].used → exec (.ringConsWrite r v) s =
      .next ((s.onRing r (fun x => { x with error := true, ctrl := x.ctrl &&& 6, waiting := false })).event
        (if r = 0 then 0x4E else 0x02) 0)) ∧
    (v = s.ledger.rings[r].cons → s.ledger.rings[r].ctrl.getLsbD 1 = false → s.ledger.rings[r].frameEnds = [] →
      exec (.ringConsWrite r v) s = .next (s.onRing r (fun x => { x with cons := v, frameEnds := [] }))) ∧
    (∀ q b, r = 0 → s.ledger.rings[r].ctrl.getLsbD 0 = true → s.modes.mode.ringsRun = true →
      s.ledger.records.find? (fun e => s.ledger.rings[(0 : Fin 2)].nextSeq ≤ e.sequence) = some q → s.recordOctets q = some b →
      s.ledger.tail ≤ s.ledger.rings[(0 : Fin 2)].nextSeq →
      let x := s.ledger.rings[(0 : Fin 2)]
      let f := recordFrame q.sequence b
      f.length ≤ x.size.toNat - x.prod.toNat % max 1 x.size.toNat → x.used + f.length ≤ x.size.toNat →
      exec .ringFrameWrite s = .next (((s.ringPut 0 f (some q.sequence)).onRing 0 (fun x =>
        { x with nextSeq := q.sequence + 1 })).ringSignal 0)) ∧
    (∀ e w, r = 1 → s.ledger.rings[r].ctrl.getLsbD 0 = true → s.modes.mode.ringsRun = true →
      s.tamper.index.find? (fun e => s.ledger.rings[(1 : Fin 2)].nextSeq ≤ e.1) = some e → s.slotWords e.2.1 = some w →
      s.tamper.tail ≤ s.ledger.rings[(1 : Fin 2)].nextSeq →
      s.ledger.rings[(1 : Fin 2)].used + 32 ≤ s.ledger.rings[(1 : Fin 2)].size.toNat →
      exec .eventRingEntryWrite s = .next (((s.ringPut 1 ([0x45, 0x52] ++ beOctets 6 e.1 ++ wordsBe w) (some e.1)).onRing 1
        (fun x => { x with nextSeq := e.1 + 1 })).ringSignal 1)) ∧
    (∀ held, held ≠ some 0 →
      let z := s.settleWrites.summary
      let t := (z.2.writeTag 0 z.1).onLedger (fun l => { l with summaryRetry := false, summaryDue := false })
      (s.ledger.summaryDue = true → exec (.tagSummaryWrite held) s = .next t) ∧
      (s.ledger.summaryRetry = true → exec (.tagSummaryRetry held) s = .next t))

/-! ## The Job Hub and its engines (spec/08, spec/09) -/

/-- R270, R271, R283, R284: the window registers of a level: a submission that fails a check leaves its code in JH_RESULT and
takes no slot; an accepted one leaves the handle of the slot it was granted; JH_POP takes the oldest entry of the window's
queue, frees its slot and returns handle and code, or zero from an empty queue; JH_ABORT aborts a job of the window that is not
final; JH_QUERY selects the handle. R278, R279: the registers of Monitor's window: JH_TAKE returns the handle of the next placed
job, or zero; JH_CURRENT names the pair's job; JH_DONE of a running job of the pair ends it Done with code 0 and else Failed
with its code; JH_CHECKPOINT of a running job of the pair without children writes the resumption word, and is refused while it
has children. Where the spec is open it states the model's choice (notes/assumptions/38.md, 105.md). -/
def Obligations.HubWindowsAndThePairsJobs : Prop :=
  (∀ (s : State) (p : Fin 4) (l : Level) (value : Word), s.pairAt p l = true →
     let w := windowIndex p l
     let j := jobOfWords s.hub.windows[w].desc p.val l
     let c := s.submitCheck p l j
     let parent := s.hub.current[p]
     let parentEpoch := match (s.slotOf parent).bind s.job with | some k => k.epoch | none => 0
     (c ≠ 0 → c ≠ quotaExceeded → c ≠ jhFull → exec (.jhSubmit p l) s =
       .next ((s.onHubWindow w (fun x => { x with result := (0, c) })).onPair p (Pair.perf 0x0D 1))) ∧
     (c = quotaExceeded ∨ c = jhFull → exec (.jhSubmit p l) s =
       .next (((s.bump (okey 0x4000 6)).onHubWindow w (fun x => { x with result := (0, c) })).onPair p (Pair.perf 0x0D 1))) ∧
     (∀ q slot, c = 0 → s.allocate { j with parent, parentEpoch } = (q, some slot) → exec (.jhSubmit p l) s =
       .next ((((q.startWaiting slot).failUnavailable j.cls).onHubWindow w (fun x =>
         { x with result := (q.handleOf slot, 0) })).onPair p (Pair.perf 0x0D 1))) ∧
     (s.hub.windows[w].queue = [] → exec (.jhPop p l) s = .next (s.send (.readData p 0))) ∧
     (∀ e rest slot, s.hub.windows[w].queue = e :: rest →
       let q := s.onHubWindow w (fun x => { x with queue := rest, popped := some e })
       q.slotOf e.handle = some slot → exec (.jhPop p l) s =
         .next ((q.freeSlot slot).send (.readData p (BitVec.ofNat 48 (e.handle.toNat * 2 ^ 24 + e.code))))) ∧
     (∀ slot k, s.slotOf (value.setWidth 24) = some slot → s.job slot = some k → k.st.isFinal = false →
       l = .monitor ∨ s.owns p l 64 slot = true → exec (.jhAbort p l value) s =
         .next ((s.abortJob slot).onHubWindow w (fun x => { x with result := (value.setWidth 24, 0) }))) ∧
     (s.slotOf (value.setWidth 24) = none → exec (.jhAbort p l value) s =
       .next (s.onHubWindow w (fun x => { x with result := (value.setWidth 24, noSuchJob) }))) ∧
     exec (.jhQuery p l value) s = .next (s.onHubWindow w (fun x => { x with query := value.setWidth 24 }))) ∧
  (∀ (s : State) (p : Fin 4) (value : Word), s.pairAt p .monitor = true →
     (s.hub.placed[p] = [] → exec (.jhTake p .monitor) s = .next (s.send (.readData p 0))) ∧
     (∀ h rest, s.hub.placed[p] = h :: rest → exec (.jhTake p .monitor) s =
       .next ((s.onHub (fun u => { u with placed := u.placed.set p rest })).send (.readData p (BitVec.ofNat 48 h.toNat)))) ∧
     exec (.jhCurrent p .monitor value) s =
       .next (s.onHub (fun u => { u with current := u.current.set p (value.setWidth 24) })) ∧
     (∀ slot j, s.slotOf (BitVec.ofNat 24 (bitsOf value 47 24)) = some slot → s.job slot = some j → j.cls = 5 →
       j.placement = 0x50 + p.val → j.st = .running →
       (bitsOf value 23 0 = 0 → exec (.jhDone p .monitor value) s = .next (s.endJob slot .done 0 0)) ∧
       (bitsOf value 23 0 ≠ 0 → exec (.jhDone p .monitor value) s = .next (s.failJob slot (bitsOf value 23 0))) ∧
       (s.childrenOf (BitVec.ofNat 24 (bitsOf value 47 24)) = [] → exec (.jhCheckpoint p .monitor value) s =
         .next (s.onJob slot (fun j => { j with
           checkpoint := some (bitsOf value 21 0)
           words := j.words.set 3 (BitVec.ofNat 48 (j.words[3].toNat / 2 ^ 28 * 2 ^ 28 + (0x100000 + bitsOf value 21 0) * 8)) }))) ∧
       (s.childrenOf (BitVec.ofNat 24 (bitsOf value 47 24)) ≠ [] → exec (.jhCheckpoint p .monitor value) s =
         .next (s.onHubWindow (windowIndex p .monitor) (fun x =>
           { x with result := (BitVec.ofNat 24 (bitsOf value 47 24), checkpointRefused) })))) ∧
     (s.slotOf (BitVec.ofNat 24 (bitsOf value 47 24)) = none →
       exec (.jhDone p .monitor value) s = .next (s.bump (okey 0x4000 3))))

/-- R274, R276, R280, R281, R284, R291: the hub's own moves: a pair job is placed on the pair that takes the next; an engine's
current result applies and a stale one is counted and dropped; a running engine job that overran is re-placed; aging counts one
period for every Ready or Suspended job and changes no other; waits for keys end KEY_ABSENT; an aborted pair job ends at its
bound; a suspension writes what was put out, seals the context and returns the job to its class. Where the spec is open it
states the model's choice (notes/assumptions/37.md, 39.md, 94.md). -/
def Obligations.HubPlacesAndEndsJobs : Prop :=
  ∀ (s : State) (slot : Fin 4096), s.live = true →
    (∀ p x j, (s.failUnavailable 5).modes.pfail = false → (s.failUnavailable 5).pairForJob = some p →
      (s.failUnavailable 5).bestJob (fun j => j.cls == 5 && j.st.placeable) = some (x, j) →
      let q := s.failUnavailable 5
      exec (.jobPlacement 5) s = .next ((q.startOn x (0x50 + p.val) id).onHub (fun h =>
        { h with placed := h.placed.set p (h.placed[p] ++ [q.handleOf x]) }))) ∧
    (∀ cls : Fin 6, cls ≠ 5 → let q := s.failUnavailable cls.val
      (q.modes.pfail = true → exec (.jobPlacement cls) s = .next q) ∧
      (∀ code x j, q.modes.pfail = false → (instancesOf cls.val).find? (fun code => q.instanceFree code &&
          (q.bestJob (fun j => j.cls == cls.val && q.candidate code j)).isSome) = some code →
        q.bestJob (fun j => j.cls == cls.val && q.candidate code j) = some (x, j) →
        exec (.jobPlacement cls) s = .next (q.placeEngine x j code))) ∧
    (∀ r : EngineResult, s.stale r = true → exec (.engineCompletion r) s = .next (s.bump (okey 0x4000 3))) ∧
    (∀ (r : EngineResult) j, s.stale r = false → s.job r.slot.val = some j → j.st = .running → j.cls ≤ 4 → j.stream = none →
      r.place = j.placement → r.epoch = j.epoch →
      exec (.engineCompletion r) s = .next (s.applyResult r.slot.val j r.place r.iterations)) ∧
    (∀ j key octets, s.job slot.val = some j → s.eng.contextKey = some key → s.maySuspend slot.val j = true →
      j.boundary octets = true →
      let data := s.partData j octets
      let q := s.commonsStores (s.suspendWrites j octets)
      exec (.jobSuspension slot octets) s = .next ((((q.sealContext j (j.before + octets - j.leading) (q.laneAfter j data) key).onJob
        slot.val (fun j =>
          { j with st := .suspended, placement := 0xFF, suspensions := min 255 (j.suspensions + 1), consumed := octets,
                   loaded := [], aged := 0 })).wrapBy (okey 0x4000 5) 1).wrapWord (okey 0x4100 5) 18 (laneIndex j.placement)
          (octets - j.consumed))) ∧
    (∀ t, exec .urgencyAging s = .next t → ∀ n, t.job n = (s.job n).map (fun j =>
      if j.st.placeable then ({ j with aged := j.aged + 1 } : Job) else j)) ∧
    exec .urgencyAging s = .next (s.onHub (fun h => { h with slots := h.slots.map (fun e =>
      (e.1, if e.2.st.placeable then { e.2 with aged := e.2.aged + 1 } else e.2)) })) ∧
    (∀ j, s.job slot.val = some j → j.st = .running → j.cls ≤ 4 → exec (.jobRunTimeout slot) s = .next (s.replaceJob slot.val)) ∧
    (∀ j, s.job slot.val = some j → j.cls = 5 → j.st = .aborting →
      exec (.pairJobAbortBound slot) s = .next (s.endJob slot.val .aborted jobAborted 0)) ∧
    exec .keyWaitExpiry s = .next (s.forAll (s.slotsWhere (fun j => j.st.placeable && (s.keySlot j.keyNumber).isNone &&
      (match j.keyWait with | some t => t + second ≤ s.now | none => false))) (fun x => State.failJob x keyAbsent))

/-- R311, R312, R340, R341: a fault of an instance in service is counted, re-places its job and asks for a self-test; a test that
is due and passes clears what asked for it; one that fails takes the instance out of service with an event. -/
def Obligations.FaultsAndSelfTestsOfInstances : Prop :=
  ∀ (s : State) (i : Fin 18) (u : Fin 3), s.live = true →
    (s.inService (laneCode i.val) = true → s.streamsOn (laneCode i.val) = [] →
      let q := (s.bumpWord (okey 0x4100 1) 18 i.val).instanceFault (laneCode i.val)
      q.worn (laneCode i.val) = false → exec (.laneFault i) s = .next q) ∧
    (s.testDue (laneCode i.val) s.eng.laneRun (s.objNum (okey 0x4100 3)) = true → s.streamsOn (laneCode i.val) = [] →
      exec (.laneSelfTest i true) s = .next ((s.onHealth (laneCode i.val) (fun h =>
        { h with testing := false, untested := false, testedAt := s.now })).laneRan (laneCode i.val) false) ∧
      exec (.laneSelfTest i false) s = .next (((s.bumpWord (okey 0x4100 2) 18 i.val).retireInstance (laneCode i.val)
        (laneClass i.val) 0x51).laneRan (laneCode i.val) true)) ∧
    (s.inService (unitCode u.val) = true →
      let q := (s.bumpWord (okey 0x4200 5) 3 u.val).instanceFault (unitCode u.val)
      (q.worn (unitCode u.val) = false → exec (.unitFault u) s = .next q) ∧
      (q.worn (unitCode u.val) = true → exec (.unitFault u) s =
        .next ((q.retireInstance (unitCode u.val) (unitClass u.val) 0x52).unitRan (unitCode u.val) false))) ∧
    (s.testDue (unitCode u.val) s.eng.unitRun (s.objNum (okey 0x4200 3)) = true →
      exec (.unitSelfTest u true) s = .next ((s.onHealth (unitCode u.val) (fun h =>
        { h with testing := false, untested := false, testedAt := s.now })).unitRan (unitCode u.val) false) ∧
      exec (.unitSelfTest u false) s = .next ((s.retireInstance (unitCode u.val) (unitClass u.val) 0x52).unitRan
        (unitCode u.val) true)) ∧
    (s.testDue (laneCode i.val) s.eng.laneRun (s.objNum (okey 0x4100 3)) = false → ∀ b, exec (.laneSelfTest i b) s = .next s) ∧
    (s.inService (laneCode i.val) = false → exec (.laneFault i) s = .next s)

/-! ## Keys and entropy (spec/11) -/

/-- R364, R365: a command code written to KU_GO while the window is busy reads COMMAND_BUSY and leaves the running command; else
the command runs, and ends with its code or waits for random words with the window busy. KU_ABORT ends a busy window's command
aborted and leaves another alone. A key slot whose not-after time has passed is emptied and the jobs that use it end. Where the
spec is open it states the model's choice (notes/assumptions/94.md). -/
def Obligations.KeyWindowsRunTheirCommands : Prop :=
  ∀ (s : State) (p : Fin 4) (l : Level) (g : KeyCmd) (i : Instr), s.pairAt p l = true →
    (g, i) ∈ [(KeyCmd.load, Instr.kuLoad p l), (.wrap, .kuWrap p l), (.generate, .kuGenerate p l), (.derive, .kuDerive p l),
      (.clear, .kuClear p l), (.info, .kuInfo p l), (.pubKey, .kuPublic p l), (.importKey, .kuImport p l)] →
    let w := s.keys.windows[windowIndex p l]
    (w.st = .busy → exec i s = .next (s.onKeyWindow p l (fun w => { w with code := commandBusy })) ∧
      exec (.kuAbort p l) s = .next (s.endKeyCommand p l .aborted actionAborted)) ∧
    (w.st ≠ .busy → exec (.kuAbort p l) s = .next s ∧
      (∀ q, s.runKeyCmd g p l w = (q, .ends 0) → exec i s = .next (q.endKeyCommand p l .done 0)) ∧
      (∀ q c, c ≠ 0 → s.runKeyCmd g p l w = (q, .ends c) → exec i s = .next (q.endKeyCommand p l .failed c)) ∧
      (∀ q k, s.runKeyCmd g p l w = (q, .waits k) →
        exec i s = .next (q.onKeyWindow p l (fun w => { w with st := .busy, code := 0, waits := some k })))) ∧
    (∀ (n : Fin 256) k, s.keySlot n.val = some k → (k.attrs.notAfter ≠ 0 ∧ k.attrs.notAfter < s.now →
        exec (.keyExpiry n) s = .next ((s.emptySlot n.val).keySlotGone n.val)) ∧
      (k.attrs.notAfter = 0 ∨ s.now ≤ k.attrs.notAfter → exec (.keyExpiry n) s = .next s))

/-- R372, R373, R374, R375: a read of ENT_TAKE takes the oldest word of the queue, or waits; a wait that still finds none ends
in a bus fault at its pointer; an instantiation or reseed empties the queue and uses the blocks of two cells; one generation
adds 64 words behind those that wait, and none is made with fewer than 64 places free. Where the spec is open it states the
model's choice (notes/assumptions/41.md, 42.md). -/
def Obligations.EntropyFlowsThroughTheQueue : Prop :=
  ∀ (s : State) (p : Fin 4) (l : Level), s.live = true →
    (s.pairAt p l = true → (∀ x q, s.takeWords 1 = some (x, q) → exec (.entTake p l) s =
        .next ((q.onPair p (fun q => { q with entropyWait := false })).send (.readData p (x.headD 0)))) ∧
      (s.takeWords 1 = none → exec (.entTake p l) s = .next (s.onPair p (fun q => { q with entropyWait := true })))) ∧
    (s.pairs[p].entropyWait = true → s.ent.queue = [] →
      exec (.entropyWaitTimeout p) s = .next (s.takeFault p (busTrap entropyWaitStatus (s.entTakePointer p)))) ∧
    (∀ a b, s.ent.st = 0 → s.cellsTested = true → 2 ≤ s.cellsInService →
      s.twoBlocks (fun m => m ≥ s.ent.eraseMoment) = some (a, b) →
      exec (.drbgInstantiate true) s = .next ((s.reseeded a b (Config.drbgInstantiate (entropyInput a b ++
        (beOctets 6 (s.counter 6) ++ beOctets 6 s.now ++ List.replicate 4 0) ++ s.objOctets (okey 0x1000 4)))).onEnt
          (fun e => { e with st := 1 }))) ∧
    exec (.drbgInstantiate false) s = .next s ∧
    (∀ a b, s.ent.st ≠ 0 → s.reseedBlocksNow = some (a, b) →
      let q := (s.reseeded a b (Config.drbgReseed s.ent.drbg (entropyInput a b))).wrapBy (okey 0x5100 0x0A) 1
      exec .drbgReseed s = .next (q.onEnt (fun e => { e with st := if s.cellsInService < 2 then 2 else 1 }))) ∧
    (s.ent.st = 1 → s.ent.queue.length ≤ 960 → s.objNum (okey 0x5100 8) < 1048576 →
      exec .drbgGenerate s = .next (((s.onEnt (fun e =>
        { e with queue := e.queue ++ (List.range 64).map (Config.drbgWord s.ent.drbg), drbg := Config.drbgNext s.ent.drbg,
                 delivered := true })).putNum (okey 0x5100 8) (s.objNum (okey 0x5100 8) + 1)).serveKeyWaits.drawContextKey)) ∧
    (960 < s.ent.queue.length → exec .drbgGenerate s = .next s) ∧
    (∀ (c : Fin 4) bits, (s.ent.cells[c].inService = false → exec (.rawBlockComplete c bits) s = .next s) ∧
      (s.ent.cells[c].inService = true →
        let l := s.rawBits bits
        let r := repetition (repetitionCutoff (s.cellValue 4 c)) l s.ent.cells[c].lastBit s.ent.cells[c].run false
        let q := s.onCell c (fun x => { x with lastBit := r.1, run := r.2.1 })
        (r.2.2 = true ∨ proportionHit (q.cellValue 5 c) l = true → exec (.rawBlockComplete c bits) s = .next (q.blockFails c)) ∧
        (r.2.2 = false → proportionHit (q.cellValue 5 c) l = false → s.ent.cells[c].startBlocks ≥ 4 →
          exec (.rawBlockComplete c bits) s = .next (q.blockPasses c l (s.cellValue 4 c)))))

/-! ## The tamper watch and vigil time (spec/12, spec/18) -/

/-- R385, R387, R388, R389, R390, R391, R381: what the watch does with the samples it takes with main power: an analog reading
is calibrated, kept with its raw code and compared on each side and against the clearing band, and a code at a rail raises 0x2C;
a fitted mesh, the Lining and the clocks raise or clear their sources; a sensor that is not sampled or not fitted changes
nothing; a core supply glitch raises 0x1D; a canary is an occurrence of 0x22; a recalibration whose targets are out of bounds is
held and raises 0x2C, and the raw thresholds are written after it. Where the spec is open it states the model's choice
(notes/assumptions/65.md). -/
def Obligations.SamplesWatchTheirSources : Prop :=
  ∀ (s : State), s.live = true →
    (∀ (k : Fin 9) (code : BitVec 16), k ≠ 7 →
      let v := s.calibrated k.val code.toNat
      let q := (s.putOctetsAt (okey 0x6000 1) (2 * k.val) (beOctets 2 (unsigned 16 v))).putOctetsAt (okey 0x6000 2) (2 * k.val)
        (beOctets 2 code.toNat)
      let r := ((q.sampleSide k.val false v code.toNat).sampleSide k.val true v code.toNat).sampleBand k.val v code.toNat
      (code = 0 ∨ code = 0xFFFF → exec (.sensorSample (.analog k code)) s = .next (r.raiseSource 0x2C (analogDetail v code.toNat))) ∧
      (code ≠ 0 → code ≠ 0xFFFF →
        exec (.sensorSample (.analog k code)) s = .next (r.settleSensorFault k.val code.toNat v))) ∧
    (∀ code : BitVec 16, exec (.sensorSample (.analog 7 code)) s = .next s) ∧
    (∀ (i : Fin 4) (r : MeshReading),
      (s.meshFitted i = true → exec (.sensorSample (.mesh i r)) s =
        .next (s.watch (0x11 + i.val) (r != .intact) (detailOf (meshCode r) 0))) ∧
      (s.meshFitted i = false → exec (.sensorSample (.mesh i r)) s = .next s) ∧
      exec (.sensorSample (.lining r)) s = .next (s.watch 0x10 (r != .intact) (detailOf (meshCode r) 0))) ∧
    exec (.sensorSample (.refClock false)) s = .next (s.raiseSource 0x1F 0) ∧
    (s.power.pll ≠ 2 → exec (.sensorSample (.refClock true)) s = .next (s.clearSource 0x1F 0)) ∧
    (∀ good, exec (.sensorSample (.peClock good)) s = .next (s.watch 0x20 (!good) 0)) ∧
    exec .vcoreGlitch s = .next ((s.onSide (sideKey 1 false) (fun x => { x with inside := 0 })).raiseSource 0x1D
      (BitVec.ofNat 48 (beNat (((s.objOctets (okey 0x6000 1)).drop 2).take 2) * 2 ^ 32 +
        beNat (((s.objOctets (okey 0x6000 2)).drop 2).take 2) * 2 ^ 16))) ∧
    (∀ b : CanaryBlock, exec (.faultInjectionCanary b) s = .next (s.occur 0x22 1 (canaryCode b * 2 ^ 32))) ∧
    (∀ (k : Fin 9) (ca cb : Int),
      let w0 := (s.objWords (okey 0x6000 4)).getD k.val 0
      targetsOk (calGain w0) (calOffset w0) ca (cb - ca) (s.referenceValue k.val 1 - s.referenceValue k.val 0)
          (s.referenceValue k.val 0) = false →
        exec (.sensorRecalibration k ca cb) s = .next (((s.onTamper (fun t =>
          { t with calHeld := t.calHeld.set k true })).raiseSource 0x2C 0).writeRawThresholds))

/-- R391: raising a source that stands raised, or clearing one that does not, changes nothing; raising one leaves it raised,
clearing it leaves it cleared, and neither touches another source. -/
def Obligations.RaisingIsOncePerRaise : Prop :=
  ∀ (s : State) (n m : Nat) (d : Word),
    ((s.source n).raised = true → s.raiseSource n d = s) ∧ ((s.source n).raised = false → s.clearSource n d = s) ∧
    ((s.raiseSource n d).source n).raised = true ∧ ((s.clearSource n d).source n).raised = false ∧
    (m ≠ n → (s.raiseSource n d).source m = s.source m ∧ (s.clearSource n d).source m = s.source m)

/-- R394 to R397, R404: the vigil domain with a supply: a cell source goes to the watch while the part is live, and on the cell
into a vigil record, with the erase line for response 0x4 and the flags of the others; the switches follow their alarm level; a
raising not acknowledged is the vigil domain's own; with the window open, the cell's removal sets its flag; the window closes at
its limit, and with the cell restored. R408, R410: a flush that is due programs the buffer with the event-log key; one that is
not due does nothing; the oldest unflushed record makes a flush due one second after it arose. Where the spec is open it states
the model's choice (notes/assumptions/33.md, 89.md). -/
def Obligations.VigilDomainWatchesAndFlushes : Prop :=
  (∀ (s : State), s.watching = true →
     (∀ (i : Fin 4) (r : MeshReading),
       (s.meshFitted i = true → exec (.vigilSample (.mesh i r)) s =
         .next (s.vigilWatch (0x11 + i.val) (r != .intact) (detailOf (meshCode r) 0))) ∧
       exec (.vigilSample (.lining r)) s = .next (s.vigilWatch 0x10 (r != .intact) (detailOf (meshCode r) 0))) ∧
     (∀ code : BitVec 16, s.live = false → exec (.vigilSample (.light code)) s = .next (s.rawWatch 0x1C 0 code.toNat)) ∧
     (∀ code : BitVec 16, s.live = true → exec (.vigilSample (.light code)) s = .next s ∧
       exec (.vigilSample (.temperature code)) s = .next (s.onVigil (fun v => { v with temperatureCode := some code.toNat })) ∧
       exec (.vigilSample (.cell code true)) s = .next (s.cellRemoved true)) ∧
     (∀ good, exec (.vigilSample (.crystal good)) s = .next (s.vigilWatch 0x21 (!good) 0)) ∧
     (∀ (i : Fin 4) (level : Bool),
       let q := s.onTamper (fun t => { t with switchLevels := t.switchLevels.set i level })
       (s.switchFitted i = true → exec (.switchDebounceExpiry i level) s =
           .next (q.vigilWatch (0x15 + i.val) (s.switchAlarm i level) (if level then 1 else 0)) ∧
         exec (.vigilSample (.switch i level)) s = exec (.switchDebounceExpiry i level) s) ∧
       (s.switchFitted i = false → exec (.switchDebounceExpiry i level) s = .next q)) ∧
     (∀ n : BitVec 8, (vigilSource n.toNat = true → exec (.vigilAckTimeout n) s = .next (s.vigilRaise n.toNat)) ∧
       (vigilSource n.toNat = false → exec (.vigilAckTimeout n) s = .next s)) ∧
     exec .cellWindowExpiry s = .next (s.closeCellWindow 1) ∧
     (s.flag flagCellAbsent = true → exec .cellRestored s = .next (s.closeCellWindow 2)) ∧
     (s.flag flagCellAbsent = false → exec .cellRestored s = .next s) ∧
     (s.vigil.windowSince = none → exec .cellWindowExpiry s = .next s)) ∧
  (∀ (s : State) (row : Option Nat), s.live = true →
     (∀ key, s.tamper.flushDue = true → s.keys.eventKey = some key →
       exec (.eventLogFlush row) s = .next (s.flushRows key row (s.tamper.buffer.length + 1) 0)) ∧
     (s.tamper.flushDue = false → exec (.eventLogFlush row) s = .next s) ∧
     (∀ t, s.tamper.oldest = some t → (t + second ≤ s.now → exec .flushAgeExpiry s =
         .next (s.onTamper (fun x => { x with flushDue := true }))) ∧
       (s.now < t + second → exec .flushAgeExpiry s = .next s)) ∧
     (∀ key q, s.keys.eventKey = some key → s.tamper.flushDue = true → s.tamper.buffer = [] →
       exec (.eventLogFlush row) s = .next q → q.tamper.flushDue = false ∧ q.tamper.buffer = []))

/-- R409, R569, R570, R572 to R577: vigil time: one edge gives 0, 1 or 2 ticks of the phase accumulator, which reach the copy
while its clock runs; a slew adds one tick or withholds one; the trim follows the current band; a measured window moves its
band's entry by a quarter of the difference, and a spoiled one moves none; clocks lost and returned move the PLL's state and
raise 0x1F; a copy that differs is reloaded and raises 0x21. Where the spec is open it states the model's choice
(notes/assumptions/90.md). -/
def Obligations.VigilTimeAndClocks : Prop :=
  ∀ (s : State), s.watching = true →
    (∀ r, r = trimStep s.vigil.phase s.vigil.trim →
      (s.vigil.withhold = false → (s.vigil.edge).time = (s.vigil.time + r.2) % 2 ^ 48 ∧ (s.vigil.edge).phase = r.1 ∧ r.2 ≤ 2) ∧
      (s.vigil.withhold = true → 0 < r.2 → (s.vigil.edge).time = (s.vigil.time + r.2 - 1) % 2 ^ 48 ∧
        (s.vigil.edge).withhold = false)) ∧
    (s.live = true → exec .vigilTick s = .next (((s.onVigil Vigil.edge).copyTime.applyTick).keepIssued)) ∧
    (s.live = false → exec .vigilTick s = .next (s.onVigil Vigil.edge)) ∧
    (s.vigil.withhold = false → 1 < s.vigil.slew → exec .slewStep s = .next ((s.onVigil (fun v =>
      { v with time := (v.time + 1) % 2 ^ 48, slew := v.slew - 1 })).copyTime)) ∧
    (s.vigil.withhold = false → s.vigil.slew < -1 → exec .slewStep s = .next ((s.onVigil (fun v =>
      { v with withhold := true, slew := v.slew + 1 })).copyTime)) ∧
    (s.vigil.withhold = false → s.vigil.slew = 1 → exec .slewStep s = .next (((s.onVigil (fun v =>
      { v with time := (v.time + 1) % 2 ^ 48, slew := 0 })).copyTime).doneCmd (okey 0x9000 7))) ∧
    (∀ b, s.currentBand = some b → exec .trimUpdate s = .next (s.onVigil (fun v => { v with trim := s.trimFor b }))) ∧
    exec .crystalStop s = .next ((s.onVigil (fun v => { v with crystalStopped := true })).vigilWatch 0x21 true 0) ∧
    (s.vigil.crystalStopped = true →
      exec .xt32Return s = .next ((s.onVigil (fun v => { v with crystalStopped := false })).vigilWatch 0x21 false 0)) ∧
    (s.live = true →
      (∀ (count : Nat) (mean : Int), (s.power.windowSpoiled = true ∨ (s.source 0x1F).raised = true ∨ (s.source 0x21).raised = true →
          exec (.crystalMeasurement count mean) s =
            .next ((s.putNum (okey 0x9000 0x0A) count).onPower (fun p => { p with windowSpoiled := false }))) ∧
        (s.power.windowSpoiled = false → (s.source 0x1F).raised = false → (s.source 0x21).raised = false →
          let q := (s.putNum (okey 0x9000 0x0A) count).onPower (fun p => { p with windowSpoiled := false })
          let e := q.trimEntry (trimBand mean)
          let v := if q.bandMeasured (trimBand mean) then e + roundHalfEven (measuredTrim count - e) 4 else measuredTrim count
          exec (.crystalMeasurement count mean) s = .next ((q.putOctetsAt (okey 0x9000 5) (3 * trimBand mean)
            (beOctets 3 (unsigned 24 v))).putNum (okey 0x9000 6)
              (q.objNum (okey 0x9000 6) |||
                2 ^ trimBand mean)))) ∧
      (s.power.ref25 = true → s.power.pll = 0 → exec .referenceClockLoss s = .next (((s.onPower (fun p =>
        { p with ref25 := false, pll := 1 })).bumpBy (okey 0x9000 0x0C) 24 1).raiseSource 0x1F 0)) ∧
      (s.power.ref25 = false → s.power.pll = 1 → exec (.referenceClockReturn true) s = .next (s.onPower (fun p =>
        { p with ref25 := true, pll := 0 }))) ∧
      (s.power.ref25 = false → s.power.pll ≠ 2 → exec (.referenceClockReturn false) s = .next ((s.onPower (fun p =>
        { p with ref25 := true, pll := 2 })).raiseSource 0x1F 0)) ∧
      (s.power.pll ≠ 2 → exec .pllLossOfLock s = .next ((s.onPower (fun p => { p with pll := 2 })).raiseSource 0x1F 0)) ∧
      (s.power.pll = 2 → exec .pllRelock s = .next (((s.onPower (fun p =>
        { p with pll := if p.ref25 then 0 else 1 })).bumpBy (okey 0x9000 0x0D) 24 1).raiseSource 0x1F 0)) ∧
      (s.vigil.copy ≠ s.vigil.time → exec .vigilCopyCheck s = .next (s.copyTime.raiseSource 0x21 0)) ∧
      (s.vigil.copy = s.vigil.time → exec .vigilCopyCheck s = .next s))

/-! ## The Onotte pairs (spec/13, spec/14) -/

/-- R422, R435: ADD and SUB give the sum and difference modulo 2^48 with the carry out of bit 47 and the borrow; MULHU and MADD
give the exact product's words: the low word and 2^48 times the high word make up ra × rb + rc + MH, which never overflows them.
-/
def Obligations.CarriesAndProductsAreExact : Prop :=
  ∀ (a b c m : Word) (k : Bool),
    (addCarry a b k).1.toNat + (if (addCarry a b k).2 then 2 ^ 48 else 0) = a.toNat + b.toNat + k.toNat ∧
    (subBorrow a b k).1.toNat + b.toNat + k.toNat = a.toNat + (if (subBorrow a b k).2 then 2 ^ 48 else 0) ∧
    (multiplyAdd a b c m).1.toNat + 2 ^ 48 * (multiplyAdd a b c m).2.toNat = a.toNat * b.toNat + c.toNat + m.toNat ∧
    (a * b).toNat + 2 ^ 48 * (mulHighU a b).toNat = a.toNat * b.toNat ∧
    ((mulHighS a b).toInt * 2 ^ 48 + (a * b).toNat : Int) = a.toInt * b.toInt

/-- R422, R429 to R435, R440: what the instructions that compute in registers leave in flight, each read at its distance: 1 for
most results, CY and MH, 4 for products; the instruction completes with its parcels, in a delay slot with its branch. Where the
spec is open it states the model's choice (notes/assumptions/52.md, 95.md). -/
def Obligations.RegisterInstructionsCompute : Prop :=
  ∀ (s : State) (p : Fin 4) (rd ra rb rc : Fin 16) (im : Imm) (mv : MoviImm) (hi : BitVec 24) (i : Instr) (n : Nat) (r : Pair),
    let q := s.pairs[p]
    let a := q.reg ra
    let b := q.reg rb
    (i, n, r) ∈ [(Instr.opAdd p rd ra rb, 1, (q.write rd (a + b)).writeAfter 1 .cy (boolWord (addCarry a b false).2)),
      (.opAddc p rd ra rb, 1, q.writeCarry rd (addCarry a b q.cy)),
      (.opSub p rd ra rb, 1, (q.write rd (a - b)).writeAfter 1 .cy (boolWord (a.ult b))),
      (.opSubb p rd ra rb, 1, q.writeCarry rd (subBorrow a b q.cy)),
      (.opAnd p rd ra rb, 1, q.write rd (a &&& b)), (.opOr p rd ra rb, 1, q.write rd (a ||| b)),
      (.opXor p rd ra rb, 1, q.write rd (a ^^^ b)), (.opAndn p rd ra rb, 1, q.write rd (a &&& ~~~b)),
      (.opShl p rd ra rb, 1, q.write rd (a <<< bitsOf b 5 0)), (.opShr p rd ra rb, 1, q.write rd (a >>> bitsOf b 5 0)),
      (.opSar p rd ra rb, 1, q.write rd (a.sshiftRight (bitsOf b 5 0))),
      (.opRol p rd ra rb, 1, q.write rd (a.rotateLeft (bitsOf b 5 0 % 48))),
      (.opSlt p rd ra rb, 1, q.write rd (if a.toInt < b.toInt then 1 else 0)),
      (.opSltu p rd ra rb, 1, q.write rd (if a.toNat < b.toNat then 1 else 0)),
      (.opSel p rd ra rb, 1, q.write rd (if q.cy then a else b)),
      (.opClz p rd ra rb, 1, q.write rd (BitVec.ofNat 48 (leadingZeros a))),
      (.opAddi p rd ra im, im.parcels, q.writeCarry rd (addCarry a im.word false)),
      (.opAndi p rd ra im, im.parcels, q.write rd (a &&& im.word)), (.opOri p rd ra im, im.parcels, q.write rd (a ||| im.word)),
      (.opXori p rd ra im, im.parcels, q.write rd (a ^^^ im.word)), (.opMovi p rd mv, mv.parcels, q.write rd mv.word),
      (.opMovhi p rd hi, 2, q.write rd ((hi.setWidth 48 <<< 24) ||| (q.reg rd &&& 0xFFFFFF))),
      (.opMul p rd ra rb, 1, q.writeAfter 4 (.g rd) (a * b)), (.opMulhu p rd ra rb, 1, q.writeAfter 4 (.g rd) (mulHighU a b)),
      (.opMulhs p rd ra rb, 1, q.writeAfter 4 (.g rd) (mulHighS a b)), (.opMfmh p rd, 1, q.write rd q.mh),
      (.opMtmh p ra, 1, q.writeAfter 1 .mh a),
      (.opMadd p rd ra rb rc, 2, (q.writeAfter 4 (.g rd) (multiplyAdd a b (q.reg rc) q.mh).1).writeAfter 4 .mh
        (multiplyAdd a b (q.reg rc) q.mh).2),
      (.opFence p, 1, q), (.opGfence p, 1, q),
      (.opIfence p, 1, { q with fetched := q.mem.filter (fun c => c.1 < 0x20000 * 8) })] →
    s.Issues p n .plain → exec i s = .next (s.afterOp p n r)

/-- R423, R425, R436, R461: the register instructions that can fault: with an operand they admit they leave their result in
flight and complete; else the pair takes the fault. Where the spec is open it states the model's choice
(notes/assumptions/53.md, 101.md, 106.md). -/
def Obligations.CheckedRegisterInstructions : Prop :=
  ∀ (s : State) (p : Fin 4) (rd ra rb : Fin 16) (im : Imm) (n : BitVec 8),
    let q := s.pairs[p]
    (s.Issues p 1 .plain →
      (∀ w, optrAdd (q.reg ra) (q.reg rb).toInt = some w → exec (.opOadd p rd ra rb) s = .next (s.afterOp p 1 (q.write rd w))) ∧
      (optrAdd (q.reg ra) (q.reg rb).toInt = none → exec (.opOadd p rd ra rb) s = .next (s.takeFault p (alignmentTrap 0))) ∧
      (∀ w, q.special p n.toNat = some w →
        (n.toNat < 0x10 ∨ q.level = .monitor → exec (.opMfsr p rd n) s = .next (s.afterOp p 1 (q.write rd w))) ∧
        (0x10 ≤ n.toNat → q.level ≠ .monitor → exec (.opMfsr p rd n) s = .next (s.takeFault p (privilegeTrap n.toNat)))) ∧
      (q.special p n.toNat = none → exec (.opMfsr p rd n) s = .next (s.takeFault p illegalTrap)) ∧
      (∀ r, q.setSpecial n.toNat (q.reg ra) = .ok r → exec (.opMtsr p n ra) s = .next (s.afterOp p 1 r)) ∧
      (∀ t, q.setSpecial n.toNat (q.reg ra) = .error t → exec (.opMtsr p n ra) s = .next (s.takeFault p t)) ∧
      (n.toNat < 8 → mayMask q.level n.toNat = true →
        exec (.opSetml p n) s = .next (s.afterOp p 1 (q.writeAfter 3 .ml ((n.setWidth 3).setWidth 48)))) ∧
      exec (.opLoopx p n) s = .next (s.afterOp p 1 (q.writeAfter 1 (.lc (if n.getLsbD 0 then 1 else 0)) 0))) ∧
    (s.Issues p im.parcels .plain → ∀ w, optrAdd (q.reg ra) im.word.toInt = some w →
      exec (.opOaddi p rd ra im) s = .next (s.afterOp p im.parcels (q.write rd w)))

/-- R432: SHI shifts or rotates by its amount of 0 to 63: from 48 on SHL and SHR give zero, SAR gives copies of bit 47, and ROL
rotates by the amount minus 48; kinds 4 to 7 are illegal instructions. -/
def Obligations.ShiftImmediatesFollowTheirKind : Prop :=
  ∀ (s : State) (p : Fin 4) (rd ra : Fin 16) (imm : BitVec 9), s.Issues p 1 .plain →
    let q := s.pairs[p]
    let a := q.reg ra
    let n := imm.toNat % 64
    let result := fun (w : Word) => (.next (s.afterOp p 1 (q.write rd w)) : Host.Outcome State Fault Refusal)
    (imm.toNat / 64 = 0 → exec (.opShi p rd ra imm) s = result (if 48 ≤ n then 0 else a <<< n)) ∧
    (imm.toNat / 64 = 1 → exec (.opShi p rd ra imm) s = result (if 48 ≤ n then 0 else a >>> n)) ∧
    (imm.toNat / 64 = 2 → exec (.opShi p rd ra imm) s =
      result (if 48 ≤ n then (if a.getLsbD 47 then 0xFFFFFFFFFFFF else 0) else a.sshiftRight n)) ∧
    (imm.toNat / 64 = 3 → exec (.opShi p rd ra imm) s = result (a.rotateLeft (if 48 ≤ n then n - 48 else n))) ∧
    (4 ≤ imm.toNat / 64 → exec (.opShi p rd ra imm) s = .next (s.takeFault p illegalTrap))

/-- R426: ODIF writes the octet distance (wa − wb) × 6 + (ia − ib) as a signed 48-bit value; with an index of 6 or 7 it raises an
alignment fault. -/
def Obligations.OctetDistanceOfPointers : Prop :=
  ∀ (s : State) (p : Fin 4) (rd ra rb : Fin 16), s.Issues p 1 .plain →
    let q := s.pairs[p]
    let a := (q.reg ra).toNat
    let b := (q.reg rb).toNat
    (a % 8 < 6 → b % 8 < 6 → exec (.opOdif p rd ra rb) s = .next (s.afterOp p 1 (q.write rd
      (BitVec.ofInt 48 (((a / 8 : Nat) - (b / 8 : Nat) : Int) * 6 + ((a % 8 : Nat) - (b % 8 : Nat) : Int)))))) ∧
    (6 ≤ a % 8 ∨ 6 ≤ b % 8 → exec (.opOdif p rd ra rb) s = .next (s.takeFault p (alignmentTrap 0)))

/-- R420, R421, R440, R487: one instruction that writes nothing but general register rd at distance 1, and stands in no delay
slot and at no loop end, moves on by its parcels; rd then reads the value (g0 reads zero); a register that no write in flight
names reads as before; no interrupt but 11, that of a counter's overflow, becomes pending; and memory, the commons, the other
pairs, the dictionary and the other units keep what they hold. Stated of AND, OR, XOR, ANDN and MOVI. Where the spec is open it
states the model's choice (notes/assumptions/52.md, 95.md). -/
def Obligations.RegisterInstructionsKeepTheRest : Prop :=
  ∀ (s t : State) (p o : Fin 4) (rd ra rb r : Fin 16) (mv : MoviImm) (i : Instr) (n : Nat) (v : Word),
    let q := s.pairs[p]
    (i, n, v) ∈ [(Instr.opAnd p rd ra rb, 1, q.reg ra &&& q.reg rb), (.opOr p rd ra rb, 1, q.reg ra ||| q.reg rb),
      (.opXor p rd ra rb, 1, q.reg ra ^^^ q.reg rb), (.opAndn p rd ra rb, 1, q.reg ra &&& ~~~(q.reg rb)),
      (.opMovi p rd mv, mv.parcels, mv.word)] →
    s.Issues p n .plain → q.branch = none → q.atLoopEnd 0 = false → q.atLoopEnd 1 = false → exec i s = .next t →
    let u := t.pairs[p]
    u.ip = q.ip + BitVec.ofNat 48 n ∧ u.reg rd = (if rd = 0 then 0 else v) ∧ (r ≠ rd → q.quiet r → u.reg r = q.reg r) ∧
    u.mem = q.mem ∧ u.fetched = q.fetched ∧ u.level = q.level ∧ u.stack = q.stack ∧ u.rsp = q.rsp ∧ u.dsl = q.dsl ∧
    u.branch = none ∧ u.waiting = false ∧ (∀ k : Fin 16, k ≠ 11 → u.ipend.getLsbD k.val = q.ipend.getLsbD k.val) ∧ u.doubleFault = q.doubleFault ∧
    (q.inFlight = [] → u.cy = q.cy ∧ u.mh = q.mh ∧ u.ls = q.ls ∧ u.le = q.le ∧ u.lc = q.lc ∧ u.ml = q.ml ∧ u.inFlight = []) ∧
    (o ≠ p → t.pairs[o] = s.pairs[o]) ∧ t.commons = s.commons ∧ t.dict = s.dict ∧ t.hub = s.hub ∧ t.flash = s.flash ∧
    t.gaunt = s.gaunt ∧ t.keys = s.keys ∧ t.modes = s.modes ∧ t.out = s.out

/-- R443, R444, R446, R447: control: a branch records itself, with its target where its condition holds, and its delay slot
follows; a jump or return always has a target; a call needs room for its entry; a loop set-up with a count other than zero
leaves its registers in flight with distance 3, and one with count zero goes on behind the loop's last instruction. Where the
spec is open it states the model's choice (notes/assumptions/52.md, 95.md). -/
def Obligations.ControlInstructionsBranch : Prop :=
  ∀ (s : State) (p : Fin 4) (ra rb : Fin 16) (d : Imm) (j : JumpDisp) (i : Instr) (n : Nat) (taken : Bool) (w : Word),
    let q := s.pairs[p]
    let a := q.reg ra
    let b := q.reg rb
    let recorded := fun (target : Option Word) (push pop : Bool) =>
      ({ q with branch := some { pointer := q.ip.setWidth 26, target, push, pop } } : Pair)
    ((i, n, taken, w) ∈ [(Instr.opBeq p ra rb d, d.parcels, a == b, q.ip + d.word), (.opBne p ra rb d, d.parcels, a != b, q.ip + d.word),
        (.opBlt p ra rb d, d.parcels, decide (a.toInt < b.toInt), q.ip + d.word),
        (.opBge p ra rb d, d.parcels, decide (b.toInt ≤ a.toInt), q.ip + d.word),
        (.opBltu p ra rb d, d.parcels, decide (a.toNat < b.toNat), q.ip + d.word),
        (.opBgeu p ra rb d, d.parcels, decide (b.toNat ≤ a.toNat), q.ip + d.word),
        (.opBz p ra d, d.parcels, a == 0, q.ip + d.word), (.opBnz p ra d, d.parcels, a != 0, q.ip + d.word),
        (.opBcy p ra d, d.parcels, q.cy, q.ip + d.word), (.opBnc p ra d, d.parcels, !q.cy, q.ip + d.word),
        (.opBneg p ra d, d.parcels, decide (a.toInt < 0), q.ip + d.word), (.opBpos p ra d, d.parcels, decide (0 ≤ a.toInt), q.ip + d.word),
        (.opBr p j, j.parcels, true, q.ip + j.word), (.opJr p ra, 1, true, a)] →
      s.Issues p n .control → exec i s = .next (s.afterOp p n (recorded (if taken then some w else none) false false))) ∧
    ((i, n, w) ∈ [(Instr.opCall p j, j.parcels, q.ip + j.word), (.opCallr p ra, 1, a)] → s.Issues p n .control →
      (∀ r, q.pushEntry q.level 0 = .ok r → exec i s = .next (s.afterOp p n (recorded (some w) true false))) ∧
      (∀ t, q.pushEntry q.level 0 = .error t → exec i s = .next (s.takeFault p t))) ∧
    (s.Issues p 1 .control → ∀ r, q.popEntry q.level = .ok (w, r) →
      (entryKind w = 0 → exec (.opRet p) s = .next (s.afterOp p 1 (recorded (some (w &&& 0x3FFFFFF)) false true))) ∧
      (entryKind w ≠ 0 → exec (.opRet p) s = .next (s.takeFault p (returnStackTrap q.level)))) ∧
    (∀ (set : Fin 2) (k e : BitVec 12) (x : BitVec 24) (c : Word) (l : Nat),
      (i, n, c, l) ∈ [(Instr.opLoop p set ra e, 1, a, e.toNat), (.opLoopi p set k x, 2, k.setWidth 48, x.toNat)] →
      s.Issues p n .control →
      (l < n + 2 → exec i s = .next (s.takeFault p illegalTrap)) ∧
      (n + 2 ≤ l →
        let last := q.ip + BitVec.ofNat 48 l
        let r := (((q.writeAfter 3 (.ls set) (q.ip + BitVec.ofNat 48 n)).writeAfter 3 (.le set) last).writeAfter 3 (.lc set)
          c).writeAfter 3 (.setLevel set) (BitVec.ofNat 48 q.level.num)
        (c ≠ 0 → exec i s = .next (s.afterOp p n r)) ∧
        (c = 0 → exec i s = .next ((s.onPair p (fun _ =>
          { r with ip := last + BitVec.ofNat 48 (parcelCount ((s.onPair p (fun _ => r)).fetchedParcel p last)) })).retire p))))

/-- R437, R450 to R453: loads leave the part of the word they name, extended as they say, in flight with distance 3; stores
store what storeAt says at the effective pointer; a misaligned base faults; PUSH and POP move g15 by one word; a string
instruction performs the elements asked for and completes when g14 is zero. Where the spec is open it states the model's choice
(notes/assumptions/50.md, 106.md). -/
def Obligations.MemoryInstructionsAccess : Prop :=
  ∀ (s : State) (p : Fin 4) (rd ra : Fin 16) (d : Imm) (b : BusReply) (i : Instr) (z : Size) (sg : Bool) (ptr : Word),
    let q := s.pairs[p]
    ((i, z, sg) ∈ [(Instr.opLdw p rd ra d b, Size.word, false), (.opLdh p rd ra d b, .half, false), (.opLdhs p rd ra d b, .half, true),
        (.opLdo p rd ra d b, .octet, false), (.opLdos p rd ra d b, .octet, true)] → s.Issues p d.parcels .load →
      (effective (q.reg ra) d z = none → exec i s = .next (s.takeFault p (alignmentTrap 0))) ∧
      (effective (q.reg ra) d z = some ptr → q.entropyWait = false →
        (∀ u w, s.load p q.level z ptr b = .ok u w → exec i s = .next (((u.onPair p (fun q =>
          ({ q with entropyWait := false } : Pair).writeAfter 3 (.g rd) (if sg then z.signed w else w))).stallCycles p
            (ptr.toNat / 8)).complete p d.parcels q.branch)) ∧
        (∀ u t, s.load p q.level z ptr b = .trap u t → exec i s = .next (u.takeFault p t)) ∧
        (s.load p q.level z ptr b = .stall → exec i s = .next (s.onPair p (fun q => { q with entropyWait := true }))))) ∧
    ((i, z) ∈ [(Instr.opStw p rd ra d b, Size.word), (.opSth p rd ra d b, .half), (.opSto p rd ra d b, .octet)] →
      s.Issues p d.parcels .plain →
      (effective (q.reg ra) d z = none → exec i s = .next (s.takeFault p (alignmentTrap 0))) ∧
      (effective (q.reg ra) d z = some ptr →
        (∀ u w, s.storeAt p q.level z ptr (q.reg rd) b = .ok u w → exec i s = .next (u.complete p d.parcels q.branch)) ∧
        (∀ u t, s.storeAt p q.level z ptr (q.reg rd) b = .trap u t → exec i s = .next (u.takeFault p t)))) ∧
    (s.Issues p 1 .plain →
      (∀ u w, optrAdd (q.reg 15) (-6) = some ptr → s.storeAt p q.level .word ptr (q.reg ra) .ok = .ok u w →
        (q.dsl[q.level.idx].toNat ≤ ptr.toNat →
          exec (.opPush p ra) s = .next ((u.onPair p (fun q => q.write 15 ptr)).complete p 1 q.branch)) ∧
        (ptr.toNat < q.dsl[q.level.idx].toNat → exec (.opPush p ra) s = .next (s.takeFault p dataStackTrap))) ∧
      (∀ u w, optrAdd (q.reg 15) 6 = some ptr → s.load p q.level .word (q.reg 15) .ok = .ok u w →
        exec (.opPop p rd) s = .next ((u.onPair p (fun q => (q.writeAfter 3 (.g rd) w).write 15 ptr)).complete p 1 q.branch))) ∧
    (∀ (k : Nat) (x : StringOp), (i, x) ∈ [(Instr.opMovo p k, ({ size := .octet, fill := none, step := 1 } : StringOp)),
        (.opMovod p k, { size := .octet, fill := none, step := -1 }), (.opMovw p k, { size := .word, fill := none, step := 6 }),
        (.opFillo p ra k, { size := .octet, fill := some (q.reg ra), step := 1 }),
        (.opFillw p ra k, { size := .word, fill := some (q.reg ra), step := 6 })] → s.Issues p 1 .string →
      (q.reg 14 = 0 → exec i s = .next (s.complete p 1 q.branch)) ∧
      (q.reg 14 ≠ 0 → x.startOk q = false → exec i s = .next (s.takeFault p (alignmentTrap 0))) ∧
      (q.reg 14 ≠ 0 → x.startOk q = true →
        (∀ u, s.elements p x (min k (q.reg 14).toNat) = (u, none) →
          exec i s = .next (if u.pairs[p].reg 14 = 0 then u.complete p 1 q.branch else u)) ∧
        (∀ u t, s.elements p x (min k (q.reg 14).toNat) = (u, some t) → exec i s = .next (u.takeFault p t))))

/-- R437: a store to the pair's memory or the commons changes the word it names and no other: every octet outside it reads as
before, in the pair's memory, in the commons and in the other pairs' memories; a store to the pair's own memory leaves the
inserted word to be read there. -/
def Obligations.StoresChangeTheirWord : Prop :=
  ∀ (s u : State) (p : Fin 4) (l : Level) (z : Size) (ptr v w : Word) (b : BusReply), ptr.toNat / 8 < 0x1000000 →
    s.storeAt p l z ptr v b = .ok u w →
    sameMemoryExcept s u p (ptr.toNat / 8) ∧
    (ptr.toNat / 8 < 0x40000 → octetsWord (memOctets u.pairs[p].mem (ptr.toNat / 8 * 8) 6) =
      z.insert ptr (octetsWord (memOctets s.pairs[p].mem (ptr.toNat / 8 * 8) 6)) v)

/-- R430, R436, R454, R462, R463, R467, R472, R475: the system group and the pair's own commands: a breakpoint is an exception
after its instruction; WAIT completes and stops issue until a source is admitted; a spill at Monitor puts a level's entries in memory; SYS enters its gate, or is a privilege fault; ERET
restores the frame it finds; an interrupt that is due is entered at its vector with its priority as ML; an illegal instruction
faults. Where the spec is open it states the model's choice (notes/assumptions/55.md, 104.md). -/
def Obligations.SystemInstructionsAndEntries : Prop :=
  ∀ (s : State) (p : Fin 4) (n : BitVec 8),
    let q := s.pairs[p]
    (s.Issues p 1 .plain → exec (.opBrk p n) s = .next (s.breakpoint p n.toNat q.branch) ∧
      exec (.opWait p) s = .next ((s.complete p 1 q.branch).onPair p (fun r => { r with waiting := r.firstAdmitted.isNone })) ∧
      (∀ l, q.level = .monitor → Level.ofNum (n.toNat % 4) = some l →
        (q.stack[l.idx] = [] → exec (.opRsspill p n) s = .next (s.complete p 1 q.branch)) ∧
        (∀ r, q.stack[l.idx] ≠ [] → q.spillTo l q.stack[l.idx].length = .ok r →
          exec (.opRsspill p n) s = .next (s.afterOp p 1 (r.perf 8 1))))) ∧
    (s.Issues p 1 .control →
      (∀ e, e = q.gateEntry n.toNat →
        (q.gtcount.toNat ≤ n.toNat → exec (.opSys p n) s = .next (s.takeFault p (privilegeTrap n.toNat))) ∧
        (∀ k : Fin 3, (k = 1 ∨ k = 2) → n.toNat < q.gtcount.toNat → bitsOf e 47 46 = k.val → q.level.num ≤ k.val →
          bitsOf e 45 44 ≤ q.level.num → s.badArgument p e = none →
          exec (.opSys p n) s = .next ((s.retire p).enterException p
            { cause := 0x0A, sub := n.toNat, detail := 0, pointer := q.ip + 1, ds := false,
              target := if k = 1 then .supervisor else .monitor, ml := none, gate := some (e &&& 0x3FFFFFF) }))) ∧
      (∀ x r w r' u f sp, x = s.onPair p Pair.flush → r = x.pairs[p] → ¬(r.level = .monitor ∧ r.doubleFault = true) → r.popEntry r.level = .ok (w, r') → entryKind w = 1 →
          (x.onPair p (fun _ => r')).readFrame p r.level 10 (r.g15[r.level.idx]) = .ok (u, f) →
          bitsOf (f.getD 0 0) 31 30 ≤ bitsOf w 45 44 → frameAdmitted r.level (f.getD 0 0) = true →
          optrAdd r.g15[r.level.idx] 60 = some sp →
          exec (.opEret p) s = .next ((u.onPair p (fun q =>
            { q with g15 := q.g15.set r.level.idx sp }.restore f)).retire p))) ∧
    (∀ a b, illegalParcels a b = true → s.Issues p (parcelCount a) .plain →
      exec (.illegalInstruction p a b) s = .next (s.takeFault p illegalTrap)) ∧
    (s.runs p = false → exec (.interrupt p) s = .next s) ∧
    (s.runs p = true →
      (∀ k, q.interruptDue = some k → exec (.interrupt p) s = .next ((s.drawFree.2.onPair p (fun q =>
        if q.waiting then (q.perf 0x0E s.drawFree.1.toNat).perf 0x0A 1 else q.perf 0x0A 1)).enterException p
          { cause := 0x10 + k, sub := k, detail := 0, pointer := q.ip, ds := false, target := sourceTarget k,
            ml := some (BitVec.ofNat 3 (q.priority k)), gate := none })) ∧
      (q.interruptDue = none → exec (.interrupt p) s = .next s))

/-- R32, R462, R480 to R487: writes of a pair's registers that the rules admit have the register's effect, and others fault; a
timer that runs raises its source and stops; a lockstep mismatch is counted, logged and resets the pair; a pair in reset comes
back at the running image's entry. Where the spec is open it states the model's choice (notes/assumptions/48.md, 49.md, 51.md).
-/
def Obligations.PairRegistersTimersAndLockstep : Prop :=
  ∀ (s : State) (p : Fin 4) (l : Level) (v : Word) (i : Instr) (off : Nat) (gate : Fin 14) (rule : Fin 16) (k : Fin 2),
    (i, off) ∈ [(Instr.iclear p l v, 0x3007 + 0x100 * p.val), (.doorbell p l v, 0x300B + 0x100 * p.val),
      (.pcovfWrite p l v, 0x3027 + 0x100 * p.val), (.gauntletRuleWrite p l gate rule v, 0x6001 + 0x20 * gate.val + 2 * rule.val)] →
    s.live = true →
    (s.pairAt p l = true → (∀ t, s.accessTrap p l (0x1000000 + off) .write (BitVec.ofNat 48 ((0x1000000 + off) * 8)) = some t →
        exec i s = .next (s.takeFault p t)) ∧
      (∀ t, s.accessTrap p l (0x1000000 + off) .write (BitVec.ofNat 48 ((0x1000000 + off) * 8)) = none →
        s.regWrite p l off v = some t → exec i s = .next t)) ∧
    (s.pairAt p l = false → exec i s = .next s) ∧
    (∀ (m : Fin 4) (o : Fin 2048), exec (.registerWrite (.requestOctet m o) v) s = .next (s.onDict (fun d =>
      { d with mailbox := d.mailbox.set m { d.mailbox[m] with reqBuf := memSet d.mailbox[m].reqBuf o.val (v.setWidth 8) } }))) ∧
    (s.pairs[p].timers[k] ≠ 0 → exec (.timerExpiry p k) s =
      .next (s.onPair p (fun q => { q with timers := q.timers.set k 0 }.interrupt (4 + k.val)))) ∧
    (s.pairs[p].timers[k] = 0 → exec (.timerExpiry p k) s = .next s) ∧
    (s.pairs[p].inService = true → exec (.lockstepMismatch p) s =
      .next (((s.bumpWord (okey 0x7100 0x43) 4 p.val).event 0x58 (detailOf 1 (p.val * 2 ^ 32))).resetPair p)) ∧
    (s.pairs[p].inService = false → s.dict.restarting = false → s.modes.starting = false →
      exec (.pairReturnToService p) s = .next (s.onPair p (Pair.bringUp s.entryParcel)))

/-! ## The flash (spec/15) -/

/-- R494 to R514: the controller's commands on both paths: on the direct path a locked controller answers its code, an unopened
or late key is a key failure, and with the keys in order the operation is submitted at class 2 or the erase control acts and
ends Done; the queue's next descriptor is taken when it holds the command; the key register steps through its two values; the
tail submits descriptors and aborts end what they name; the end of an operation programs its words, and a failed one spoils
them; margin reads go on in order; an erase that has run its minimum makes way. Where the spec is open it states the model's
choice (notes/assumptions/30.md). -/
def Obligations.FlashCommandsRun : Prop :=
  ∀ (s : State) (p : Fin 4) (k : FlashCmd) (i : FlashVia → Instr) (b : Fin 2) (v : Word), s.live = true →
    (k, i) ∈ [(FlashCmd.wordProgram, Instr.wordProgram), (.rowProgram, .rowProgram), (.sectorErase, .sectorErase),
      (.eraseSuspend, .eraseSuspend), (.eraseResume, .eraseResume), (.retireWord, .retireWord), (.marginRead, .marginRead),
      (.counterIncrement, .counterIncrement), (.counterSet, .counterSet), (.optionRewrite, .optionRewrite),
      (.lifecycleAdvance, .flashLifecycleAdvance)] →
    (s.atMonitor p = true →
      (s.flash.locked = true → ∀ t, exec (i (.direct p b t)) s = .next (s.onFlash (fun c =>
        { c with fcState := flashFailed, fcCode := pathLocked, keyStage := 0 }))) ∧
      (s.flash.locked = false → s.flash.keyStage ≠ 2 → ∀ t, exec (i (.direct p b t)) s = .next s.keyFailure) ∧
      (s.flash.locked = false → s.flash.keyStage = 2 → s.flash.fcState ≠ flashBusy →
        let q := s.onFlash (fun c => { c with fcState := flashBusy, fcCode := 0, keyStage := 0, keyFails := 0 })
        exec (i (.direct p b true)) s = .next (if k = .eraseSuspend ∨ k = .eraseResume then
          (q.eraseControl k b.val).reportFlash .direct flashDone 0 else q.submitFlash (q.directOp k b.val))) ∧
      exec (.fcKey p v) s = .next (s.onFlash (fun c =>
        { c with keyStage := if v = 0x6E2F41 then 1 else if v = 0x91D0BE && c.keyStage = 1 then 2 else 0 })) ∧
      (s.flash.fcState = flashBusy → exec (.fcAbort p) s = .next (s.abortFlash .direct)) ∧
      (s.flash.fcState ≠ flashBusy → exec (.fcAbort p) s = .next s) ∧
      exec (.fqTailWrite p v) s = .next (s.fqTail (v.toNat % 512)) ∧
      (∀ x, s.flash.fqOpen.find? (fun i => bitsOf (s.descWord i 3) 23 0 == bitsOf v 23 0) = some x → s.takeable.contains x = true →
        exec (.fqAbort p v) s = .next (s.reportFlash (.queue x) flashStopped flashAborted))) ∧
    (∀ x rest o, s.flash.fqCtrl.getLsbD 0 = true → s.takeable = x :: rest → s.descOp x = some o → o.cmd = k →
      exec (i .queue) s = .next (s.takeDesc x)) ∧
    (∀ o, (s.bank b.val).running = some o →
      exec (.flashOperationComplete b .verified) s = .next (s.flashVerified b.val o) ∧
      exec (.flashOperationComplete b .failed) s = .next (s.flashBroken b.val o) ∧
      (o.cmd = .wordProgram → exec (.flashOperationComplete b .verified) s =
        .next ((s.programWords b.val (o.addr + o.progress) (o.words.drop o.progress)).endFlash b.val o flashDone 0)) ∧
      (o.cmd = .counterIncrement → exec (.flashOperationComplete b .verified) s =
        .next ((s.counterInc (o.addr % 8)).endFlash b.val o flashDone 0)) ∧
      (o.isErase = true → exec (.eraseMinimumRunExpiry b) s =
        .next ((s.onBank b.val (fun k => { k with ranMinimum := true })).pump b.val))) ∧
    ((s.bank b.val).running = none → ∀ e, exec (.flashOperationComplete b e) s = .next s) ∧
    (∀ n c, s.flash.powerFail = false → exec (.periodicMarginRead n c) s = .next (s.marginStep n c))

/-! ## The contactless side and the cards (spec/16, spec/17) -/

/-- R520 to R525, R529: the tag in a field that it may answer in goes through the states of its initialisation, activation and
transport: an expected frame moves it on and is answered, HLTA and a deselection halt it, DOFF silences it until its deadline, a
request before the application is selected is answered 6d 00; PPS is refused without an answer; the loss of the field abandons
the exchange. Where the spec is open it states the model's choice (notes/assumptions/67.md). -/
def Obligations.TagAnswersItsReader : Prop :=
  ∀ (s : State), s.tag.field = true → s.tagMay = true →
    (s.tag.st = .idle → exec .reqa s = .next ((s.tagState .ready1).tagSend [0x44, 0x00]) ∧
      exec .wupa s = .next ((s.tagState .ready1).tagSend [0x44, 0x00])) ∧
    (s.tag.st = .halt → exec .reqa s = .next s ∧ exec .wupa s = .next ((s.tagState .ready1Star).tagSend [0x44, 0x00])) ∧
    (s.tag.st = .ready1 → ∀ uid bits, uid.take 4 = (s.cascade 0).take 4 →
      exec (.tagSelect 0 uid) s = .next ((s.tagState .ready2).tagSend [0x04]) ∧
      exec (.tagSelect 1 uid) s = .next (s.tagState .idle) ∧
      (bits.isPrefixOf (bitsOfOctets (s.cascade 0)) = true →
        let rest := (bitsOfOctets (s.cascade 0)).drop bits.length
        exec (.anticollision 0 bits) s = .next (s.tagSend (octetsOfBits ((rest.length + 7) / 8) rest)))) ∧
    (s.tag.st = .ready2 → ∀ uid, uid.take 4 = (s.cascade 1).take 4 →
      exec (.tagSelect 1 uid) s = .next ((s.tagState .active).tagSend [0x20])) ∧
    (s.tag.st.isActive = true → exec .hlta s = .next (s.tagState .halt) ∧
      exec .rats s = .next ((s.onTag (fun t =>
        { t with st := .protocol, selected := false, chained := [], blockNumber := true, lastReply := [] })).tagSend
          [0x05, 0x78, 0x80, 0x70, 0x02]) ∧
      exec .doff s = .next ((((s.tagSend [0x0A]).bump (okey 0x8000 0x0A)).tagState .powerOff).onVigil (fun v =>
        { v with doff := some (s.now + s.objNum (okey 0x8000 7) * second) }))) ∧
    exec .pps s = .next s ∧
    (s.tag.st = .protocol →
      exec .sDeselect s = .next ((s.onTag (fun t => { t with st := .halt, selected := false, chained := [] })).tagSend [0xC2]) ∧
      (∀ a, exec (.rBlock a s.tag.blockNumber) s = .next (s.tagSend s.tag.lastReply)) ∧
      exec (.apduSelect tagAid) s =
        .next ((s.settleWrites.onTag (fun t => { t with selected := true })).apduAnswer [0x90, 0x00]) ∧
      (∀ aid, aid ≠ tagAid → exec (.apduSelect aid) s = .next (s.settleWrites.apduAnswer [0x6D, 0x00])) ∧
      exec .unknownApdu s = .next (s.settleWrites.apduAnswer [0x6D, 0x00]) ∧
      (s.settleWrites.tag.selected = false → exec .directory s = .next (s.settleWrites.apduAnswer [0x6D, 0x00]))) ∧
    exec .fieldLoss s = .next (s.settleWrites.onTag (fun t =>
      { t with field := false, st := .powerOff, selected := false, chained := [], lastReply := [] }))

/-- R520, R524 to R526, R529 to R531: in the selected application a record that the field may read is answered with its
committed content, an empty one 6a 83 and a protected one 69 82; a chained write gathers its blocks and only its last one writes
the record, through the copy that is not the current one; the directory lists every record's length and attributes; an
ENVELOPE's frame is read or written as on the other transports, and refused otherwise. A field that appears wakes the tag out of
Doff only, and Doff ends at its deadline. Where the spec is open it states the model's choice (notes/assumptions/73.md). -/
def Obligations.TagRecordsAreReadAndWritten : Prop :=
  ∀ (s : State),
    (∀ q, q = s.settleWrites →
      s.tag.field = true → s.tagMay = true → s.tag.st = .protocol → q.tag.selected = true →
      (∀ r : Fin 256, 32 ≤ r.val → exec (.readRecord r) s = .next (q.apduAnswer [0x6A, 0x83])) ∧
      (∀ (r : Fin 256) b, r.val < 32 → (q.tagAttr (Fin.ofNat 32 r.val)).testBit 0 = true →
        q.recordData (Fin.ofNat 32 r.val) = some b → exec (.readRecord r) s = .next (q.apduAnswer (b ++ [0x90, 0x00]))) ∧
      (∀ (r : Fin 256), r.val < 32 → (q.tagAttr (Fin.ofNat 32 r.val)).testBit 0 = false →
        exec (.readRecord r) s = .next (q.apduAnswer [0x69, 0x82])) ∧
      (∀ (r : Fin 256) (d : List Byte), exec (.writeRecord r d true) s = .next ((q.onTag (fun t =>
        { t with chained := q.tag.chained ++ d, blockNumber := !t.blockNumber })).tagSend
          [if q.tag.blockNumber then 0xA2 else 0xA3])) ∧
      (∀ (r : Fin 256) (d : List Byte), r.val < 32 → (q.tagAttr (Fin.ofNat 32 r.val)).testBit 1 = true →
        (q.tag.chained ++ d).length ≤ 1008 → exec (.writeRecord r d false) s =
          .next (((q.onTag (fun t => { t with chained := [] })).writeTag (Fin.ofNat 32 r.val) (q.tag.chained ++ d)).apduAnswer
            [0x90, 0x00])) ∧
      exec .directory s = .next (q.apduAnswer ((List.ofFn (fun r : Fin 32 => r)).flatMap (fun r =>
        beOctets 2 ((q.recordData r).getD []).length ++ [octet (q.tagAttr r)]) ++ [0x90, 0x00])) ∧
      (∀ (f g : Frame) r a b, g = { f with transport := .tag } → q.modes.mainPower = true →
        (q.countFreezeWrite g).receive g = (r, .request a b) →
        (f.kind = kindRead → exec (.envelope f) s = .next (r.readRequest g a)) ∧
        (f.kind = kindWrite → exec (.envelope f) s = .next (r.writeRequest none [] g a b)) ∧
        (f.kind ≠ kindRead → f.kind ≠ kindWrite → exec (.envelope f) s = .next (r.answerAs kindError g accessDenied [] false))) ∧
      (q.modes.mainPower = false → ∀ f, exec (.envelope f) s = .next (q.apduAnswer [0x69, 0x85]))) ∧
    (∀ (r : Fin 32) (b : List Byte) (x : Fin 32), currentCopy s.tag.records[r] = none →
      (s.writeTag r b).recordData r = some b ∧ (x ≠ r → (s.writeTag r b).recordData x = s.recordData x)) ∧
    (s.tagSupplied = true → s.vigil.doff = none →
      exec .fieldOn s = .next (s.onTag (fun t => { t with field := true, st := .idle }))) ∧
    (∀ d, s.vigil.doff = some d → (d ≤ s.now → exec .doffDeadline s =
        .next ((s.onVigil (fun v => { v with doff := none })).onTag (fun t =>
          { t with st := if t.field then .idle else .powerOff }))) ∧
      (s.now < d → exec .doffDeadline s = .next s)) ∧
    (∀ e, s.tag.field = true → s.tagMay = true → s.tag.st ≠ .protocol → exec (.envelope e) s = .next s.tagUnexpected)

/-- R402, R534 to R537, R547, R551, R552, R555, R556: the officer reader and the card bus: an open presentation polls and keeps
the tokens that it has not rejected; a token that left is forgotten, one that fails a step is rejected; the timeout ends the
presentation; a seated card takes the lowest free address; an archive that is not due changes nothing; a card's responses move
its operation on; a journal entry in doubt is resolved by what the card holds. Where the spec is open it states the model's
choice (notes/assumptions/68.md). -/
def Obligations.ReaderAndCardsFollowTheirSteps : Prop :=
  ∀ (s : State), s.live = true →
    (s.presenting = true → ∀ l, exec (.readerPoll true l) s = .next (s.wrapBy (okey 0x8000 0x14) 1) ∧
      exec (.readerPoll false l) s = .next ((s.send (.reader [0x26])).onTag (fun t =>
        { t with selectedTokens := l.filter (fun u => !t.rejected.contains u) }))) ∧
    (∀ p t, s.tag.presentation = some p → s.tag.selectedTokens.contains t.uid = true →
      let q := s.onTag (fun x => { x with selectedTokens := x.selectedTokens.filter (fun u => u != t.uid) })
      (t.left = true → exec (.tokenAuthentication t) s = .next q) ∧
      (∀ n, t.left = false → t.failedStep = some n → exec (.tokenAuthentication t) s = .next (q.rejectToken t.uid n)) ∧
      (t.left = false → t.failedStep = none → s.tag.purpose ≠ purposeEnrolment →
        exec (.tokenAuthentication t) s = .next (q.authenticatePair p t))) ∧
    (s.tag.purpose ≠ purposeUnlock → exec .presentationTimeout s = .next (s.closePresentation cmdFailed elevationFailed)) ∧
    (s.tag.purpose = purposeUnlock → exec .presentationTimeout s =
      .next ((s.bumpBy (okey 0x6100 0x31) 24 1).closePresentation cmdFailed elevationFailed)) ∧
    (∀ (k i : Fin 4) (c : CardReply), s.cardsOn = true → s.cards.detect[k] = false → c.ready = true →
      cardIndexes.find? (fun i => (s.card i).isNone) = some i →
      exec (.cardInsertion k c) s = .next (((s.onCards (fun x => { x with detect := x.detect.set k true })).setCard i
        (some (cardEntry c))).onCards (fun x => { x with staged := x.staged.set i (List.replicate 6 0) }))) ∧
    (∀ (k : Fin 4) l, s.cardsOn = true → s.cards.detect[k] = true → exec (.cardRemoval k l) s =
      .next (((s.onCards (fun x => { x with detect := x.detect.set k false })).abortCardOp actionAborted).forAll cardIndexes
        (fun i s => if l.getD i.val false then s
          else (s.setCard i none).onCards (fun x => { x with staged := x.staged.set i (List.replicate 6 0) }))).turnCards) ∧
    (s.objNum (okey 0x3100 0x22) = 0 → exec .cardArchive s = .next s) ∧
    (s.objNum (okey 0x3100 0x22) ≠ 0 → s.cardBusFree = true → s.archiveCard = none →
      exec .cardArchive s = .next (s.archiveState 3)) ∧
    (∀ o, s.cards.op = some o →
      (o.busy = true → exec .cardWriteBusyEnd s = .next ((s.onCards (fun c =>
          { c with op := some { o with busy := false } })).send (.card o.index [0x4D])) ∧
        exec .cardBusyTimeout s = .next (s.missCard o)) ∧
      exec (.cardStatusResponse .badToken) s = .next (s.failCard o) ∧
      (o.busy = false → exec (.cardStatusResponse .missing) s = .next (s.missCard o) ∧
        (∀ bits, cardErrors bits = true → exec (.cardStatusResponse (.response bits)) s = .next (s.failCard o)) ∧
        (∀ bits, cardErrors bits = false → bits.toNat / 2 ^ 9 % 16 = 4 →
          (o.step = 3 → exec (.cardStatusResponse (.response bits)) s = .next (s.writeLabel o)) ∧
          (o.step ≠ 3 → exec (.cardStatusResponse (.response bits)) s = .next (s.finishCard o o.index))))) ∧
    (∀ (i : Fin 4) e c l ok, s.doubtOf i = some e → s.cardsOn = true → s.modes.mode.usesCards = true → s.cards.op = none →
      s.cardRecovery = false → c.length = 512 * (e.blocks + 1) → sha384 c = e.digest →
      Label.ofOctets (c.drop (512 * e.blocks)) = some l →
      exec (.journalResolution i c ok) s =
        .next (((s.closeEntry e outcomeDone).setLabel i e.labelBlock (some l)).advanceCard e i l).turnCards)

/-! ## Islands, the link, snapshots and the freeze (spec/18, spec/19) -/

/-- R561 to R567, R570, R579, R582 to R587: an island idle long enough rests at the deepest level that its conditions admit, a
wake begins its exit and is counted, and the exit ends at its target; the link's events set its state; a dump period takes a
snapshot; FRZ_N freezes in Forensic and is counted elsewhere; the read-out port answers in Forensic alone, and an image word
only once frozen. Where the spec is open it states the model's choice (notes/assumptions/90.md, 109.md). -/
def Obligations.IslandsSnapshotsAndFreeze : Prop :=
  ∀ (s : State) (i : Fin 26), s.live = true →
    (∀ n, s.modes.mode ≠ .forensic → s.modes.pfail = false → (s.island i).changing = none → (s.island i).level < s.levelFor i →
      max 10 (4 * exitLatency (s.levelFor i)) ≤ n →
      exec (.islandEntry i n) s = .next (s.onIsland i (fun _ => { level := s.levelFor i, changing := none }))) ∧
    ((s.island i).level ≠ 0 → (s.island i).changing ≠ some 0 → exec (.islandWake i) s =
      .next ((s.onIsland i (fun x => { x with changing := some 0 })).wrapWord (okey 0x1300 5) 26 i.val)) ∧
    ((s.island i).level = 0 → exec (.islandWake i) s = .next s) ∧
    (∀ l, (s.island i).changing = some l →
      exec (.islandExitComplete i) s = .next (s.onIsland i (fun _ => { level := l, changing := none }))) ∧
    (∀ b, s.power.vpea = true → exec (.pcieLinkUp b) s = .next (((s.onPower (fun p =>
      { p with link := true, l1 := false, ltrEnable := b, peRefclk := true })).onDict (fun d => { d with perst := false })).sendLtr)) ∧
    (s.power.link = false → ∀ b, exec (.pcieLinkL1Transition b) s = .next s) ∧
    (s.power.link = true → exec (.pcieLinkL1Transition true) s = .next (
      let q := s.onPower (fun p => { p with l1 := true })
      if q.deepest 20 < (q.island 20).level then q.wakeIsland 20 else q)) ∧
    (s.objNum (okey 0x7100 2) ≠ 0 → exec .performanceDump s = .next s.snapshot) ∧
    (s.objNum (okey 0x7100 2) = 0 → exec .performanceDump s = .next s) ∧
    (∀ n, (n < 100 → exec (.freezePin n) s = .next s) ∧
      (100 ≤ n → s.modes.mode = .forensic → exec (.freezePin n) s =
        .next (s.onPower (fun p => { p with frozen := some (.pin, s.now) }))) ∧
      (100 ≤ n → s.modes.mode ≠ .forensic → exec (.freezePin n) s = .next s.ignoredFreeze)) ∧
    (s.power.freezeScheduled = true → s.modes.mode = .forensic → exec .freezeCommandDelay s =
      .next (s.onPower (fun p => { p with frozen := some (.command, s.now), freezeScheduled := false }))) ∧
    (s.modes.mainPower = true → s.modes.mode = .forensic →
      (s.power.frozen = none → ∀ a n, exec (.readoutRead a n) s = .next (s.send (.readout (readoutAnswer 1 []))) ∧
        ∀ env, exec (.readoutRelease a env) s = .next (s.send (.readout (readoutAnswer 1 [])))) ∧
      (s.power.frozen.isSome = true →
        (∀ a n, 0 < n → n ≤ 65536 → a + n ≤ freezeSize → exec (.readoutRead a n) s =
          .next (s.send (.readout (readoutAnswer 0 ((List.range n).map (fun i => s.freezeWord (a + i))))))) ∧
        (∀ env, exec (.readoutRelease 0x525354 env) s =
          .next ((s.send (.readout (readoutAnswer 0 []))).deviceReset env)) ∧
        (∀ c, c ≠ 0x5A → c ≠ 0xC3 → exec (.readoutUnknownCommand c) s = .next (s.send (.readout (readoutAnswer 3 [])))))) ∧
    (s.modes.mode ≠ .forensic → ∀ a n env c, exec (.readoutRead a n) s = .next s ∧ exec (.readoutRelease a env) s = .next s ∧
      exec (.readoutUnknownCommand c) s = .next s) ∧
    (∀ a b, (s.modes.mode = .blank ∨ s.modes.mode = .factory → exec (.boundaryScan a b) s =
        .next (s.drawFree.2.send (.tdo (s.drawFree.1.getLsbD 0)))) ∧
      (s.modes.mode ≠ .blank → s.modes.mode ≠ .factory → exec (.boundaryScan a b) s = .next s))
end

