-- ==== Sys2Proof/Laws/State.lean ====
section
/-! SUPPORT. One lemma per field and update of the state, true by rfl: later proofs unfold no record update. -/

namespace Sys2Proof.Machine

variable (s : State)

/-! onDict -/
@[simp] theorem State.onDict_dict (f : Dictionary → Dictionary) : (s.onDict f).dict = f s.dict := rfl
@[simp] theorem State.onDict_integ (f : Dictionary → Dictionary) : (s.onDict f).integ = s.integ := rfl
@[simp] theorem State.onDict_modes (f : Dictionary → Dictionary) : (s.onDict f).modes = s.modes := rfl
@[simp] theorem State.onDict_chans (f : Dictionary → Dictionary) : (s.onDict f).chans = s.chans := rfl
@[simp] theorem State.onDict_cons (f : Dictionary → Dictionary) : (s.onDict f).cons = s.cons := rfl
@[simp] theorem State.onDict_att (f : Dictionary → Dictionary) : (s.onDict f).att = s.att := rfl
@[simp] theorem State.onDict_ledger (f : Dictionary → Dictionary) : (s.onDict f).ledger = s.ledger := rfl
@[simp] theorem State.onDict_hub (f : Dictionary → Dictionary) : (s.onDict f).hub = s.hub := rfl
@[simp] theorem State.onDict_eng (f : Dictionary → Dictionary) : (s.onDict f).eng = s.eng := rfl
@[simp] theorem State.onDict_keys (f : Dictionary → Dictionary) : (s.onDict f).keys = s.keys := rfl
@[simp] theorem State.onDict_ent (f : Dictionary → Dictionary) : (s.onDict f).ent = s.ent := rfl
@[simp] theorem State.onDict_vigil (f : Dictionary → Dictionary) : (s.onDict f).vigil = s.vigil := rfl
@[simp] theorem State.onDict_tamper (f : Dictionary → Dictionary) : (s.onDict f).tamper = s.tamper := rfl
@[simp] theorem State.onDict_pairs (f : Dictionary → Dictionary) : (s.onDict f).pairs = s.pairs := rfl
@[simp] theorem State.onDict_gaunt (f : Dictionary → Dictionary) : (s.onDict f).gaunt = s.gaunt := rfl
@[simp] theorem State.onDict_flash (f : Dictionary → Dictionary) : (s.onDict f).flash = s.flash := rfl
@[simp] theorem State.onDict_tag (f : Dictionary → Dictionary) : (s.onDict f).tag = s.tag := rfl
@[simp] theorem State.onDict_cards (f : Dictionary → Dictionary) : (s.onDict f).cards = s.cards := rfl
@[simp] theorem State.onDict_power (f : Dictionary → Dictionary) : (s.onDict f).power = s.power := rfl
@[simp] theorem State.onDict_commons (f : Dictionary → Dictionary) : (s.onDict f).commons = s.commons := rfl
@[simp] theorem State.onDict_free (f : Dictionary → Dictionary) : (s.onDict f).free = s.free := rfl
@[simp] theorem State.onDict_out (f : Dictionary → Dictionary) : (s.onDict f).out = s.out := rfl
@[simp] theorem State.onDict_pending (f : Dictionary → Dictionary) : (s.onDict f).pending = s.pending := rfl

/-! onInteg -/
@[simp] theorem State.onInteg_dict (f : Integrity → Integrity) : (s.onInteg f).dict = s.dict := rfl
@[simp] theorem State.onInteg_integ (f : Integrity → Integrity) : (s.onInteg f).integ = f s.integ := rfl
@[simp] theorem State.onInteg_modes (f : Integrity → Integrity) : (s.onInteg f).modes = s.modes := rfl
@[simp] theorem State.onInteg_chans (f : Integrity → Integrity) : (s.onInteg f).chans = s.chans := rfl
@[simp] theorem State.onInteg_cons (f : Integrity → Integrity) : (s.onInteg f).cons = s.cons := rfl
@[simp] theorem State.onInteg_att (f : Integrity → Integrity) : (s.onInteg f).att = s.att := rfl
@[simp] theorem State.onInteg_ledger (f : Integrity → Integrity) : (s.onInteg f).ledger = s.ledger := rfl
@[simp] theorem State.onInteg_hub (f : Integrity → Integrity) : (s.onInteg f).hub = s.hub := rfl
@[simp] theorem State.onInteg_eng (f : Integrity → Integrity) : (s.onInteg f).eng = s.eng := rfl
@[simp] theorem State.onInteg_keys (f : Integrity → Integrity) : (s.onInteg f).keys = s.keys := rfl
@[simp] theorem State.onInteg_ent (f : Integrity → Integrity) : (s.onInteg f).ent = s.ent := rfl
@[simp] theorem State.onInteg_vigil (f : Integrity → Integrity) : (s.onInteg f).vigil = s.vigil := rfl
@[simp] theorem State.onInteg_tamper (f : Integrity → Integrity) : (s.onInteg f).tamper = s.tamper := rfl
@[simp] theorem State.onInteg_pairs (f : Integrity → Integrity) : (s.onInteg f).pairs = s.pairs := rfl
@[simp] theorem State.onInteg_gaunt (f : Integrity → Integrity) : (s.onInteg f).gaunt = s.gaunt := rfl
@[simp] theorem State.onInteg_flash (f : Integrity → Integrity) : (s.onInteg f).flash = s.flash := rfl
@[simp] theorem State.onInteg_tag (f : Integrity → Integrity) : (s.onInteg f).tag = s.tag := rfl
@[simp] theorem State.onInteg_cards (f : Integrity → Integrity) : (s.onInteg f).cards = s.cards := rfl
@[simp] theorem State.onInteg_power (f : Integrity → Integrity) : (s.onInteg f).power = s.power := rfl
@[simp] theorem State.onInteg_commons (f : Integrity → Integrity) : (s.onInteg f).commons = s.commons := rfl
@[simp] theorem State.onInteg_free (f : Integrity → Integrity) : (s.onInteg f).free = s.free := rfl
@[simp] theorem State.onInteg_out (f : Integrity → Integrity) : (s.onInteg f).out = s.out := rfl
@[simp] theorem State.onInteg_pending (f : Integrity → Integrity) : (s.onInteg f).pending = s.pending := rfl

/-! onModes -/
@[simp] theorem State.onModes_dict (f : Modes → Modes) : (s.onModes f).dict = s.dict := rfl
@[simp] theorem State.onModes_integ (f : Modes → Modes) : (s.onModes f).integ = s.integ := rfl
@[simp] theorem State.onModes_modes (f : Modes → Modes) : (s.onModes f).modes = f s.modes := rfl
@[simp] theorem State.onModes_chans (f : Modes → Modes) : (s.onModes f).chans = s.chans := rfl
@[simp] theorem State.onModes_cons (f : Modes → Modes) : (s.onModes f).cons = s.cons := rfl
@[simp] theorem State.onModes_att (f : Modes → Modes) : (s.onModes f).att = s.att := rfl
@[simp] theorem State.onModes_ledger (f : Modes → Modes) : (s.onModes f).ledger = s.ledger := rfl
@[simp] theorem State.onModes_hub (f : Modes → Modes) : (s.onModes f).hub = s.hub := rfl
@[simp] theorem State.onModes_eng (f : Modes → Modes) : (s.onModes f).eng = s.eng := rfl
@[simp] theorem State.onModes_keys (f : Modes → Modes) : (s.onModes f).keys = s.keys := rfl
@[simp] theorem State.onModes_ent (f : Modes → Modes) : (s.onModes f).ent = s.ent := rfl
@[simp] theorem State.onModes_vigil (f : Modes → Modes) : (s.onModes f).vigil = s.vigil := rfl
@[simp] theorem State.onModes_tamper (f : Modes → Modes) : (s.onModes f).tamper = s.tamper := rfl
@[simp] theorem State.onModes_pairs (f : Modes → Modes) : (s.onModes f).pairs = s.pairs := rfl
@[simp] theorem State.onModes_gaunt (f : Modes → Modes) : (s.onModes f).gaunt = s.gaunt := rfl
@[simp] theorem State.onModes_flash (f : Modes → Modes) : (s.onModes f).flash = s.flash := rfl
@[simp] theorem State.onModes_tag (f : Modes → Modes) : (s.onModes f).tag = s.tag := rfl
@[simp] theorem State.onModes_cards (f : Modes → Modes) : (s.onModes f).cards = s.cards := rfl
@[simp] theorem State.onModes_power (f : Modes → Modes) : (s.onModes f).power = s.power := rfl
@[simp] theorem State.onModes_commons (f : Modes → Modes) : (s.onModes f).commons = s.commons := rfl
@[simp] theorem State.onModes_free (f : Modes → Modes) : (s.onModes f).free = s.free := rfl
@[simp] theorem State.onModes_out (f : Modes → Modes) : (s.onModes f).out = s.out := rfl
@[simp] theorem State.onModes_pending (f : Modes → Modes) : (s.onModes f).pending = s.pending := rfl

/-! onChans -/
@[simp] theorem State.onChans_dict (f : Vector Channel 12 → Vector Channel 12) : (s.onChans f).dict = s.dict := rfl
@[simp] theorem State.onChans_integ (f : Vector Channel 12 → Vector Channel 12) : (s.onChans f).integ = s.integ := rfl
@[simp] theorem State.onChans_modes (f : Vector Channel 12 → Vector Channel 12) : (s.onChans f).modes = s.modes := rfl
@[simp] theorem State.onChans_chans (f : Vector Channel 12 → Vector Channel 12) : (s.onChans f).chans = f s.chans := rfl
@[simp] theorem State.onChans_cons (f : Vector Channel 12 → Vector Channel 12) : (s.onChans f).cons = s.cons := rfl
@[simp] theorem State.onChans_att (f : Vector Channel 12 → Vector Channel 12) : (s.onChans f).att = s.att := rfl
@[simp] theorem State.onChans_ledger (f : Vector Channel 12 → Vector Channel 12) : (s.onChans f).ledger = s.ledger := rfl
@[simp] theorem State.onChans_hub (f : Vector Channel 12 → Vector Channel 12) : (s.onChans f).hub = s.hub := rfl
@[simp] theorem State.onChans_eng (f : Vector Channel 12 → Vector Channel 12) : (s.onChans f).eng = s.eng := rfl
@[simp] theorem State.onChans_keys (f : Vector Channel 12 → Vector Channel 12) : (s.onChans f).keys = s.keys := rfl
@[simp] theorem State.onChans_ent (f : Vector Channel 12 → Vector Channel 12) : (s.onChans f).ent = s.ent := rfl
@[simp] theorem State.onChans_vigil (f : Vector Channel 12 → Vector Channel 12) : (s.onChans f).vigil = s.vigil := rfl
@[simp] theorem State.onChans_tamper (f : Vector Channel 12 → Vector Channel 12) : (s.onChans f).tamper = s.tamper := rfl
@[simp] theorem State.onChans_pairs (f : Vector Channel 12 → Vector Channel 12) : (s.onChans f).pairs = s.pairs := rfl
@[simp] theorem State.onChans_gaunt (f : Vector Channel 12 → Vector Channel 12) : (s.onChans f).gaunt = s.gaunt := rfl
@[simp] theorem State.onChans_flash (f : Vector Channel 12 → Vector Channel 12) : (s.onChans f).flash = s.flash := rfl
@[simp] theorem State.onChans_tag (f : Vector Channel 12 → Vector Channel 12) : (s.onChans f).tag = s.tag := rfl
@[simp] theorem State.onChans_cards (f : Vector Channel 12 → Vector Channel 12) : (s.onChans f).cards = s.cards := rfl
@[simp] theorem State.onChans_power (f : Vector Channel 12 → Vector Channel 12) : (s.onChans f).power = s.power := rfl
@[simp] theorem State.onChans_commons (f : Vector Channel 12 → Vector Channel 12) : (s.onChans f).commons = s.commons := rfl
@[simp] theorem State.onChans_free (f : Vector Channel 12 → Vector Channel 12) : (s.onChans f).free = s.free := rfl
@[simp] theorem State.onChans_out (f : Vector Channel 12 → Vector Channel 12) : (s.onChans f).out = s.out := rfl
@[simp] theorem State.onChans_pending (f : Vector Channel 12 → Vector Channel 12) : (s.onChans f).pending = s.pending := rfl

/-! onCons -/
@[simp] theorem State.onCons_dict (f : Consistency → Consistency) : (s.onCons f).dict = s.dict := rfl
@[simp] theorem State.onCons_integ (f : Consistency → Consistency) : (s.onCons f).integ = s.integ := rfl
@[simp] theorem State.onCons_modes (f : Consistency → Consistency) : (s.onCons f).modes = s.modes := rfl
@[simp] theorem State.onCons_chans (f : Consistency → Consistency) : (s.onCons f).chans = s.chans := rfl
@[simp] theorem State.onCons_cons (f : Consistency → Consistency) : (s.onCons f).cons = f s.cons := rfl
@[simp] theorem State.onCons_att (f : Consistency → Consistency) : (s.onCons f).att = s.att := rfl
@[simp] theorem State.onCons_ledger (f : Consistency → Consistency) : (s.onCons f).ledger = s.ledger := rfl
@[simp] theorem State.onCons_hub (f : Consistency → Consistency) : (s.onCons f).hub = s.hub := rfl
@[simp] theorem State.onCons_eng (f : Consistency → Consistency) : (s.onCons f).eng = s.eng := rfl
@[simp] theorem State.onCons_keys (f : Consistency → Consistency) : (s.onCons f).keys = s.keys := rfl
@[simp] theorem State.onCons_ent (f : Consistency → Consistency) : (s.onCons f).ent = s.ent := rfl
@[simp] theorem State.onCons_vigil (f : Consistency → Consistency) : (s.onCons f).vigil = s.vigil := rfl
@[simp] theorem State.onCons_tamper (f : Consistency → Consistency) : (s.onCons f).tamper = s.tamper := rfl
@[simp] theorem State.onCons_pairs (f : Consistency → Consistency) : (s.onCons f).pairs = s.pairs := rfl
@[simp] theorem State.onCons_gaunt (f : Consistency → Consistency) : (s.onCons f).gaunt = s.gaunt := rfl
@[simp] theorem State.onCons_flash (f : Consistency → Consistency) : (s.onCons f).flash = s.flash := rfl
@[simp] theorem State.onCons_tag (f : Consistency → Consistency) : (s.onCons f).tag = s.tag := rfl
@[simp] theorem State.onCons_cards (f : Consistency → Consistency) : (s.onCons f).cards = s.cards := rfl
@[simp] theorem State.onCons_power (f : Consistency → Consistency) : (s.onCons f).power = s.power := rfl
@[simp] theorem State.onCons_commons (f : Consistency → Consistency) : (s.onCons f).commons = s.commons := rfl
@[simp] theorem State.onCons_free (f : Consistency → Consistency) : (s.onCons f).free = s.free := rfl
@[simp] theorem State.onCons_out (f : Consistency → Consistency) : (s.onCons f).out = s.out := rfl
@[simp] theorem State.onCons_pending (f : Consistency → Consistency) : (s.onCons f).pending = s.pending := rfl

/-! onAtt -/
@[simp] theorem State.onAtt_dict (f : Attestation → Attestation) : (s.onAtt f).dict = s.dict := rfl
@[simp] theorem State.onAtt_integ (f : Attestation → Attestation) : (s.onAtt f).integ = s.integ := rfl
@[simp] theorem State.onAtt_modes (f : Attestation → Attestation) : (s.onAtt f).modes = s.modes := rfl
@[simp] theorem State.onAtt_chans (f : Attestation → Attestation) : (s.onAtt f).chans = s.chans := rfl
@[simp] theorem State.onAtt_cons (f : Attestation → Attestation) : (s.onAtt f).cons = s.cons := rfl
@[simp] theorem State.onAtt_att (f : Attestation → Attestation) : (s.onAtt f).att = f s.att := rfl
@[simp] theorem State.onAtt_ledger (f : Attestation → Attestation) : (s.onAtt f).ledger = s.ledger := rfl
@[simp] theorem State.onAtt_hub (f : Attestation → Attestation) : (s.onAtt f).hub = s.hub := rfl
@[simp] theorem State.onAtt_eng (f : Attestation → Attestation) : (s.onAtt f).eng = s.eng := rfl
@[simp] theorem State.onAtt_keys (f : Attestation → Attestation) : (s.onAtt f).keys = s.keys := rfl
@[simp] theorem State.onAtt_ent (f : Attestation → Attestation) : (s.onAtt f).ent = s.ent := rfl
@[simp] theorem State.onAtt_vigil (f : Attestation → Attestation) : (s.onAtt f).vigil = s.vigil := rfl
@[simp] theorem State.onAtt_tamper (f : Attestation → Attestation) : (s.onAtt f).tamper = s.tamper := rfl
@[simp] theorem State.onAtt_pairs (f : Attestation → Attestation) : (s.onAtt f).pairs = s.pairs := rfl
@[simp] theorem State.onAtt_gaunt (f : Attestation → Attestation) : (s.onAtt f).gaunt = s.gaunt := rfl
@[simp] theorem State.onAtt_flash (f : Attestation → Attestation) : (s.onAtt f).flash = s.flash := rfl
@[simp] theorem State.onAtt_tag (f : Attestation → Attestation) : (s.onAtt f).tag = s.tag := rfl
@[simp] theorem State.onAtt_cards (f : Attestation → Attestation) : (s.onAtt f).cards = s.cards := rfl
@[simp] theorem State.onAtt_power (f : Attestation → Attestation) : (s.onAtt f).power = s.power := rfl
@[simp] theorem State.onAtt_commons (f : Attestation → Attestation) : (s.onAtt f).commons = s.commons := rfl
@[simp] theorem State.onAtt_free (f : Attestation → Attestation) : (s.onAtt f).free = s.free := rfl
@[simp] theorem State.onAtt_out (f : Attestation → Attestation) : (s.onAtt f).out = s.out := rfl
@[simp] theorem State.onAtt_pending (f : Attestation → Attestation) : (s.onAtt f).pending = s.pending := rfl

/-! onLedger -/
@[simp] theorem State.onLedger_dict (f : Ledger → Ledger) : (s.onLedger f).dict = s.dict := rfl
@[simp] theorem State.onLedger_integ (f : Ledger → Ledger) : (s.onLedger f).integ = s.integ := rfl
@[simp] theorem State.onLedger_modes (f : Ledger → Ledger) : (s.onLedger f).modes = s.modes := rfl
@[simp] theorem State.onLedger_chans (f : Ledger → Ledger) : (s.onLedger f).chans = s.chans := rfl
@[simp] theorem State.onLedger_cons (f : Ledger → Ledger) : (s.onLedger f).cons = s.cons := rfl
@[simp] theorem State.onLedger_att (f : Ledger → Ledger) : (s.onLedger f).att = s.att := rfl
@[simp] theorem State.onLedger_ledger (f : Ledger → Ledger) : (s.onLedger f).ledger = f s.ledger := rfl
@[simp] theorem State.onLedger_hub (f : Ledger → Ledger) : (s.onLedger f).hub = s.hub := rfl
@[simp] theorem State.onLedger_eng (f : Ledger → Ledger) : (s.onLedger f).eng = s.eng := rfl
@[simp] theorem State.onLedger_keys (f : Ledger → Ledger) : (s.onLedger f).keys = s.keys := rfl
@[simp] theorem State.onLedger_ent (f : Ledger → Ledger) : (s.onLedger f).ent = s.ent := rfl
@[simp] theorem State.onLedger_vigil (f : Ledger → Ledger) : (s.onLedger f).vigil = s.vigil := rfl
@[simp] theorem State.onLedger_tamper (f : Ledger → Ledger) : (s.onLedger f).tamper = s.tamper := rfl
@[simp] theorem State.onLedger_pairs (f : Ledger → Ledger) : (s.onLedger f).pairs = s.pairs := rfl
@[simp] theorem State.onLedger_gaunt (f : Ledger → Ledger) : (s.onLedger f).gaunt = s.gaunt := rfl
@[simp] theorem State.onLedger_flash (f : Ledger → Ledger) : (s.onLedger f).flash = s.flash := rfl
@[simp] theorem State.onLedger_tag (f : Ledger → Ledger) : (s.onLedger f).tag = s.tag := rfl
@[simp] theorem State.onLedger_cards (f : Ledger → Ledger) : (s.onLedger f).cards = s.cards := rfl
@[simp] theorem State.onLedger_power (f : Ledger → Ledger) : (s.onLedger f).power = s.power := rfl
@[simp] theorem State.onLedger_commons (f : Ledger → Ledger) : (s.onLedger f).commons = s.commons := rfl
@[simp] theorem State.onLedger_free (f : Ledger → Ledger) : (s.onLedger f).free = s.free := rfl
@[simp] theorem State.onLedger_out (f : Ledger → Ledger) : (s.onLedger f).out = s.out := rfl
@[simp] theorem State.onLedger_pending (f : Ledger → Ledger) : (s.onLedger f).pending = s.pending := rfl

/-! onHub -/
@[simp] theorem State.onHub_dict (f : JobHub → JobHub) : (s.onHub f).dict = s.dict := rfl
@[simp] theorem State.onHub_integ (f : JobHub → JobHub) : (s.onHub f).integ = s.integ := rfl
@[simp] theorem State.onHub_modes (f : JobHub → JobHub) : (s.onHub f).modes = s.modes := rfl
@[simp] theorem State.onHub_chans (f : JobHub → JobHub) : (s.onHub f).chans = s.chans := rfl
@[simp] theorem State.onHub_cons (f : JobHub → JobHub) : (s.onHub f).cons = s.cons := rfl
@[simp] theorem State.onHub_att (f : JobHub → JobHub) : (s.onHub f).att = s.att := rfl
@[simp] theorem State.onHub_ledger (f : JobHub → JobHub) : (s.onHub f).ledger = s.ledger := rfl
@[simp] theorem State.onHub_hub (f : JobHub → JobHub) : (s.onHub f).hub = f s.hub := rfl
@[simp] theorem State.onHub_eng (f : JobHub → JobHub) : (s.onHub f).eng = s.eng := rfl
@[simp] theorem State.onHub_keys (f : JobHub → JobHub) : (s.onHub f).keys = s.keys := rfl
@[simp] theorem State.onHub_ent (f : JobHub → JobHub) : (s.onHub f).ent = s.ent := rfl
@[simp] theorem State.onHub_vigil (f : JobHub → JobHub) : (s.onHub f).vigil = s.vigil := rfl
@[simp] theorem State.onHub_tamper (f : JobHub → JobHub) : (s.onHub f).tamper = s.tamper := rfl
@[simp] theorem State.onHub_pairs (f : JobHub → JobHub) : (s.onHub f).pairs = s.pairs := rfl
@[simp] theorem State.onHub_gaunt (f : JobHub → JobHub) : (s.onHub f).gaunt = s.gaunt := rfl
@[simp] theorem State.onHub_flash (f : JobHub → JobHub) : (s.onHub f).flash = s.flash := rfl
@[simp] theorem State.onHub_tag (f : JobHub → JobHub) : (s.onHub f).tag = s.tag := rfl
@[simp] theorem State.onHub_cards (f : JobHub → JobHub) : (s.onHub f).cards = s.cards := rfl
@[simp] theorem State.onHub_power (f : JobHub → JobHub) : (s.onHub f).power = s.power := rfl
@[simp] theorem State.onHub_commons (f : JobHub → JobHub) : (s.onHub f).commons = s.commons := rfl
@[simp] theorem State.onHub_free (f : JobHub → JobHub) : (s.onHub f).free = s.free := rfl
@[simp] theorem State.onHub_out (f : JobHub → JobHub) : (s.onHub f).out = s.out := rfl
@[simp] theorem State.onHub_pending (f : JobHub → JobHub) : (s.onHub f).pending = s.pending := rfl

/-! onEng -/
@[simp] theorem State.onEng_dict (f : Engines → Engines) : (s.onEng f).dict = s.dict := rfl
@[simp] theorem State.onEng_integ (f : Engines → Engines) : (s.onEng f).integ = s.integ := rfl
@[simp] theorem State.onEng_modes (f : Engines → Engines) : (s.onEng f).modes = s.modes := rfl
@[simp] theorem State.onEng_chans (f : Engines → Engines) : (s.onEng f).chans = s.chans := rfl
@[simp] theorem State.onEng_cons (f : Engines → Engines) : (s.onEng f).cons = s.cons := rfl
@[simp] theorem State.onEng_att (f : Engines → Engines) : (s.onEng f).att = s.att := rfl
@[simp] theorem State.onEng_ledger (f : Engines → Engines) : (s.onEng f).ledger = s.ledger := rfl
@[simp] theorem State.onEng_hub (f : Engines → Engines) : (s.onEng f).hub = s.hub := rfl
@[simp] theorem State.onEng_eng (f : Engines → Engines) : (s.onEng f).eng = f s.eng := rfl
@[simp] theorem State.onEng_keys (f : Engines → Engines) : (s.onEng f).keys = s.keys := rfl
@[simp] theorem State.onEng_ent (f : Engines → Engines) : (s.onEng f).ent = s.ent := rfl
@[simp] theorem State.onEng_vigil (f : Engines → Engines) : (s.onEng f).vigil = s.vigil := rfl
@[simp] theorem State.onEng_tamper (f : Engines → Engines) : (s.onEng f).tamper = s.tamper := rfl
@[simp] theorem State.onEng_pairs (f : Engines → Engines) : (s.onEng f).pairs = s.pairs := rfl
@[simp] theorem State.onEng_gaunt (f : Engines → Engines) : (s.onEng f).gaunt = s.gaunt := rfl
@[simp] theorem State.onEng_flash (f : Engines → Engines) : (s.onEng f).flash = s.flash := rfl
@[simp] theorem State.onEng_tag (f : Engines → Engines) : (s.onEng f).tag = s.tag := rfl
@[simp] theorem State.onEng_cards (f : Engines → Engines) : (s.onEng f).cards = s.cards := rfl
@[simp] theorem State.onEng_power (f : Engines → Engines) : (s.onEng f).power = s.power := rfl
@[simp] theorem State.onEng_commons (f : Engines → Engines) : (s.onEng f).commons = s.commons := rfl
@[simp] theorem State.onEng_free (f : Engines → Engines) : (s.onEng f).free = s.free := rfl
@[simp] theorem State.onEng_out (f : Engines → Engines) : (s.onEng f).out = s.out := rfl
@[simp] theorem State.onEng_pending (f : Engines → Engines) : (s.onEng f).pending = s.pending := rfl

/-! onKeys -/
@[simp] theorem State.onKeys_dict (f : KeyUnit → KeyUnit) : (s.onKeys f).dict = s.dict := rfl
@[simp] theorem State.onKeys_integ (f : KeyUnit → KeyUnit) : (s.onKeys f).integ = s.integ := rfl
@[simp] theorem State.onKeys_modes (f : KeyUnit → KeyUnit) : (s.onKeys f).modes = s.modes := rfl
@[simp] theorem State.onKeys_chans (f : KeyUnit → KeyUnit) : (s.onKeys f).chans = s.chans := rfl
@[simp] theorem State.onKeys_cons (f : KeyUnit → KeyUnit) : (s.onKeys f).cons = s.cons := rfl
@[simp] theorem State.onKeys_att (f : KeyUnit → KeyUnit) : (s.onKeys f).att = s.att := rfl
@[simp] theorem State.onKeys_ledger (f : KeyUnit → KeyUnit) : (s.onKeys f).ledger = s.ledger := rfl
@[simp] theorem State.onKeys_hub (f : KeyUnit → KeyUnit) : (s.onKeys f).hub = s.hub := rfl
@[simp] theorem State.onKeys_eng (f : KeyUnit → KeyUnit) : (s.onKeys f).eng = s.eng := rfl
@[simp] theorem State.onKeys_keys (f : KeyUnit → KeyUnit) : (s.onKeys f).keys = f s.keys := rfl
@[simp] theorem State.onKeys_ent (f : KeyUnit → KeyUnit) : (s.onKeys f).ent = s.ent := rfl
@[simp] theorem State.onKeys_vigil (f : KeyUnit → KeyUnit) : (s.onKeys f).vigil = s.vigil := rfl
@[simp] theorem State.onKeys_tamper (f : KeyUnit → KeyUnit) : (s.onKeys f).tamper = s.tamper := rfl
@[simp] theorem State.onKeys_pairs (f : KeyUnit → KeyUnit) : (s.onKeys f).pairs = s.pairs := rfl
@[simp] theorem State.onKeys_gaunt (f : KeyUnit → KeyUnit) : (s.onKeys f).gaunt = s.gaunt := rfl
@[simp] theorem State.onKeys_flash (f : KeyUnit → KeyUnit) : (s.onKeys f).flash = s.flash := rfl
@[simp] theorem State.onKeys_tag (f : KeyUnit → KeyUnit) : (s.onKeys f).tag = s.tag := rfl
@[simp] theorem State.onKeys_cards (f : KeyUnit → KeyUnit) : (s.onKeys f).cards = s.cards := rfl
@[simp] theorem State.onKeys_power (f : KeyUnit → KeyUnit) : (s.onKeys f).power = s.power := rfl
@[simp] theorem State.onKeys_commons (f : KeyUnit → KeyUnit) : (s.onKeys f).commons = s.commons := rfl
@[simp] theorem State.onKeys_free (f : KeyUnit → KeyUnit) : (s.onKeys f).free = s.free := rfl
@[simp] theorem State.onKeys_out (f : KeyUnit → KeyUnit) : (s.onKeys f).out = s.out := rfl
@[simp] theorem State.onKeys_pending (f : KeyUnit → KeyUnit) : (s.onKeys f).pending = s.pending := rfl

/-! onEnt -/
@[simp] theorem State.onEnt_dict (f : Entropy → Entropy) : (s.onEnt f).dict = s.dict := rfl
@[simp] theorem State.onEnt_integ (f : Entropy → Entropy) : (s.onEnt f).integ = s.integ := rfl
@[simp] theorem State.onEnt_modes (f : Entropy → Entropy) : (s.onEnt f).modes = s.modes := rfl
@[simp] theorem State.onEnt_chans (f : Entropy → Entropy) : (s.onEnt f).chans = s.chans := rfl
@[simp] theorem State.onEnt_cons (f : Entropy → Entropy) : (s.onEnt f).cons = s.cons := rfl
@[simp] theorem State.onEnt_att (f : Entropy → Entropy) : (s.onEnt f).att = s.att := rfl
@[simp] theorem State.onEnt_ledger (f : Entropy → Entropy) : (s.onEnt f).ledger = s.ledger := rfl
@[simp] theorem State.onEnt_hub (f : Entropy → Entropy) : (s.onEnt f).hub = s.hub := rfl
@[simp] theorem State.onEnt_eng (f : Entropy → Entropy) : (s.onEnt f).eng = s.eng := rfl
@[simp] theorem State.onEnt_keys (f : Entropy → Entropy) : (s.onEnt f).keys = s.keys := rfl
@[simp] theorem State.onEnt_ent (f : Entropy → Entropy) : (s.onEnt f).ent = f s.ent := rfl
@[simp] theorem State.onEnt_vigil (f : Entropy → Entropy) : (s.onEnt f).vigil = s.vigil := rfl
@[simp] theorem State.onEnt_tamper (f : Entropy → Entropy) : (s.onEnt f).tamper = s.tamper := rfl
@[simp] theorem State.onEnt_pairs (f : Entropy → Entropy) : (s.onEnt f).pairs = s.pairs := rfl
@[simp] theorem State.onEnt_gaunt (f : Entropy → Entropy) : (s.onEnt f).gaunt = s.gaunt := rfl
@[simp] theorem State.onEnt_flash (f : Entropy → Entropy) : (s.onEnt f).flash = s.flash := rfl
@[simp] theorem State.onEnt_tag (f : Entropy → Entropy) : (s.onEnt f).tag = s.tag := rfl
@[simp] theorem State.onEnt_cards (f : Entropy → Entropy) : (s.onEnt f).cards = s.cards := rfl
@[simp] theorem State.onEnt_power (f : Entropy → Entropy) : (s.onEnt f).power = s.power := rfl
@[simp] theorem State.onEnt_commons (f : Entropy → Entropy) : (s.onEnt f).commons = s.commons := rfl
@[simp] theorem State.onEnt_free (f : Entropy → Entropy) : (s.onEnt f).free = s.free := rfl
@[simp] theorem State.onEnt_out (f : Entropy → Entropy) : (s.onEnt f).out = s.out := rfl
@[simp] theorem State.onEnt_pending (f : Entropy → Entropy) : (s.onEnt f).pending = s.pending := rfl

/-! onVigil -/
@[simp] theorem State.onVigil_dict (f : Vigil → Vigil) : (s.onVigil f).dict = s.dict := rfl
@[simp] theorem State.onVigil_integ (f : Vigil → Vigil) : (s.onVigil f).integ = s.integ := rfl
@[simp] theorem State.onVigil_modes (f : Vigil → Vigil) : (s.onVigil f).modes = s.modes := rfl
@[simp] theorem State.onVigil_chans (f : Vigil → Vigil) : (s.onVigil f).chans = s.chans := rfl
@[simp] theorem State.onVigil_cons (f : Vigil → Vigil) : (s.onVigil f).cons = s.cons := rfl
@[simp] theorem State.onVigil_att (f : Vigil → Vigil) : (s.onVigil f).att = s.att := rfl
@[simp] theorem State.onVigil_ledger (f : Vigil → Vigil) : (s.onVigil f).ledger = s.ledger := rfl
@[simp] theorem State.onVigil_hub (f : Vigil → Vigil) : (s.onVigil f).hub = s.hub := rfl
@[simp] theorem State.onVigil_eng (f : Vigil → Vigil) : (s.onVigil f).eng = s.eng := rfl
@[simp] theorem State.onVigil_keys (f : Vigil → Vigil) : (s.onVigil f).keys = s.keys := rfl
@[simp] theorem State.onVigil_ent (f : Vigil → Vigil) : (s.onVigil f).ent = s.ent := rfl
@[simp] theorem State.onVigil_vigil (f : Vigil → Vigil) : (s.onVigil f).vigil = f s.vigil := rfl
@[simp] theorem State.onVigil_tamper (f : Vigil → Vigil) : (s.onVigil f).tamper = s.tamper := rfl
@[simp] theorem State.onVigil_pairs (f : Vigil → Vigil) : (s.onVigil f).pairs = s.pairs := rfl
@[simp] theorem State.onVigil_gaunt (f : Vigil → Vigil) : (s.onVigil f).gaunt = s.gaunt := rfl
@[simp] theorem State.onVigil_flash (f : Vigil → Vigil) : (s.onVigil f).flash = s.flash := rfl
@[simp] theorem State.onVigil_tag (f : Vigil → Vigil) : (s.onVigil f).tag = s.tag := rfl
@[simp] theorem State.onVigil_cards (f : Vigil → Vigil) : (s.onVigil f).cards = s.cards := rfl
@[simp] theorem State.onVigil_power (f : Vigil → Vigil) : (s.onVigil f).power = s.power := rfl
@[simp] theorem State.onVigil_commons (f : Vigil → Vigil) : (s.onVigil f).commons = s.commons := rfl
@[simp] theorem State.onVigil_free (f : Vigil → Vigil) : (s.onVigil f).free = s.free := rfl
@[simp] theorem State.onVigil_out (f : Vigil → Vigil) : (s.onVigil f).out = s.out := rfl
@[simp] theorem State.onVigil_pending (f : Vigil → Vigil) : (s.onVigil f).pending = s.pending := rfl

/-! onTamper -/
@[simp] theorem State.onTamper_dict (f : Tamper → Tamper) : (s.onTamper f).dict = s.dict := rfl
@[simp] theorem State.onTamper_integ (f : Tamper → Tamper) : (s.onTamper f).integ = s.integ := rfl
@[simp] theorem State.onTamper_modes (f : Tamper → Tamper) : (s.onTamper f).modes = s.modes := rfl
@[simp] theorem State.onTamper_chans (f : Tamper → Tamper) : (s.onTamper f).chans = s.chans := rfl
@[simp] theorem State.onTamper_cons (f : Tamper → Tamper) : (s.onTamper f).cons = s.cons := rfl
@[simp] theorem State.onTamper_att (f : Tamper → Tamper) : (s.onTamper f).att = s.att := rfl
@[simp] theorem State.onTamper_ledger (f : Tamper → Tamper) : (s.onTamper f).ledger = s.ledger := rfl
@[simp] theorem State.onTamper_hub (f : Tamper → Tamper) : (s.onTamper f).hub = s.hub := rfl
@[simp] theorem State.onTamper_eng (f : Tamper → Tamper) : (s.onTamper f).eng = s.eng := rfl
@[simp] theorem State.onTamper_keys (f : Tamper → Tamper) : (s.onTamper f).keys = s.keys := rfl
@[simp] theorem State.onTamper_ent (f : Tamper → Tamper) : (s.onTamper f).ent = s.ent := rfl
@[simp] theorem State.onTamper_vigil (f : Tamper → Tamper) : (s.onTamper f).vigil = s.vigil := rfl
@[simp] theorem State.onTamper_tamper (f : Tamper → Tamper) : (s.onTamper f).tamper = f s.tamper := rfl
@[simp] theorem State.onTamper_pairs (f : Tamper → Tamper) : (s.onTamper f).pairs = s.pairs := rfl
@[simp] theorem State.onTamper_gaunt (f : Tamper → Tamper) : (s.onTamper f).gaunt = s.gaunt := rfl
@[simp] theorem State.onTamper_flash (f : Tamper → Tamper) : (s.onTamper f).flash = s.flash := rfl
@[simp] theorem State.onTamper_tag (f : Tamper → Tamper) : (s.onTamper f).tag = s.tag := rfl
@[simp] theorem State.onTamper_cards (f : Tamper → Tamper) : (s.onTamper f).cards = s.cards := rfl
@[simp] theorem State.onTamper_power (f : Tamper → Tamper) : (s.onTamper f).power = s.power := rfl
@[simp] theorem State.onTamper_commons (f : Tamper → Tamper) : (s.onTamper f).commons = s.commons := rfl
@[simp] theorem State.onTamper_free (f : Tamper → Tamper) : (s.onTamper f).free = s.free := rfl
@[simp] theorem State.onTamper_out (f : Tamper → Tamper) : (s.onTamper f).out = s.out := rfl
@[simp] theorem State.onTamper_pending (f : Tamper → Tamper) : (s.onTamper f).pending = s.pending := rfl

/-! onPairs -/
@[simp] theorem State.onPairs_dict (f : Vector Pair 4 → Vector Pair 4) : (s.onPairs f).dict = s.dict := rfl
@[simp] theorem State.onPairs_integ (f : Vector Pair 4 → Vector Pair 4) : (s.onPairs f).integ = s.integ := rfl
@[simp] theorem State.onPairs_modes (f : Vector Pair 4 → Vector Pair 4) : (s.onPairs f).modes = s.modes := rfl
@[simp] theorem State.onPairs_chans (f : Vector Pair 4 → Vector Pair 4) : (s.onPairs f).chans = s.chans := rfl
@[simp] theorem State.onPairs_cons (f : Vector Pair 4 → Vector Pair 4) : (s.onPairs f).cons = s.cons := rfl
@[simp] theorem State.onPairs_att (f : Vector Pair 4 → Vector Pair 4) : (s.onPairs f).att = s.att := rfl
@[simp] theorem State.onPairs_ledger (f : Vector Pair 4 → Vector Pair 4) : (s.onPairs f).ledger = s.ledger := rfl
@[simp] theorem State.onPairs_hub (f : Vector Pair 4 → Vector Pair 4) : (s.onPairs f).hub = s.hub := rfl
@[simp] theorem State.onPairs_eng (f : Vector Pair 4 → Vector Pair 4) : (s.onPairs f).eng = s.eng := rfl
@[simp] theorem State.onPairs_keys (f : Vector Pair 4 → Vector Pair 4) : (s.onPairs f).keys = s.keys := rfl
@[simp] theorem State.onPairs_ent (f : Vector Pair 4 → Vector Pair 4) : (s.onPairs f).ent = s.ent := rfl
@[simp] theorem State.onPairs_vigil (f : Vector Pair 4 → Vector Pair 4) : (s.onPairs f).vigil = s.vigil := rfl
@[simp] theorem State.onPairs_tamper (f : Vector Pair 4 → Vector Pair 4) : (s.onPairs f).tamper = s.tamper := rfl
@[simp] theorem State.onPairs_pairs (f : Vector Pair 4 → Vector Pair 4) : (s.onPairs f).pairs = f s.pairs := rfl
@[simp] theorem State.onPairs_gaunt (f : Vector Pair 4 → Vector Pair 4) : (s.onPairs f).gaunt = s.gaunt := rfl
@[simp] theorem State.onPairs_flash (f : Vector Pair 4 → Vector Pair 4) : (s.onPairs f).flash = s.flash := rfl
@[simp] theorem State.onPairs_tag (f : Vector Pair 4 → Vector Pair 4) : (s.onPairs f).tag = s.tag := rfl
@[simp] theorem State.onPairs_cards (f : Vector Pair 4 → Vector Pair 4) : (s.onPairs f).cards = s.cards := rfl
@[simp] theorem State.onPairs_power (f : Vector Pair 4 → Vector Pair 4) : (s.onPairs f).power = s.power := rfl
@[simp] theorem State.onPairs_commons (f : Vector Pair 4 → Vector Pair 4) : (s.onPairs f).commons = s.commons := rfl
@[simp] theorem State.onPairs_free (f : Vector Pair 4 → Vector Pair 4) : (s.onPairs f).free = s.free := rfl
@[simp] theorem State.onPairs_out (f : Vector Pair 4 → Vector Pair 4) : (s.onPairs f).out = s.out := rfl
@[simp] theorem State.onPairs_pending (f : Vector Pair 4 → Vector Pair 4) : (s.onPairs f).pending = s.pending := rfl

/-! onGaunt -/
@[simp] theorem State.onGaunt_dict (f : Gauntlet → Gauntlet) : (s.onGaunt f).dict = s.dict := rfl
@[simp] theorem State.onGaunt_integ (f : Gauntlet → Gauntlet) : (s.onGaunt f).integ = s.integ := rfl
@[simp] theorem State.onGaunt_modes (f : Gauntlet → Gauntlet) : (s.onGaunt f).modes = s.modes := rfl
@[simp] theorem State.onGaunt_chans (f : Gauntlet → Gauntlet) : (s.onGaunt f).chans = s.chans := rfl
@[simp] theorem State.onGaunt_cons (f : Gauntlet → Gauntlet) : (s.onGaunt f).cons = s.cons := rfl
@[simp] theorem State.onGaunt_att (f : Gauntlet → Gauntlet) : (s.onGaunt f).att = s.att := rfl
@[simp] theorem State.onGaunt_ledger (f : Gauntlet → Gauntlet) : (s.onGaunt f).ledger = s.ledger := rfl
@[simp] theorem State.onGaunt_hub (f : Gauntlet → Gauntlet) : (s.onGaunt f).hub = s.hub := rfl
@[simp] theorem State.onGaunt_eng (f : Gauntlet → Gauntlet) : (s.onGaunt f).eng = s.eng := rfl
@[simp] theorem State.onGaunt_keys (f : Gauntlet → Gauntlet) : (s.onGaunt f).keys = s.keys := rfl
@[simp] theorem State.onGaunt_ent (f : Gauntlet → Gauntlet) : (s.onGaunt f).ent = s.ent := rfl
@[simp] theorem State.onGaunt_vigil (f : Gauntlet → Gauntlet) : (s.onGaunt f).vigil = s.vigil := rfl
@[simp] theorem State.onGaunt_tamper (f : Gauntlet → Gauntlet) : (s.onGaunt f).tamper = s.tamper := rfl
@[simp] theorem State.onGaunt_pairs (f : Gauntlet → Gauntlet) : (s.onGaunt f).pairs = s.pairs := rfl
@[simp] theorem State.onGaunt_gaunt (f : Gauntlet → Gauntlet) : (s.onGaunt f).gaunt = f s.gaunt := rfl
@[simp] theorem State.onGaunt_flash (f : Gauntlet → Gauntlet) : (s.onGaunt f).flash = s.flash := rfl
@[simp] theorem State.onGaunt_tag (f : Gauntlet → Gauntlet) : (s.onGaunt f).tag = s.tag := rfl
@[simp] theorem State.onGaunt_cards (f : Gauntlet → Gauntlet) : (s.onGaunt f).cards = s.cards := rfl
@[simp] theorem State.onGaunt_power (f : Gauntlet → Gauntlet) : (s.onGaunt f).power = s.power := rfl
@[simp] theorem State.onGaunt_commons (f : Gauntlet → Gauntlet) : (s.onGaunt f).commons = s.commons := rfl
@[simp] theorem State.onGaunt_free (f : Gauntlet → Gauntlet) : (s.onGaunt f).free = s.free := rfl
@[simp] theorem State.onGaunt_out (f : Gauntlet → Gauntlet) : (s.onGaunt f).out = s.out := rfl
@[simp] theorem State.onGaunt_pending (f : Gauntlet → Gauntlet) : (s.onGaunt f).pending = s.pending := rfl

/-! onFlash -/
@[simp] theorem State.onFlash_dict (f : FlashCtl → FlashCtl) : (s.onFlash f).dict = s.dict := rfl
@[simp] theorem State.onFlash_integ (f : FlashCtl → FlashCtl) : (s.onFlash f).integ = s.integ := rfl
@[simp] theorem State.onFlash_modes (f : FlashCtl → FlashCtl) : (s.onFlash f).modes = s.modes := rfl
@[simp] theorem State.onFlash_chans (f : FlashCtl → FlashCtl) : (s.onFlash f).chans = s.chans := rfl
@[simp] theorem State.onFlash_cons (f : FlashCtl → FlashCtl) : (s.onFlash f).cons = s.cons := rfl
@[simp] theorem State.onFlash_att (f : FlashCtl → FlashCtl) : (s.onFlash f).att = s.att := rfl
@[simp] theorem State.onFlash_ledger (f : FlashCtl → FlashCtl) : (s.onFlash f).ledger = s.ledger := rfl
@[simp] theorem State.onFlash_hub (f : FlashCtl → FlashCtl) : (s.onFlash f).hub = s.hub := rfl
@[simp] theorem State.onFlash_eng (f : FlashCtl → FlashCtl) : (s.onFlash f).eng = s.eng := rfl
@[simp] theorem State.onFlash_keys (f : FlashCtl → FlashCtl) : (s.onFlash f).keys = s.keys := rfl
@[simp] theorem State.onFlash_ent (f : FlashCtl → FlashCtl) : (s.onFlash f).ent = s.ent := rfl
@[simp] theorem State.onFlash_vigil (f : FlashCtl → FlashCtl) : (s.onFlash f).vigil = s.vigil := rfl
@[simp] theorem State.onFlash_tamper (f : FlashCtl → FlashCtl) : (s.onFlash f).tamper = s.tamper := rfl
@[simp] theorem State.onFlash_pairs (f : FlashCtl → FlashCtl) : (s.onFlash f).pairs = s.pairs := rfl
@[simp] theorem State.onFlash_gaunt (f : FlashCtl → FlashCtl) : (s.onFlash f).gaunt = s.gaunt := rfl
@[simp] theorem State.onFlash_flash (f : FlashCtl → FlashCtl) : (s.onFlash f).flash = f s.flash := rfl
@[simp] theorem State.onFlash_tag (f : FlashCtl → FlashCtl) : (s.onFlash f).tag = s.tag := rfl
@[simp] theorem State.onFlash_cards (f : FlashCtl → FlashCtl) : (s.onFlash f).cards = s.cards := rfl
@[simp] theorem State.onFlash_power (f : FlashCtl → FlashCtl) : (s.onFlash f).power = s.power := rfl
@[simp] theorem State.onFlash_commons (f : FlashCtl → FlashCtl) : (s.onFlash f).commons = s.commons := rfl
@[simp] theorem State.onFlash_free (f : FlashCtl → FlashCtl) : (s.onFlash f).free = s.free := rfl
@[simp] theorem State.onFlash_out (f : FlashCtl → FlashCtl) : (s.onFlash f).out = s.out := rfl
@[simp] theorem State.onFlash_pending (f : FlashCtl → FlashCtl) : (s.onFlash f).pending = s.pending := rfl

/-! onTag -/
@[simp] theorem State.onTag_dict (f : TagIsland → TagIsland) : (s.onTag f).dict = s.dict := rfl
@[simp] theorem State.onTag_integ (f : TagIsland → TagIsland) : (s.onTag f).integ = s.integ := rfl
@[simp] theorem State.onTag_modes (f : TagIsland → TagIsland) : (s.onTag f).modes = s.modes := rfl
@[simp] theorem State.onTag_chans (f : TagIsland → TagIsland) : (s.onTag f).chans = s.chans := rfl
@[simp] theorem State.onTag_cons (f : TagIsland → TagIsland) : (s.onTag f).cons = s.cons := rfl
@[simp] theorem State.onTag_att (f : TagIsland → TagIsland) : (s.onTag f).att = s.att := rfl
@[simp] theorem State.onTag_ledger (f : TagIsland → TagIsland) : (s.onTag f).ledger = s.ledger := rfl
@[simp] theorem State.onTag_hub (f : TagIsland → TagIsland) : (s.onTag f).hub = s.hub := rfl
@[simp] theorem State.onTag_eng (f : TagIsland → TagIsland) : (s.onTag f).eng = s.eng := rfl
@[simp] theorem State.onTag_keys (f : TagIsland → TagIsland) : (s.onTag f).keys = s.keys := rfl
@[simp] theorem State.onTag_ent (f : TagIsland → TagIsland) : (s.onTag f).ent = s.ent := rfl
@[simp] theorem State.onTag_vigil (f : TagIsland → TagIsland) : (s.onTag f).vigil = s.vigil := rfl
@[simp] theorem State.onTag_tamper (f : TagIsland → TagIsland) : (s.onTag f).tamper = s.tamper := rfl
@[simp] theorem State.onTag_pairs (f : TagIsland → TagIsland) : (s.onTag f).pairs = s.pairs := rfl
@[simp] theorem State.onTag_gaunt (f : TagIsland → TagIsland) : (s.onTag f).gaunt = s.gaunt := rfl
@[simp] theorem State.onTag_flash (f : TagIsland → TagIsland) : (s.onTag f).flash = s.flash := rfl
@[simp] theorem State.onTag_tag (f : TagIsland → TagIsland) : (s.onTag f).tag = f s.tag := rfl
@[simp] theorem State.onTag_cards (f : TagIsland → TagIsland) : (s.onTag f).cards = s.cards := rfl
@[simp] theorem State.onTag_power (f : TagIsland → TagIsland) : (s.onTag f).power = s.power := rfl
@[simp] theorem State.onTag_commons (f : TagIsland → TagIsland) : (s.onTag f).commons = s.commons := rfl
@[simp] theorem State.onTag_free (f : TagIsland → TagIsland) : (s.onTag f).free = s.free := rfl
@[simp] theorem State.onTag_out (f : TagIsland → TagIsland) : (s.onTag f).out = s.out := rfl
@[simp] theorem State.onTag_pending (f : TagIsland → TagIsland) : (s.onTag f).pending = s.pending := rfl

/-! onCards -/
@[simp] theorem State.onCards_dict (f : Cards → Cards) : (s.onCards f).dict = s.dict := rfl
@[simp] theorem State.onCards_integ (f : Cards → Cards) : (s.onCards f).integ = s.integ := rfl
@[simp] theorem State.onCards_modes (f : Cards → Cards) : (s.onCards f).modes = s.modes := rfl
@[simp] theorem State.onCards_chans (f : Cards → Cards) : (s.onCards f).chans = s.chans := rfl
@[simp] theorem State.onCards_cons (f : Cards → Cards) : (s.onCards f).cons = s.cons := rfl
@[simp] theorem State.onCards_att (f : Cards → Cards) : (s.onCards f).att = s.att := rfl
@[simp] theorem State.onCards_ledger (f : Cards → Cards) : (s.onCards f).ledger = s.ledger := rfl
@[simp] theorem State.onCards_hub (f : Cards → Cards) : (s.onCards f).hub = s.hub := rfl
@[simp] theorem State.onCards_eng (f : Cards → Cards) : (s.onCards f).eng = s.eng := rfl
@[simp] theorem State.onCards_keys (f : Cards → Cards) : (s.onCards f).keys = s.keys := rfl
@[simp] theorem State.onCards_ent (f : Cards → Cards) : (s.onCards f).ent = s.ent := rfl
@[simp] theorem State.onCards_vigil (f : Cards → Cards) : (s.onCards f).vigil = s.vigil := rfl
@[simp] theorem State.onCards_tamper (f : Cards → Cards) : (s.onCards f).tamper = s.tamper := rfl
@[simp] theorem State.onCards_pairs (f : Cards → Cards) : (s.onCards f).pairs = s.pairs := rfl
@[simp] theorem State.onCards_gaunt (f : Cards → Cards) : (s.onCards f).gaunt = s.gaunt := rfl
@[simp] theorem State.onCards_flash (f : Cards → Cards) : (s.onCards f).flash = s.flash := rfl
@[simp] theorem State.onCards_tag (f : Cards → Cards) : (s.onCards f).tag = s.tag := rfl
@[simp] theorem State.onCards_cards (f : Cards → Cards) : (s.onCards f).cards = f s.cards := rfl
@[simp] theorem State.onCards_power (f : Cards → Cards) : (s.onCards f).power = s.power := rfl
@[simp] theorem State.onCards_commons (f : Cards → Cards) : (s.onCards f).commons = s.commons := rfl
@[simp] theorem State.onCards_free (f : Cards → Cards) : (s.onCards f).free = s.free := rfl
@[simp] theorem State.onCards_out (f : Cards → Cards) : (s.onCards f).out = s.out := rfl
@[simp] theorem State.onCards_pending (f : Cards → Cards) : (s.onCards f).pending = s.pending := rfl

/-! onPower -/
@[simp] theorem State.onPower_dict (f : Power → Power) : (s.onPower f).dict = s.dict := rfl
@[simp] theorem State.onPower_integ (f : Power → Power) : (s.onPower f).integ = s.integ := rfl
@[simp] theorem State.onPower_modes (f : Power → Power) : (s.onPower f).modes = s.modes := rfl
@[simp] theorem State.onPower_chans (f : Power → Power) : (s.onPower f).chans = s.chans := rfl
@[simp] theorem State.onPower_cons (f : Power → Power) : (s.onPower f).cons = s.cons := rfl
@[simp] theorem State.onPower_att (f : Power → Power) : (s.onPower f).att = s.att := rfl
@[simp] theorem State.onPower_ledger (f : Power → Power) : (s.onPower f).ledger = s.ledger := rfl
@[simp] theorem State.onPower_hub (f : Power → Power) : (s.onPower f).hub = s.hub := rfl
@[simp] theorem State.onPower_eng (f : Power → Power) : (s.onPower f).eng = s.eng := rfl
@[simp] theorem State.onPower_keys (f : Power → Power) : (s.onPower f).keys = s.keys := rfl
@[simp] theorem State.onPower_ent (f : Power → Power) : (s.onPower f).ent = s.ent := rfl
@[simp] theorem State.onPower_vigil (f : Power → Power) : (s.onPower f).vigil = s.vigil := rfl
@[simp] theorem State.onPower_tamper (f : Power → Power) : (s.onPower f).tamper = s.tamper := rfl
@[simp] theorem State.onPower_pairs (f : Power → Power) : (s.onPower f).pairs = s.pairs := rfl
@[simp] theorem State.onPower_gaunt (f : Power → Power) : (s.onPower f).gaunt = s.gaunt := rfl
@[simp] theorem State.onPower_flash (f : Power → Power) : (s.onPower f).flash = s.flash := rfl
@[simp] theorem State.onPower_tag (f : Power → Power) : (s.onPower f).tag = s.tag := rfl
@[simp] theorem State.onPower_cards (f : Power → Power) : (s.onPower f).cards = s.cards := rfl
@[simp] theorem State.onPower_power (f : Power → Power) : (s.onPower f).power = f s.power := rfl
@[simp] theorem State.onPower_commons (f : Power → Power) : (s.onPower f).commons = s.commons := rfl
@[simp] theorem State.onPower_free (f : Power → Power) : (s.onPower f).free = s.free := rfl
@[simp] theorem State.onPower_out (f : Power → Power) : (s.onPower f).out = s.out := rfl
@[simp] theorem State.onPower_pending (f : Power → Power) : (s.onPower f).pending = s.pending := rfl

/-! onCommons -/
@[simp] theorem State.onCommons_dict (f : List Host.Cell → List Host.Cell) : (s.onCommons f).dict = s.dict := rfl
@[simp] theorem State.onCommons_integ (f : List Host.Cell → List Host.Cell) : (s.onCommons f).integ = s.integ := rfl
@[simp] theorem State.onCommons_modes (f : List Host.Cell → List Host.Cell) : (s.onCommons f).modes = s.modes := rfl
@[simp] theorem State.onCommons_chans (f : List Host.Cell → List Host.Cell) : (s.onCommons f).chans = s.chans := rfl
@[simp] theorem State.onCommons_cons (f : List Host.Cell → List Host.Cell) : (s.onCommons f).cons = s.cons := rfl
@[simp] theorem State.onCommons_att (f : List Host.Cell → List Host.Cell) : (s.onCommons f).att = s.att := rfl
@[simp] theorem State.onCommons_ledger (f : List Host.Cell → List Host.Cell) : (s.onCommons f).ledger = s.ledger := rfl
@[simp] theorem State.onCommons_hub (f : List Host.Cell → List Host.Cell) : (s.onCommons f).hub = s.hub := rfl
@[simp] theorem State.onCommons_eng (f : List Host.Cell → List Host.Cell) : (s.onCommons f).eng = s.eng := rfl
@[simp] theorem State.onCommons_keys (f : List Host.Cell → List Host.Cell) : (s.onCommons f).keys = s.keys := rfl
@[simp] theorem State.onCommons_ent (f : List Host.Cell → List Host.Cell) : (s.onCommons f).ent = s.ent := rfl
@[simp] theorem State.onCommons_vigil (f : List Host.Cell → List Host.Cell) : (s.onCommons f).vigil = s.vigil := rfl
@[simp] theorem State.onCommons_tamper (f : List Host.Cell → List Host.Cell) : (s.onCommons f).tamper = s.tamper := rfl
@[simp] theorem State.onCommons_pairs (f : List Host.Cell → List Host.Cell) : (s.onCommons f).pairs = s.pairs := rfl
@[simp] theorem State.onCommons_gaunt (f : List Host.Cell → List Host.Cell) : (s.onCommons f).gaunt = s.gaunt := rfl
@[simp] theorem State.onCommons_flash (f : List Host.Cell → List Host.Cell) : (s.onCommons f).flash = s.flash := rfl
@[simp] theorem State.onCommons_tag (f : List Host.Cell → List Host.Cell) : (s.onCommons f).tag = s.tag := rfl
@[simp] theorem State.onCommons_cards (f : List Host.Cell → List Host.Cell) : (s.onCommons f).cards = s.cards := rfl
@[simp] theorem State.onCommons_power (f : List Host.Cell → List Host.Cell) : (s.onCommons f).power = s.power := rfl
@[simp] theorem State.onCommons_commons (f : List Host.Cell → List Host.Cell) : (s.onCommons f).commons = f s.commons := rfl
@[simp] theorem State.onCommons_free (f : List Host.Cell → List Host.Cell) : (s.onCommons f).free = s.free := rfl
@[simp] theorem State.onCommons_out (f : List Host.Cell → List Host.Cell) : (s.onCommons f).out = s.out := rfl
@[simp] theorem State.onCommons_pending (f : List Host.Cell → List Host.Cell) : (s.onCommons f).pending = s.pending := rfl

/-! onChan -/
@[simp] theorem State.onChan_dict (n : Fin 12) (f : Channel → Channel) : (s.onChan n f).dict = s.dict := rfl
@[simp] theorem State.onChan_integ (n : Fin 12) (f : Channel → Channel) : (s.onChan n f).integ = s.integ := rfl
@[simp] theorem State.onChan_modes (n : Fin 12) (f : Channel → Channel) : (s.onChan n f).modes = s.modes := rfl
@[simp] theorem State.onChan_chans (n : Fin 12) (f : Channel → Channel) : (s.onChan n f).chans = s.chans.set n (f s.chans[n]) := rfl
@[simp] theorem State.onChan_cons (n : Fin 12) (f : Channel → Channel) : (s.onChan n f).cons = s.cons := rfl
@[simp] theorem State.onChan_att (n : Fin 12) (f : Channel → Channel) : (s.onChan n f).att = s.att := rfl
@[simp] theorem State.onChan_ledger (n : Fin 12) (f : Channel → Channel) : (s.onChan n f).ledger = s.ledger := rfl
@[simp] theorem State.onChan_hub (n : Fin 12) (f : Channel → Channel) : (s.onChan n f).hub = s.hub := rfl
@[simp] theorem State.onChan_eng (n : Fin 12) (f : Channel → Channel) : (s.onChan n f).eng = s.eng := rfl
@[simp] theorem State.onChan_keys (n : Fin 12) (f : Channel → Channel) : (s.onChan n f).keys = s.keys := rfl
@[simp] theorem State.onChan_ent (n : Fin 12) (f : Channel → Channel) : (s.onChan n f).ent = s.ent := rfl
@[simp] theorem State.onChan_vigil (n : Fin 12) (f : Channel → Channel) : (s.onChan n f).vigil = s.vigil := rfl
@[simp] theorem State.onChan_tamper (n : Fin 12) (f : Channel → Channel) : (s.onChan n f).tamper = s.tamper := rfl
@[simp] theorem State.onChan_pairs (n : Fin 12) (f : Channel → Channel) : (s.onChan n f).pairs = s.pairs := rfl
@[simp] theorem State.onChan_gaunt (n : Fin 12) (f : Channel → Channel) : (s.onChan n f).gaunt = s.gaunt := rfl
@[simp] theorem State.onChan_flash (n : Fin 12) (f : Channel → Channel) : (s.onChan n f).flash = s.flash := rfl
@[simp] theorem State.onChan_tag (n : Fin 12) (f : Channel → Channel) : (s.onChan n f).tag = s.tag := rfl
@[simp] theorem State.onChan_cards (n : Fin 12) (f : Channel → Channel) : (s.onChan n f).cards = s.cards := rfl
@[simp] theorem State.onChan_power (n : Fin 12) (f : Channel → Channel) : (s.onChan n f).power = s.power := rfl
@[simp] theorem State.onChan_commons (n : Fin 12) (f : Channel → Channel) : (s.onChan n f).commons = s.commons := rfl
@[simp] theorem State.onChan_free (n : Fin 12) (f : Channel → Channel) : (s.onChan n f).free = s.free := rfl
@[simp] theorem State.onChan_out (n : Fin 12) (f : Channel → Channel) : (s.onChan n f).out = s.out := rfl
@[simp] theorem State.onChan_pending (n : Fin 12) (f : Channel → Channel) : (s.onChan n f).pending = s.pending := rfl

/-! onPair -/
@[simp] theorem State.onPair_dict (p : Fin 4) (f : Pair → Pair) : (s.onPair p f).dict = s.dict := rfl
@[simp] theorem State.onPair_integ (p : Fin 4) (f : Pair → Pair) : (s.onPair p f).integ = s.integ := rfl
@[simp] theorem State.onPair_modes (p : Fin 4) (f : Pair → Pair) : (s.onPair p f).modes = s.modes := rfl
@[simp] theorem State.onPair_chans (p : Fin 4) (f : Pair → Pair) : (s.onPair p f).chans = s.chans := rfl
@[simp] theorem State.onPair_cons (p : Fin 4) (f : Pair → Pair) : (s.onPair p f).cons = s.cons := rfl
@[simp] theorem State.onPair_att (p : Fin 4) (f : Pair → Pair) : (s.onPair p f).att = s.att := rfl
@[simp] theorem State.onPair_ledger (p : Fin 4) (f : Pair → Pair) : (s.onPair p f).ledger = s.ledger := rfl
@[simp] theorem State.onPair_hub (p : Fin 4) (f : Pair → Pair) : (s.onPair p f).hub = s.hub := rfl
@[simp] theorem State.onPair_eng (p : Fin 4) (f : Pair → Pair) : (s.onPair p f).eng = s.eng := rfl
@[simp] theorem State.onPair_keys (p : Fin 4) (f : Pair → Pair) : (s.onPair p f).keys = s.keys := rfl
@[simp] theorem State.onPair_ent (p : Fin 4) (f : Pair → Pair) : (s.onPair p f).ent = s.ent := rfl
@[simp] theorem State.onPair_vigil (p : Fin 4) (f : Pair → Pair) : (s.onPair p f).vigil = s.vigil := rfl
@[simp] theorem State.onPair_tamper (p : Fin 4) (f : Pair → Pair) : (s.onPair p f).tamper = s.tamper := rfl
@[simp] theorem State.onPair_pairs (p : Fin 4) (f : Pair → Pair) : (s.onPair p f).pairs = s.pairs.set p (f s.pairs[p]) := rfl
@[simp] theorem State.onPair_gaunt (p : Fin 4) (f : Pair → Pair) : (s.onPair p f).gaunt = s.gaunt := rfl
@[simp] theorem State.onPair_flash (p : Fin 4) (f : Pair → Pair) : (s.onPair p f).flash = s.flash := rfl
@[simp] theorem State.onPair_tag (p : Fin 4) (f : Pair → Pair) : (s.onPair p f).tag = s.tag := rfl
@[simp] theorem State.onPair_cards (p : Fin 4) (f : Pair → Pair) : (s.onPair p f).cards = s.cards := rfl
@[simp] theorem State.onPair_power (p : Fin 4) (f : Pair → Pair) : (s.onPair p f).power = s.power := rfl
@[simp] theorem State.onPair_commons (p : Fin 4) (f : Pair → Pair) : (s.onPair p f).commons = s.commons := rfl
@[simp] theorem State.onPair_free (p : Fin 4) (f : Pair → Pair) : (s.onPair p f).free = s.free := rfl
@[simp] theorem State.onPair_out (p : Fin 4) (f : Pair → Pair) : (s.onPair p f).out = s.out := rfl
@[simp] theorem State.onPair_pending (p : Fin 4) (f : Pair → Pair) : (s.onPair p f).pending = s.pending := rfl

/-! send -/
@[simp] theorem State.send_dict (o : Output) : (s.send o).dict = s.dict := rfl
@[simp] theorem State.send_integ (o : Output) : (s.send o).integ = s.integ := rfl
@[simp] theorem State.send_modes (o : Output) : (s.send o).modes = s.modes := rfl
@[simp] theorem State.send_chans (o : Output) : (s.send o).chans = s.chans := rfl
@[simp] theorem State.send_cons (o : Output) : (s.send o).cons = s.cons := rfl
@[simp] theorem State.send_att (o : Output) : (s.send o).att = s.att := rfl
@[simp] theorem State.send_ledger (o : Output) : (s.send o).ledger = s.ledger := rfl
@[simp] theorem State.send_hub (o : Output) : (s.send o).hub = s.hub := rfl
@[simp] theorem State.send_eng (o : Output) : (s.send o).eng = s.eng := rfl
@[simp] theorem State.send_keys (o : Output) : (s.send o).keys = s.keys := rfl
@[simp] theorem State.send_ent (o : Output) : (s.send o).ent = s.ent := rfl
@[simp] theorem State.send_vigil (o : Output) : (s.send o).vigil = s.vigil := rfl
@[simp] theorem State.send_tamper (o : Output) : (s.send o).tamper = s.tamper := rfl
@[simp] theorem State.send_pairs (o : Output) : (s.send o).pairs = s.pairs := rfl
@[simp] theorem State.send_gaunt (o : Output) : (s.send o).gaunt = s.gaunt := rfl
@[simp] theorem State.send_flash (o : Output) : (s.send o).flash = s.flash := rfl
@[simp] theorem State.send_tag (o : Output) : (s.send o).tag = s.tag := rfl
@[simp] theorem State.send_cards (o : Output) : (s.send o).cards = s.cards := rfl
@[simp] theorem State.send_power (o : Output) : (s.send o).power = s.power := rfl
@[simp] theorem State.send_commons (o : Output) : (s.send o).commons = s.commons := rfl
@[simp] theorem State.send_free (o : Output) : (s.send o).free = s.free := rfl
@[simp] theorem State.send_out (o : Output) : (s.send o).out = o :: s.out := rfl
@[simp] theorem State.send_pending (o : Output) : (s.send o).pending = s.pending := rfl

/-! put -/
@[simp] theorem State.put_dict (k : Nat) (v : Val) : (s.put k v).dict = { s.dict with objs := kset s.dict.objs k v } := rfl
@[simp] theorem State.put_integ (k : Nat) (v : Val) : (s.put k v).integ = s.integ := rfl
@[simp] theorem State.put_modes (k : Nat) (v : Val) : (s.put k v).modes = s.modes := rfl
@[simp] theorem State.put_chans (k : Nat) (v : Val) : (s.put k v).chans = s.chans := rfl
@[simp] theorem State.put_cons (k : Nat) (v : Val) : (s.put k v).cons = s.cons := rfl
@[simp] theorem State.put_att (k : Nat) (v : Val) : (s.put k v).att = s.att := rfl
@[simp] theorem State.put_ledger (k : Nat) (v : Val) : (s.put k v).ledger = s.ledger := rfl
@[simp] theorem State.put_hub (k : Nat) (v : Val) : (s.put k v).hub = s.hub := rfl
@[simp] theorem State.put_eng (k : Nat) (v : Val) : (s.put k v).eng = s.eng := rfl
@[simp] theorem State.put_keys (k : Nat) (v : Val) : (s.put k v).keys = s.keys := rfl
@[simp] theorem State.put_ent (k : Nat) (v : Val) : (s.put k v).ent = s.ent := rfl
@[simp] theorem State.put_vigil (k : Nat) (v : Val) : (s.put k v).vigil = s.vigil := rfl
@[simp] theorem State.put_tamper (k : Nat) (v : Val) : (s.put k v).tamper = s.tamper := rfl
@[simp] theorem State.put_pairs (k : Nat) (v : Val) : (s.put k v).pairs = s.pairs := rfl
@[simp] theorem State.put_gaunt (k : Nat) (v : Val) : (s.put k v).gaunt = s.gaunt := rfl
@[simp] theorem State.put_flash (k : Nat) (v : Val) : (s.put k v).flash = s.flash := rfl
@[simp] theorem State.put_tag (k : Nat) (v : Val) : (s.put k v).tag = s.tag := rfl
@[simp] theorem State.put_cards (k : Nat) (v : Val) : (s.put k v).cards = s.cards := rfl
@[simp] theorem State.put_power (k : Nat) (v : Val) : (s.put k v).power = s.power := rfl
@[simp] theorem State.put_commons (k : Nat) (v : Val) : (s.put k v).commons = s.commons := rfl
@[simp] theorem State.put_free (k : Nat) (v : Val) : (s.put k v).free = s.free := rfl
@[simp] theorem State.put_out (k : Nat) (v : Val) : (s.put k v).out = s.out := rfl
@[simp] theorem State.put_pending (k : Nat) (v : Val) : (s.put k v).pending = s.pending := rfl

/-! The parts of an array of the state -/

/-- An updated channel reads as updated. -/
@[simp] theorem State.onChan_same (n : Fin 12) (f : Channel → Channel) : (s.onChan n f).chans[n] = f s.chans[n] := by
  simp [State.onChan]

/-- Another channel stays. -/
theorem State.onChan_other (n m : Fin 12) (f : Channel → Channel) (h : n ≠ m) : (s.onChan n f).chans[m] = s.chans[m] := by
  have : n.val ≠ m.val := fun e => h (Fin.ext e)
  simp [State.onChan, this]

/-- An updated pair reads as updated. -/
@[simp] theorem State.onPair_same (p : Fin 4) (f : Pair → Pair) : (s.onPair p f).pairs[p] = f s.pairs[p] := by
  simp [State.onPair]

/-- Another pair stays. -/
theorem State.onPair_other (p q : Fin 4) (f : Pair → Pair) (h : p ≠ q) : (s.onPair p f).pairs[q] = s.pairs[q] := by
  have : p.val ≠ q.val := fun e => h (Fin.ext e)
  simp [State.onPair, this]

/-- A live state runs a gated update. -/
theorem State.whenLive_of_live (f : State → State) (h : s.live = true) : s.whenLive f = f s := by
  simp [State.whenLive, h]

end Sys2Proof.Machine
end

