-- ==== Sys2Proof/Laws/Issue.lean ====
section
/-! SUPPORT. What the shared operations that most commands go through can do, said once: the issue of an instruction, the write
of a command object and of an object, and a host command that the port answers. -/

namespace Sys2Proof.Machine

/-- What the issue of an instruction answers, by what its body leaves. -/
theorem State.issue_of_issues (s : State) (p : Fin 4) (n : Nat) (k : OpKind) (body : State → Issue) (h : s.Issues p n k) :
    s.issue p n k body = (match body s with
    | .done r => r.complete p n s.pairs[p].branch
    | .goto r ip => (r.onPair p (fun q => { q with ip })).retire p
    | .placed r => r
    | .stay r => r
    | .trap r t => r.takeFault p t) := by
  obtain ⟨h1, h2, h3⟩ := h
  unfold State.issue
  rw [h1, h2]
  simp only [Bool.not_true, Bool.false_eq_true, if_false]
  exact (if_neg (by rw [h3]; decide)).trans rfl

/-- What a register instruction answers: completion with the registers it leaves, or its fault. -/
theorem State.registerOp_of_issues (s : State) (p : Fin 4) (n : Nat) (f : Pair → Except Trap Pair) (h : s.Issues p n .plain) :
    s.registerOp p n f = (match f s.pairs[p] with
      | .ok q => s.afterOp p n q
      | .error t => s.takeFault p t) := by
  unfold State.registerOp
  rw [State.issue_of_issues _ _ _ _ _ h]
  generalize hf : f s.pairs[p] = x
  cases x <;> simp only [Fin.getElem_fin] <;> rfl

/-- R46: an admitted write of a command object that nothing refuses starts its action. -/
theorem State.runCmd_of_admitted (key : Nat) (f : Frame) (x : Action) (s r : State) (a : Asker) (v : List Byte)
    (h : s.CmdAdmitted key f x a v r) (hb : r.busy key = false) (ht : r.alreadyWritten key = false) (hg : x.guard a v r = 0) :
    s.runCmd key f x = State.conclude key (x.act a v (r.cmdStarted key f a)) := by
  obtain ⟨h1, h2, q, p, d, n, h3, h0, h4, h5, h6⟩ := h
  simp [State.runCmd, h1, h2, h3, State.writeCmd, h0, h4, h5, ← h6, State.beginAction, hb, ht, hg, State.startAction, State.cmdStarted]

/-- A row of a plain object's write runs the write. -/
theorem exec_of_writeRow (c : Instr) (f : Frame) (mine : Nat → Bool) (held : Option (Fin 32)) (s : State)
    (h : writeRow c = some (f, mine, held)) : exec c s = .next (s.runWrite mine held [] f) := by
  cases c
  all_goals first
    | (simp only [writeRow, reduceCtorEq] at h; done)
    | (simp only [writeRow, Option.some.injEq, Prod.mk.injEq] at h; obtain ⟨rfl, rfl, rfl⟩ := h; rfl)

/-- A row of a command object's write runs its action through `runCmd`. -/
theorem exec_of_cmdRow (c : Instr) (f : Frame) (key : Nat) (x : Action) (s : State) (hc : cmdRow c = some (f, key, x)) :
    exec c s = .next (s.runCmd key f x) := by
  cases c
  case deviceReset o env =>
    cases o <;> simp only [cmdRow, Option.some.injEq, Prod.mk.injEq, reduceCtorEq] at hc
    obtain ⟨rfl, rfl, rfl⟩ := hc; rfl
  case functionEnable f' =>
    simp only [cmdRow, Option.map_eq_some_iff] at hc; obtain ⟨i, hi, h⟩ := hc; cases h; simp [exec, execFunctionEnable, hi]
  case functionDisable f' =>
    simp only [cmdRow, Option.map_eq_some_iff] at hc; obtain ⟨i, hi, h⟩ := hc; cases h; simp [exec, execFunctionDisable, hi]
  case haltOverride f' =>
    simp only [cmdRow, Option.map_eq_some_iff] at hc; obtain ⟨i, hi, h⟩ := hc; cases h; simp [exec, execHaltOverride, hi]
  all_goals first
    | (cases hc; done)
    | (cases hc; rfl)

/-- R145: a command that the port answers outside deep power-down has its effect, and settles the reset arming. -/
theorem State.hostCommand_of_answers (n : Fin 12) (cs : Fin 2) (op : Nat) (f : State → State) (s : State) (h1 : s.live = true)
    (h2 : s.portAnswers n cs = true) (h3 : (s.emu n cs).deepDown = false) :
    s.hostCommand n cs op f = (f s).onEmu n cs (fun x => { x with resetArmed := op == 0x66 }) := by
  simp [State.hostCommand, h1, h2, h3]

end Sys2Proof.Machine
end

