-- ==== Sys2Proof/Laws/Maps.lean ====
section
/-! SUPPORT. Sparse maps and octet memories: reads after writes, and every operation keeps the canonical form. -/

namespace Sys2Proof.Machine

variable {α : Type}

/-! ## Reads of sparse maps -/

/-- The key just set reads as set. -/
@[simp] theorem kget_kset_same (m : KMap α) (k : Nat) (x : α) : kget (kset m k x) k = some x := by
  induction m with
  | nil => simp [kset, kget]
  | cons e rest ih =>
    obtain ⟨a, v⟩ := e
    simp only [kset]
    split
    · simp [kget]
    · split
      · simp [kget]
      · have : a ≠ k := by omega
        simp [kget, this, ih]

/-- Another key reads as before. -/
theorem kget_kset_other (m : KMap α) (k q : Nat) (x : α) (h : k ≠ q) : kget (kset m k x) q = kget m q := by
  induction m with
  | nil => simp [kset, kget, h]
  | cons e rest ih =>
    obtain ⟨a, v⟩ := e
    simp only [kset]
    split
    · simp [kget, h]
    · split
      · rename_i hk
        subst hk
        simp [kget, h]
      · simp only [kget, ih]

/-- A removed key reads as absent, and another one as before. -/
theorem kget_kdel (m : KMap α) (k q : Nat) : kget (kdel m k) q = if q = k then none else kget m q := by
  induction m with
  | nil => simp [kdel, kget]
  | cons e rest ih =>
    obtain ⟨a, v⟩ := e
    simp only [kdel] at ih
    by_cases h : a = k
    · subst h
      by_cases hq : q = a
      · subst hq
        simpa [kdel, kget] using ih
      · have : a ≠ q := fun e => hq e.symm
        simpa [kdel, kget, hq, this] using ih
    · by_cases hq : q = k
      · subst hq
        simpa [kdel, kget, h] using ih
      · by_cases ha : a = q
        · subst ha
          simp [kdel, kget, h]
        · simpa [kdel, kget, h, hq, ha] using ih

/-! ## The canonical order of sparse maps -/

/-- Every key of a map lies above a bound. -/
def above (b : Nat) (m : KMap α) : Bool := m.all (fun e => b < e.1)

/-- The keys of a map rise when the first lies below the others and the rest rise. -/
theorem krising_cons (k : Nat) (v : α) (m : KMap α) : krising ((k, v) :: m) = (above k m && krising m) := by
  induction m generalizing k v with
  | nil => simp [krising, above]
  | cons e rest ih =>
    obtain ⟨a, w⟩ := e
    simp only [krising, ih a w]
    rw [Bool.eq_iff_iff]
    simp only [above, List.all_cons, Bool.and_eq_true, decide_eq_true_eq, List.all_eq_true]
    constructor
    · rintro ⟨h1, h2, h3⟩
      exact ⟨⟨h1, fun x hx => lt_trans h1 (h2 x hx)⟩, h2, h3⟩
    · rintro ⟨⟨h1, _⟩, h2, h3⟩
      exact ⟨h1, h2, h3⟩

theorem above_kset (b k : Nat) (x : α) (m : KMap α) (hb : b < k) (h : above b m = true) : above b (kset m k x) = true := by
  induction m with
  | nil => simp [kset, above, hb]
  | cons e rest ih =>
    obtain ⟨a, v⟩ := e
    simp only [above, List.all_cons, Bool.and_eq_true, decide_eq_true_eq] at h
    have hr : above b rest = true := h.2
    simp only [kset]
    split
    · simp [above, hb, h.1]
      simpa [above] using hr
    · split
      · simp [above, hb]
        simpa [above] using hr
      · have := ih hr
        simp only [above, List.all_cons, Bool.and_eq_true, decide_eq_true_eq] at this ⊢
        exact ⟨h.1, this⟩

/-- Setting a key keeps the keys rising. -/
theorem krising_kset (m : KMap α) (k : Nat) (x : α) (h : krising m = true) : krising (kset m k x) = true := by
  induction m with
  | nil => simp [kset, krising]
  | cons e rest ih =>
    obtain ⟨a, v⟩ := e
    rw [krising_cons, Bool.and_eq_true] at h
    simp only [kset]
    split
    · rename_i hk
      rw [krising_cons, Bool.and_eq_true, krising_cons, Bool.and_eq_true]
      refine ⟨?_, h⟩
      simp only [above, List.all_cons, Bool.and_eq_true, decide_eq_true_eq]
      refine ⟨hk, ?_⟩
      have := h.1
      simp only [above, List.all_eq_true, decide_eq_true_eq] at this ⊢
      intro y hy
      have := this y hy
      omega
    · split
      · rename_i hk
        subst hk
        rw [krising_cons, Bool.and_eq_true]
        exact h
      · rw [krising_cons, Bool.and_eq_true]
        exact ⟨above_kset a k x rest (by omega) h.1, ih h.2⟩

/-- Removing a key keeps the keys rising. -/
theorem krising_kdel (m : KMap α) (k : Nat) (h : krising m = true) : krising (kdel m k) = true := by
  induction m with
  | nil => simp [kdel, krising]
  | cons e rest ih =>
    obtain ⟨a, v⟩ := e
    rw [krising_cons, Bool.and_eq_true] at h
    by_cases hk : a = k
    · have : kdel ((a, v) :: rest) k = kdel rest k := by simp [kdel, hk]
      rw [this]
      exact ih h.2
    · have : kdel ((a, v) :: rest) k = (a, v) :: kdel rest k := by simp [kdel, hk]
      rw [this, krising_cons, Bool.and_eq_true]
      refine ⟨?_, ih h.2⟩
      have h1 := h.1
      simp only [above, kdel, List.all_filter, List.all_eq_true, decide_eq_true_eq] at h1 ⊢
      intro x hx
      have := h1 x hx
      simp [this]

/-! ## Octet memories -/

/-- The octet just written reads as written. -/
@[simp] theorem memGet_memSet_same (m : List Host.Cell) (a : Nat) (b : Byte) : memGet (memSet m a b) a = b := by
  unfold memGet memSet
  split
  · rename_i h
    simp [kget_kdel, h]
  · simp

/-- Another octet reads as before. -/
theorem memGet_memSet_other (m : List Host.Cell) (a q : Nat) (b : Byte) (h : a ≠ q) :
    memGet (memSet m a b) q = memGet m q := by
  have h' : q ≠ a := fun e => h e.symm
  unfold memGet memSet
  split
  · simp [kget_kdel, h']
  · rw [kget_kset_other _ _ _ _ h]

theorem all_nonzero_kset (m : List Host.Cell) (k : Nat) (b : Byte) (hb : (b != 0) = true)
    (h : m.all (fun c => c.2 != 0) = true) : (kset m k b).all (fun c => c.2 != 0) = true := by
  induction m with
  | nil => simpa [kset] using hb
  | cons e rest ih =>
    obtain ⟨a, v⟩ := e
    simp only [List.all_cons, Bool.and_eq_true] at h
    simp only [kset]
    split
    · simp only [List.all_cons, Bool.and_eq_true]
      exact ⟨hb, h.1, h.2⟩
    · split
      · simp only [List.all_cons, Bool.and_eq_true]
        exact ⟨hb, h.2⟩
      · simp only [List.all_cons, Bool.and_eq_true]
        exact ⟨h.1, ih h.2⟩

/-- A write of one octet keeps the canonical form. -/
theorem memWf_memSet (m : List Host.Cell) (a : Nat) (b : Byte) (h : memWf m = true) : memWf (memSet m a b) = true := by
  unfold memWf at h ⊢
  rw [Bool.and_eq_true] at h
  unfold memSet
  split
  · rw [Bool.and_eq_true]
    refine ⟨krising_kdel m a h.1, ?_⟩
    have h2 := h.2
    simp only [kdel, List.all_filter, List.all_eq_true] at h2 ⊢
    intro x hx
    rw [h2 x hx]
    simp
  · rename_i hb
    have hb : (b != 0) = true := by simpa using hb
    rw [Bool.and_eq_true]
    exact ⟨krising_kset m a b h.1, all_nonzero_kset m a b hb h.2⟩

/-- A store of octets keeps the canonical form. -/
theorem memWf_memStore (b : List Byte) (m : List Host.Cell) (p : Nat) (h : memWf m = true) :
    memWf (memStore m p b) = true := by
  induction b generalizing m p with
  | nil => exact h
  | cons x rest ih => exact ih (memSet m p x) (octNext p) (memWf_memSet m p x h)

/-- The pointers of n octets from a pointer on, in ascending octet-pointer order (R8). -/
def octetRange (p : Nat) : Nat → List Nat
  | 0 => []
  | n + 1 => p :: octetRange (octNext p) n

/-- A store of octets leaves every octet outside its range. -/
theorem memGet_memStore_other (b : List Byte) (m : List Host.Cell) (p a : Nat) (h : a ∉ octetRange p b.length) :
    memGet (memStore m p b) a = memGet m a := by
  induction b generalizing m p with
  | nil => rfl
  | cons x rest ih =>
    simp only [List.length_cons, octetRange, List.mem_cons, not_or] at h
    rw [memStore, ih _ _ h.2, memGet_memSet_other _ _ _ _ (fun e => h.1 e.symm)]

end Sys2Proof.Machine
end

