-- ==== Sys2Proof/WellFormed.lean ====
section
/-! DEFINITION. Well-formed commands: the operands are within what the spec's encodings and limits admit, and a command that
is a frame carries a frame of its row. An ill-formed command is still a command: exec gives it its meaning, which for a frame
of another row is no effect. -/

namespace Sys2Proof

/-- R57, R58: the frame's payload keeps the limit of 1,024 octets and its check has the length of its protection. -/
def Frame.bounded (f : Frame) : Bool :=
  f.payload.length ≤ 1024 && f.check.length == (if f.session.isSome then 16 else 4)

/-- The frame names an object, index and subindex together as a number. -/
def Frame.names (f : Frame) (key : Nat) : Bool := f.index.toNat * 256 + f.sub.toNat == key

/-- The frame is a WRITE (R57) of an object. -/
def Frame.writes (f : Frame) (key : Nat) : Bool := f.kind == 2 && f.bounded && f.names key

/-- R167: index 0x2n02 of a channel, n from 0 to 11. -/
def Frame.isPort (f : Frame) : Bool := 0x20 ≤ f.index.toNat / 256 && f.index.toNat / 256 ≤ 0x2B && f.index.toNat % 256 == 2

/-- R167: index 0x2n01 of a channel. -/
def Frame.isManifest (f : Frame) : Bool := 0x20 ≤ f.index.toNat / 256 && f.index.toNat / 256 ≤ 0x2B && f.index.toNat % 256 == 1

/-- The frame is a WRITE of a switchable function's subindex: `port` in 0x2n02, `tag` in 0x8000, `cards` in 0x8200. -/
def Frame.switches (f : Frame) (port tag cards : BitVec 8) : Bool :=
  f.kind == 2 && f.bounded &&
    ((f.isPort && f.sub == port) || (f.index == 0x8000 && f.sub == tag) || (f.index == 0x8200 && f.sub == cards))

/-- R536: the lengths of what a token answers. -/
def TokenReply.formed (t : TokenReply) : Bool :=
  t.keyDigest.length == 48 && t.keys.length == 2689 && t.ecSig.length == 96 && t.mlSig.length == 4627 &&
    (match t.failedStep with | some n => 1 ≤ n && n ≤ 4 | none => true)

/-- The command is well formed. -/
def Instr.wf : Instr → Bool
  | .mainPowerArrives _ => true
  | .bootWatchdogExpiry _ => true
  | .vio33InRange => true
  | .vauxRise => true
  | .vauxFall => true
  | .pfailNFall => true
  | .pfailNRise => true
  | .mainPowerLoss => true
  | .gateEntry => true
  | .channelFlashInit _ _ r => r.taps.length == 64
  | .prescanBurst _ b => 1 ≤ b.length && b.length ≤ 65536
  | .prescanBurstStall _ => true
  | .manifestVerification _ => true
  | .regionVerdict _ _ => true
  | .recoveryComplete _ _ _ => true
  | .gateAttestationCutoff => true
  | .primaryRecordAppend _ => true
  | .primaryRecordLate => true
  | .holdRelease => true
  | .lockstepMismatch _ => true
  | .pairReturnToService _ => true
  | .patrolScrubVisit _ _ => true
  | .busKeyReplacement => true
  | .hourlySave => true
  | .dexRead f => f.kind == 1 && f.bounded
  | .dexWrite f => f.kind == 2 && f.bounded
  | .forbiddenKindFrame f => f.kind == 3 || f.kind == 4 || f.kind == 6
  | .setupStep1 f => f.kind == 5 && f.bounded && f.session.isNone
  | .setupStep3 f => f.kind == 5 && f.bounded && f.session.isSome
  | .setupTimeout _ => true
  | .elevate f => f.kind == 7 && f.bounded
  | .officerElevation f => f.writes 0x110020
  | .closeSession f => f.writes 0x110021
  | .sessionIdleTimeout _ => true
  | .segmentGapTimeout _ _ => true
  | .dictionaryTickClose => true
  | .persistCommitDone _ => true
  | .cmdAbort f => f.kind == 2 && f.bounded && f.sub == 0xFE
  | .publish _ => true
  | .mailboxDoorbell _ _ b => b.length ≤ 2048
  | .mailboxAck _ _ => true
  | .networkPacketDrop _ => true
  | .icmpv6Echo _ => true
  | .neighbourDiscovery _ => true
  | .modeRequest f => f.writes 0x120003
  | .lifecycleAdvance f _ => f.writes 0x120004
  | .commitProvisioning f _ => f.writes 0x120005
  | .deviceReset f _ => match f with | some f => f.writes 0x120006 | none => true
  | .hotRestart f => f.writes 0x120007
  | .hotRestartComplete _ => true
  | .boardBoot f => f.writes 0x120008
  | .pePerstNAssert _ => true
  | .perstBoardBoot => true
  | .retire f _ => f.writes 0x120009
  | .maintainLimitExpiry => true
  | .ceremonyLimitExpiry => true
  | .installImage f _ => f.writes 0x700004
  | .installFromCard f content _ => f.writes 0x700005 && content.length ≤ 9437184
  | .functionEnable f => f.switches 2 3 1
  | .functionDisable f => f.switches 3 4 2
  | .functionDrainComplete _ => true
  | .functionStartComplete _ => true
  | .hostFastRead _ _ opcode _ len flash stopped _ =>
    [0x0B, 0x0C, 0x6B, 0x6C, 0xEB, 0xEC, 0xEE].contains opcode.toNat && flash.length ≤ len && (!stopped || flash.length < len)
  | .readId _ _ => true
  | .readSfdp _ _ _ _ => true
  | .readStatus _ _ => true
  | .hostRegisterRead _ _ _ => true
  | .writeEnable _ _ => true
  | .writeDisable _ _ => true
  | .hostPageProgram _ _ opcode _ data => [0x02, 0x12, 0x32, 0x34].contains opcode.toNat && 1 ≤ data.length && data.length ≤ 256
  | .hostSectorErase _ _ opcode _ => [0x20, 0x21, 0xD8, 0xDC].contains opcode.toNat
  | .hostSuspend _ _ => true
  | .hostResume _ _ => true
  | .setHostProtocol _ _ _ => true
  | .enter4Byte _ _ => true
  | .exit4Byte _ _ => true
  | .resetEnable _ _ => true
  | .softReset _ _ => true
  | .deepPowerDown _ _ => true
  | .releaseDeepPowerDown _ _ => true
  | .chipErase _ _ => true
  | .hostRegisterWrite _ _ _ => true
  | .hostUnknownCommand _ _ _ => true
  | .hostProtocolError _ => true
  | .hostClockExcess _ _ _ => true
  | .forwardedOpComplete _ _ => true
  | .pinnedReloadComplete _ _ _ => true
  | .dqsRetrain _ _ taps _ => taps.length == 64
  | .channelLogicError _ => true
  | .channelRestartComplete _ r0 r1 => r0.taps.length == 64 && r1.taps.length == 64
  | .haltOverride f => f.kind == 2 && f.bounded && f.isPort && f.sub == 5
  | .manifestWrite f => f.kind == 2 && f.bounded && f.isManifest && 1 ≤ f.sub.toNat && f.sub.toNat ≤ 8
  | .fillIn _ b => b.length ≤ 4096
  | .roundAgeVisit _ => true
  | .sweep f => f.writes 0x2C0020
  | .i3cDiscovery _ => true
  | .discoveryTimeout => true
  | .hotJoin _ => true
  | .endpointIdAssigned eid => 8 ≤ eid.toNat
  | .spdmResponse _ _ _ => true
  | .spdmTimeout _ => true
  | .spdmRetryWait _ => true
  | .spdmSlotTimeLimit _ => true
  | .serveCollectionWindowExpiry => true
  | .closeServeCollection f => f.writes 0x300021
  | .attestationHoldOverride f => f.writes 0x300020
  | .getVersion _ _ => true
  | .getCapabilities _ _ => true
  | .negotiateAlgorithms _ _ _ _ => true
  | .getDigests _ _ => true
  | .getCertificate _ _ _ offset len => offset < 65536 && len < 65536
  | .challenge _ _ _ summary => summary < 256
  | .getMeasurements _ _ index _ => index < 256
  | .respondIfReady _ _ => true
  | .spdmUnsupportedRequest _ _ => true
  | .doeDiscovery _ => true
  | .supplementPendingTimeout => true
  | .supplementPeriodExpiry => true
  | .supplementRequest f => f.writes 0x310020
  | .ledgerSignaturesVerified _ => true
  | .ledgerRoomAvailable => true
  | .ledgerCommit _ => true
  | .ledgerPreErase => true
  | .ledgerKeyRollover f => f.writes 0x310021
  | .acknowledgeExport f => f.writes 0x310013
  | .windowCursorWrite f => f.writes 0x310010
  | .windowRecordRead f => f.kind == 1 && f.bounded && f.names 0x310011
  | .ringCtrlWrite _ _ _ => true
  | .ringConsWrite _ _ => true
  | .ringFrameWrite => true
  | .tagSummaryWrite _ => true
  | .tagSummaryRetry _ => true
  | .jhSubmit _ _ => true
  | .jhPop _ _ => true
  | .jhAbort _ _ _ => true
  | .jhQuery _ _ _ => true
  | .jhTake _ _ => true
  | .jhCurrent _ _ _ => true
  | .jhDone _ _ _ => true
  | .jhCheckpoint _ _ _ => true
  | .jobPlacement _ => true
  | .engineCompletion _ => true
  | .jobSuspension _ _ => true
  | .urgencyAging => true
  | .jobRunTimeout _ => true
  | .keyWaitExpiry => true
  | .laneFault _ => true
  | .laneSelfTest _ _ => true
  | .runLaneSelfTest f => f.writes 0x410004
  | .unitFault _ => true
  | .unitSelfTest _ _ => true
  | .runUnitSelfTest f => f.writes 0x420004
  | .loadableCurveWrite f => f.kind == 2 && f.bounded && f.index == 0x4200 && 0x10 ≤ f.sub.toNat && f.sub.toNat ≤ 0x17
  | .kuLoad _ _ => true
  | .kuWrap _ _ => true
  | .kuGenerate _ _ => true
  | .kuDerive _ _ => true
  | .kuClear _ _ => true
  | .kuInfo _ _ => true
  | .kuPublic _ _ => true
  | .kuImport _ _ => true
  | .kuAbort _ _ => true
  | .keyExpiry _ => true
  | .advanceBlobGeneration f => f.writes 0x500020
  | .raiseMinimumGeneration f => f.writes 0x500021
  | .zeroise f => f.writes 0x500022
  | .entTake _ _ => true
  | .entropyWaitTimeout _ => true
  | .rawBlockComplete _ _ => true
  | .drbgInstantiate _ => true
  | .drbgReseed => true
  | .drbgGenerate => true
  | .testPatternEnable f => f.writes 0x510011
  | .rawCapture f bits => f.writes 0x510013 && bits.length == 131072
  | .sensorSample _ => true
  | .switchDebounceExpiry _ _ => true
  | .vcoreGlitch => true
  | .sensorRecalibration _ _ _ => true
  | .vigilTick => true
  | .vigilSample _ => true
  | .vigilAckTimeout _ => true
  | .responseChange f => f.writes 0x610001
  | .clearRestraint f => f.writes 0x610020
  | .unlock f => f.writes 0x610030
  | .cellChangeWindow f _ => f.writes 0x610040
  | .cellWindowExpiry => true
  | .cellRestored => true
  | .eventLogFlush _ => true
  | .flush f => f.writes 0x620005
  | .flushAgeExpiry => true
  | .eventCursorWrite f => f.writes 0x620003
  | .eventWindowRead f => f.kind == 1 && f.bounded && f.names 0x620004
  | .eventAcknowledgeExport f => f.writes 0x620006
  | .verifyChain f => f.writes 0x62000B
  | .eventRingEntryWrite => true
  | .opAdd _ _ _ _ => true
  | .opAddc _ _ _ _ => true
  | .opSub _ _ _ _ => true
  | .opSubb _ _ _ _ => true
  | .opAnd _ _ _ _ => true
  | .opOr _ _ _ _ => true
  | .opXor _ _ _ _ => true
  | .opAndn _ _ _ _ => true
  | .opShl _ _ _ _ => true
  | .opShr _ _ _ _ => true
  | .opSar _ _ _ _ => true
  | .opRol _ _ _ _ => true
  | .opSlt _ _ _ _ => true
  | .opSltu _ _ _ _ => true
  | .opSel _ _ _ _ => true
  | .opClz _ _ _ _ => true
  | .opOdif _ _ _ _ => true
  | .opOadd _ _ _ _ => true
  | .opAddi _ _ _ _ => true
  | .opAndi _ _ _ _ => true
  | .opOri _ _ _ _ => true
  | .opXori _ _ _ _ => true
  | .opShi _ _ _ _ => true
  | .opMovi _ _ _ => true
  | .opMovhi _ _ _ => true
  | .opOaddi _ _ _ _ => true
  | .opLdw _ _ _ _ _ => true
  | .opLdh _ _ _ _ _ => true
  | .opLdhs _ _ _ _ _ => true
  | .opLdo _ _ _ _ _ => true
  | .opLdos _ _ _ _ _ => true
  | .opStw _ _ _ _ _ => true
  | .opSth _ _ _ _ _ => true
  | .opSto _ _ _ _ _ => true
  | .opBeq _ _ _ _ => true
  | .opBne _ _ _ _ => true
  | .opBlt _ _ _ _ => true
  | .opBge _ _ _ _ => true
  | .opBltu _ _ _ _ => true
  | .opBgeu _ _ _ _ => true
  | .opBz _ _ _ => true
  | .opBnz _ _ _ => true
  | .opBcy _ _ _ => true
  | .opBnc _ _ _ => true
  | .opBneg _ _ _ => true
  | .opBpos _ _ _ => true
  | .opBr _ _ => true
  | .opCall _ _ => true
  | .opCallr _ _ => true
  | .opJr _ _ => true
  | .opRet _ => true
  | .opLoop _ _ _ _ => true
  | .opLoopi _ _ _ _ => true
  | .opLoopx _ _ => true
  | .opMul _ _ _ _ => true
  | .opMulhu _ _ _ _ => true
  | .opMulhs _ _ _ _ => true
  | .opMfmh _ _ => true
  | .opMtmh _ _ => true
  | .opMadd _ _ _ _ _ => true
  | .opMovo _ _ => true
  | .opMovod _ _ => true
  | .opMovw _ _ => true
  | .opFillo _ _ _ => true
  | .opFillw _ _ _ => true
  | .opSys _ _ => true
  | .opEret _ => true
  | .opSetml _ _ => true
  | .opMfsr _ _ _ => true
  | .opMtsr _ _ _ => true
  | .opFence _ => true
  | .opIfence _ => true
  | .opGfence _ => true
  | .opWait _ => true
  | .opBrk _ _ => true
  | .opPush _ _ => true
  | .opPop _ _ => true
  | .opRsspill _ _ => true
  | .illegalInstruction _ _ _ => true
  | .interrupt _ => true
  | .iclear _ _ _ => true
  | .doorbell _ _ _ => true
  | .timerExpiry _ _ => true
  | .pcovfWrite _ _ _ => true
  | .gauntletRuleWrite _ _ _ _ _ => true
  | .gateFence f => f.writes 0x720010
  | .fcKey _ _ => true
  | .wordProgram _ => true
  | .rowProgram _ => true
  | .sectorErase _ => true
  | .eraseSuspend _ => true
  | .eraseResume _ => true
  | .retireWord _ => true
  | .marginRead _ => true
  | .counterIncrement _ => true
  | .counterSet _ => true
  | .optionRewrite _ => true
  | .flashLifecycleAdvance _ => true
  | .fcAbort _ => true
  | .fqTailWrite _ _ => true
  | .fqAbort _ _ => true
  | .flashOperationComplete _ _ => true
  | .periodicMarginRead _ _ => true
  | .marginPass f => f.writes 0x730010
  | .reqa => true
  | .wupa => true
  | .anticollision _ bits => bits.length ≤ 40
  | .tagSelect _ _ => true
  | .hlta => true
  | .rats => true
  | .pps => true
  | .rBlock _ _ => true
  | .sDeselect => true
  | .doff => true
  | .apduSelect _ => true
  | .readRecord _ => true
  | .writeRecord _ data _ => data.length ≤ 1008
  | .directory => true
  | .envelope f => f.bounded && f.session.isNone
  | .unknownApdu => true
  | .fieldOn => true
  | .fieldLoss => true
  | .doffDeadline => true
  | .endDoff f => f.writes 0x800009
  | .wiredRecordWrite f _ => f.kind == 2 && f.bounded && f.index == 0x8100 && 0x20 ≤ f.sub.toNat && f.sub.toNat ≤ 0x3F
  | .readerPoll _ _ => true
  | .tokenAuthentication t => t.formed
  | .presentationTimeout => true
  | .rosterAdd f => f.writes 0x800023
  | .rosterRevoke f => f.writes 0x800024
  | .cardInsertion _ c => c.cid.length == 16 && c.labels.1.length == 512 && c.labels.2.length == 512
  | .cardRemoval _ _ => true
  | .cardArchive => true
  | .cardWriteBusyEnd => true
  | .cardStatusResponse _ => true
  | .cardBusyTimeout => true
  | .journalResolution _ _ _ => true
  | .prepareCard f => f.writes 0x820020
  | .stageImage f => f.writes 0x820021
  | .islandEntry _ _ => true
  | .islandWake _ => true
  | .islandExitComplete _ => true
  | .hostLatencyToleranceWrite f => f.writes 0x130001
  | .reportedLtrWrite f => f.writes 0x130004
  | .referenceClockLoss => true
  | .referenceClockReturn _ => true
  | .pllLossOfLock => true
  | .pllRelock => true
  | .crystalStop => true
  | .pcieRefclockLoss => true
  | .vigilCopyCheck => true
  | .crystalMeasurement _ _ => true
  | .trimUpdate => true
  | .slew f => f.writes 0x900007
  | .slewStep => true
  | .setVigilTime f => f.writes 0x900002
  | .snapshot f => f.writes 0x710001
  | .performanceDump => true
  | .freezePin _ => true
  | .freeze f => f.writes 0x900020
  | .freezeCommandDelay => true
  | .readoutRead _ _ => true
  | .readoutRelease _ _ => true
  | .readoutUnknownCommand _ => true
  | .registerWrite _ _ => true
  | .pcieLinkUp _ => true
  | .pcieLinkL1Transition _ => true
  | .xt32Return => true
  | .vigilSupplyLoss _ => true
  | .pairJobAbortBound _ => true
  | .eraseMinimumRunExpiry _ => true
  | .faultInjectionCanary _ => true
  | .boundaryScan _ _ => true
  | .mctpControlResponse _ => true

end Sys2Proof
end

