-- ==== Sys2Proof/Tests/Slice0.lean ====
section
/-! SUPPORT. The author's own tests: ill-formed commands that WellFormed recognises, a concrete state and operands for the
hypotheses of each statement, and single steps. -/

open Sys2Proof Sys2Proof.Machine

namespace Sys2Proof.Tests

set_option Elab.async false

/-! ## Small states and frames -/

/-- A device with main power, past its start, in a mode. -/
def liveIn (m : Mode) : State := State.reset.onModes (fun x => { x with mainPower := true, mode := m })

/-- A sessionless frame on I3C port 0 with the check of its octets. -/
def plainFrame (kind : BitVec 4) (key : Nat) (length : Nat) (payload : List Byte) : Frame :=
  let f : Frame := { transport := .i3c0, slot := 0, session := none, seq := 0, version := 1, kind, tag := 7,
                     index := BitVec.ofNat 16 (key / 256), sub := BitVec.ofNat 8 key, code := 0, offset := 0,
                     length := BitVec.ofNat 16 length, flags := 0, reserved := 0, payload, check := [] }
  { f with check := f.crc }

/-- A WRITE of an object. -/
def writeOf (key : Nat) (payload : List Byte) : Frame := plainFrame kindWrite key payload.length payload

/-- Session 5 on I3C port 0, of a role. -/
def sessionOf (role : Role) (pair : Bool) : Session :=
  { id := 5, transport := .i3c0, role, provisioning := false, glovePair := pair, officers := none, transcript := [], secret := 9,
    rxHigh := 0, rxSeen := [], txNext := 2, lastUsed := 0, holder := Holder.initial }

/-- The device with that session. -/
def addSession (role : Role) (pair : Bool) (s : State) : State :=
  s.onDict (fun d => { d with sessions := [sessionOf role pair] })

/-- A frame of session 5 whose payload in clear is p, sealed under the session's key. -/
def sealedFrame (kind : BitVec 4) (key : Nat) (length : Nat) (p : List Byte) : Frame :=
  let f : Frame := { plainFrame kind key length [] with session := some 5, seq := 1, flags := 1 }
  let c := gcmSeal (sessionOf .observer false).rxKey f.prefixOctets f.header p
  { f with payload := c.1, check := c.2 }

/-- A WRITE of an object in session 5. -/
def sealedWrite (key : Nat) (p : List Byte) : Frame := sealedFrame kindWrite key p.length p

/-- Pair 0 in service at a level. -/
def pairIn (l : Level) (m : Mode) : State := (liveIn m).onPair 0 (fun q => { q with inService := true, level := l })

/-- A flash that answers, whose reads at the given number of taps equal the reference. -/
def flashReply (good : Nat) : FlashReply :=
  { answered := true, id := [0xEF, 0x40, 0x18], sfdp := List.replicate 16 0, density := 27,
    taps := List.replicate good true ++ List.replicate (64 - good) false, tapSize := 2560 }

/-- What a start meets when nothing outside fails. -/
def env0 : StartEnv := { udsCopies := (true, true), h12 := true, vpea := true, cardImages := [] }

/-! ## Ill-formed commands are recognised, one for each check -/

def longFrame : Frame := plainFrame kindWrite 0x110020 1025 (List.replicate 1025 0)
def shortCheck : Frame := { writeOf 0x110020 [] with check := [0, 0, 0] }

theorem test_wf_payload_limit : Instr.wf (.dexWrite longFrame) = false := by decide +kernel
theorem test_wf_check_length : Instr.wf (.dexWrite shortCheck) = false := by decide
theorem test_wf_sealed_check : Instr.wf (.dexWrite { shortCheck with session := some 5, check := [0, 0, 0, 0] }) = false := by decide
theorem test_wf_kind : Instr.wf (.dexRead (writeOf 0x100001 [])) = false ∧ Instr.wf (.dexWrite (plainFrame 1 0x100001 1 [])) = false ∧
    Instr.wf (.forbiddenKindFrame (writeOf 0x100001 [])) = false ∧ Instr.wf (.setupStep1 (writeOf 0x000001 [])) = false ∧
    Instr.wf (.setupStep3 (plainFrame 5 0x000003 0 [])) = false ∧ Instr.wf (.elevate (writeOf 0x110020 [])) = false ∧
    Instr.wf (.windowRecordRead (writeOf 0x310011 [])) = false ∧ Instr.wf (.eventWindowRead (writeOf 0x620004 [])) = false := by
  decide +kernel
theorem test_wf_object : Instr.wf (.officerElevation (writeOf 0x110021 [])) = false ∧
    Instr.wf (.closeSession (writeOf 0x110020 [])) = false ∧ Instr.wf (.modeRequest (writeOf 0x120004 [4])) = false ∧
    Instr.wf (.deviceReset (some (writeOf 0x120007 [])) env0) = false ∧ Instr.wf (.sweep (writeOf 0x2C0021 [])) = false ∧
    Instr.wf (.slew (writeOf 0x900002 [])) = false ∧ Instr.wf (.freeze (writeOf 0x900021 [])) = false ∧
    Instr.wf (.cmdAbort (writeOf 0x1200FD [])) = false ∧ Instr.wf (.manifestWrite (writeOf 0x200109 [])) = false ∧
    Instr.wf (.manifestWrite (writeOf 0x200201 [])) = false ∧ Instr.wf (.haltOverride (writeOf 0x200204 [])) = false ∧
    Instr.wf (.functionEnable (writeOf 0x2C0202 [])) = false ∧ Instr.wf (.functionDisable (writeOf 0x800003 [])) = false ∧
    Instr.wf (.loadableCurveWrite (writeOf 0x420018 [])) = false ∧ Instr.wf (.wiredRecordWrite (writeOf 0x810040 []) none) = false :=
  by decide +kernel
theorem test_wf_envelope : Instr.wf (.envelope { plainFrame 1 0x100001 1 [] with session := some 5 }) = false := by decide +kernel
theorem test_wf_taps : Instr.wf (.channelFlashInit 0 0 { flashReply 9 with taps := [] }) = false ∧
    Instr.wf (.dqsRetrain 0 0 (List.replicate 63 true) 0) = false ∧
    Instr.wf (.channelRestartComplete 0 (flashReply 9) { flashReply 9 with taps := [] }) = false := by decide +kernel
theorem test_wf_lengths : Instr.wf (.prescanBurst 0 []) = false ∧ Instr.wf (.mailboxDoorbell 0 0 (List.replicate 2049 0)) = false ∧
    Instr.wf (.hostFastRead 0 0 0x03 0 0 [] false none) = false ∧ Instr.wf (.hostFastRead 0 0 0x0B 0 0 [0] false none) = false ∧
    Instr.wf (.hostFastRead 0 0 0x0B 0 1 [0] true none) = false ∧
    Instr.wf (.hostPageProgram 0 0 0x02 0 []) = false ∧ Instr.wf (.hostPageProgram 0 0 0x03 0 [0]) = false ∧
    Instr.wf (.hostPageProgram 0 0 0x02 0 (List.replicate 257 0)) = false ∧ Instr.wf (.hostSectorErase 0 0 0x60 0) = false ∧
    Instr.wf (.fillIn 0 (List.replicate 4097 0)) = false ∧ Instr.wf (.endpointIdAssigned 7) = false ∧
    Instr.wf (.rawCapture (writeOf 0x510013 [0]) []) = false ∧ Instr.wf (.anticollision 0 (List.replicate 41 true)) = false ∧
    Instr.wf (.writeRecord 2 (List.replicate 1009 0) false) = false := by decide +kernel
theorem test_wf_spdm : Instr.wf (.getCertificate .doe [] 0 65536 0) = false ∧ Instr.wf (.getCertificate .doe [] 0 0 65536) = false ∧
    Instr.wf (.challenge .doe [] 0 256) = false ∧ Instr.wf (.getMeasurements .doe [] 256 false) = false := by decide
/-- A card whose label blocks are given. -/
def cardOf (cid labels : List Byte) : CardReply :=
  { ready := true, cid, capacity := 0, fourBit := true, highSpeed := true, labels := (labels, labels) }

/-- A token that answers with blocks of the right lengths, except the key digest given, and fails a step or none. -/
def tokenOf (digest : List Byte) (failed : Option Nat) : TokenReply :=
  { uid := [1, 2, 3, 4], keyDigest := digest, keys := List.replicate 2689 0, ecSig := List.replicate 96 0,
    mlSig := List.replicate 4627 0, left := false, failedStep := failed }

theorem test_wf_card : Instr.wf (.cardInsertion 0 (cardOf [] (List.replicate 512 0))) = false ∧
    Instr.wf (.cardInsertion 0 (cardOf (List.replicate 16 0) [])) = false ∧
    Instr.wf (.cardInsertion 0 (cardOf (List.replicate 16 0) (List.replicate 512 0))) = true := by decide +kernel
theorem test_wf_card_content (b : List Byte) (h : 9437184 < b.length) :
    Instr.wf (.installFromCard (writeOf 0x700005 [0]) b env0) = false := by
  simp only [Instr.wf, Bool.and_eq_false_iff, decide_eq_false_iff_not]; right; omega
theorem test_wf_burst_limit (b : List Byte) (h : 65536 < b.length) : Instr.wf (.prescanBurst 0 b) = false := by
  simp only [Instr.wf, Bool.and_eq_false_iff, decide_eq_false_iff_not]; right; omega
theorem test_wf_token : Instr.wf (.tokenAuthentication (tokenOf [] none)) = false ∧
    Instr.wf (.tokenAuthentication (tokenOf (List.replicate 48 0) (some 5))) = false ∧
    Instr.wf (.tokenAuthentication (tokenOf (List.replicate 48 0) (some 4))) = true := by decide +kernel
theorem test_wf_good : Instr.wf (.officerElevation (writeOf 0x110020 [])) = true ∧ Instr.wf (.fillIn 0 (List.replicate 4096 0)) = true := by
  decide +kernel

/-! ## Frames that meet the hypotheses of the statements about the dictionary -/

theorem gcm_open_seal (k : BitVec 256) (n a p : List Byte) : gcmOpen k n a (gcmSeal k n a p).1 (gcmSeal k n a p).2 = some p := by
  have h : ((p.mapIdx (fun i b => b ^^^ Config.gcmStream k n i)).mapIdx (fun i b => b ^^^ Config.gcmStream k n i)) = p := by
    apply List.ext_getElem
    · simp
    · intro i h1 h2
      simp
  simp [gcmOpen, gcmSeal, h]

/-- A sealed WRITE of session 5 is received by a device with that session. -/
theorem sealed_write_received (s : State) (role : Role) (pair : Bool) (key : Nat) (p : List Byte)
    (hd : s.dict.sessions = [sessionOf role pair]) (hm : s.live = true) (hst : s.modes.starting = false)
    (hr : s.dict.restarting = false) (hl : p.length ≤ 1024) :
    s.receive (sealedWrite key p) = (s.accepted (sealedWrite key p),
      .request { transport := .i3c0, session := some 5, role, glovePair := pair, officers := none } p) := by
  have hs : s.session 5 = some (sessionOf role pair) := by simp [State.session, hd, sessionOf]
  have ha : s.arrives (sealedWrite key p) = true := by
    simp only [State.live, Bool.and_eq_true] at hm
    simp [State.arrives, hm, hst, sealedWrite, sealedFrame, plainFrame]
  have ho : s.openFrame (sealedWrite key p) = some (some p) := by
    have := gcm_open_seal (sessionOf role pair).rxKey ((sealedWrite key p).prefixOctets) (sealedWrite key p).header p
    simp only [State.openFrame]
    show (match s.session 5 with | none => none | some x => _) = _
    rw [hs]
    show (match gcmOpen _ _ _ _ _ with | none => none | some p => _) = _
    erw [this]
    rfl
  have hh : (sealedWrite key p).headerOk = true := by
    have h2 : (sealedWrite key p).payload.length = p.length := by simp [sealedWrite, sealedFrame, gcmSeal]
    have h3 : (sealedWrite key p).length.toNat = p.length := by
      show (BitVec.ofNat 16 p.length).toNat = _
      simp; omega
    unfold Frame.headerOk
    rw [h2, h3]
    simp [hl, sealedWrite, sealedFrame, plainFrame, kindWrite, kindRead]
  unfold State.receive
  rw [ha, ho]
  have h5 : (s.accepted (sealedWrite key p)).dict.restarting = false := hr
  have h6 : (s.accepted (sealedWrite key p)).refusesSessionless (sealedWrite key p) = false := rfl
  simp only [hh, h5, h6]
  have h7 : (s.accepted (sealedWrite key p)).asker (sealedWrite key p) =
      { transport := .i3c0, session := some 5, role, glovePair := pair, officers := none } := by
    have hf : (sealedWrite key p).session = some 5 := rfl
    have ht : (sealedWrite key p).transport = .i3c0 := rfl
    simp [State.asker, State.accepted, hf, ht, State.onSession, State.onDict, State.session, hd, sessionOf]
  rw [← h7]; rfl

/-- The directory entry of an object. -/
def entry (key : Nat) : Desc := (descOf key).getD (obj 0 .cmd 0 0 false 0 0 (.num 0))

/-- Session 5's asker. -/
def asker5 (role : Role) (pair : Bool) : Asker :=
  { transport := .i3c0, session := some 5, role, glovePair := pair, officers := none }

/-- A device with the session, in a mode. -/
def withPeer (m : Mode) (role : Role) (pair : Bool) : State := addSession role pair (liveIn m)

/-- The state in which a sealed write's action may begin. -/
def begun (s : State) (key : Nat) (p : List Byte) : State := (s.accepted (sealedWrite key p)).endSegment key

theorem admitted_of (s : State) (role : Role) (pair : Bool) (key : Nat) (p : List Byte) (x : Action)
    (hd : s.dict.sessions = [sessionOf role pair]) (hm : s.live = true) (hst : s.modes.starting = false)
    (hr : s.dict.restarting = false) (hl : p.length ≤ 1024) (hk : (sealedWrite key p).key = key)
    (ho : (s.accepted (sealedWrite key p)).outOfTarget key p = false)
    (hw : (s.accepted (sealedWrite key p)).writeAdmitted (asker5 role pair) key = .ok (entry key))
    (hv : (s.accepted (sealedWrite key p)).assemble (asker5 role pair) (entry key) (sealedWrite key p) p x.arg = .whole p none) :
    s.CmdAdmitted key (sealedWrite key p) x (asker5 role pair) p (begun s key p) :=
  ⟨rfl, hk, _, p, _, none, sealed_write_received s role pair key p hd hm hst hr hl, ho, hw, hv, rfl⟩

theorem test_meets_command_admitted : (withPeer .serve .officer true).CmdAdmitted modeRequestKey (sealedWrite modeRequestKey [5])
    modeRequestAction (asker5 .officer true) [5] (begun (withPeer .serve .officer true) modeRequestKey [5]) :=
  admitted_of _ _ _ _ _ _ rfl rfl rfl rfl (by decide) (by decide) (by decide) (by decide +kernel) (by decide +kernel)

/-! ## Hypotheses met: the block and its command objects -/

theorem test_meets_queue_and_memories : (∃ t, exec .vauxRise State.reset = .next t) ∧
    ({ State.reset with pending := [Instr.vauxRise] } : State).memoriesCanonical ∧
    ∃ t, step { State.reset with pending := [Instr.vauxRise] } = .next t :=
  ⟨⟨_, rfl⟩, ⟨by decide, by decide, by decide⟩, ⟨_, rfl⟩⟩

/-- An Officer's session asks for Maintain in Serve. -/
def officer : State := withPeer .serve .officer true

theorem test_meets_CommandObjectsStartOrRefuse_start :
    officer.CmdAdmitted modeRequestKey (sealedWrite modeRequestKey [5]) modeRequestAction (asker5 .officer true) [5]
      (begun officer modeRequestKey [5]) ∧
    (begun officer modeRequestKey [5]).busy modeRequestKey = false ∧
    (begun officer modeRequestKey [5]).alreadyWritten modeRequestKey = false ∧
    modeRequestAction.guard (asker5 .officer true) [5] (begun officer modeRequestKey [5]) = 0 :=
  ⟨admitted_of _ _ _ _ _ _ rfl rfl rfl rfl (by decide) (by decide) (by decide) (by decide +kernel) (by decide +kernel), by decide +kernel,
    by decide +kernel, by decide +kernel⟩

/-- The same device with the object Busy, and with the object written in this tick. -/
def officerBusy : State := officer.setCmd modeRequestKey cmdBusy 0
def officerWrote : State := officer.touch (asker5 .officer true) modeRequestKey

theorem test_meets_CommandObjectsStartOrRefuse_busy :
    officerBusy.CmdAdmitted modeRequestKey (sealedWrite modeRequestKey [5]) modeRequestAction (asker5 .officer true) [5]
      (begun officerBusy modeRequestKey [5]) ∧ (begun officerBusy modeRequestKey [5]).busy modeRequestKey = true ∧
    officerWrote.CmdAdmitted modeRequestKey (sealedWrite modeRequestKey [5]) modeRequestAction (asker5 .officer true) [5]
      (begun officerWrote modeRequestKey [5]) ∧ (begun officerWrote modeRequestKey [5]).busy modeRequestKey = false ∧
    (begun officerWrote modeRequestKey [5]).alreadyWritten modeRequestKey = true :=
  ⟨admitted_of _ _ _ _ _ _ rfl rfl rfl rfl (by decide) (by decide) (by decide) (by decide +kernel) (by decide +kernel), by decide +kernel,
    admitted_of _ _ _ _ _ _ rfl rfl rfl rfl (by decide) (by decide) (by decide) (by decide +kernel) (by decide +kernel), by decide +kernel,
    by decide +kernel⟩

/-- Vigil time is never set backward. -/
def late : State := (withPeer .provision .officer true).onVigil (fun v => { v with time := 1 })

theorem test_meets_CommandObjectsStartOrRefuse_refused :
    late.CmdAdmitted (okey 0x9000 2) (sealedWrite (okey 0x9000 2) [0, 0, 0, 0, 0, 0]) setTimeAction (asker5 .officer true)
      [0, 0, 0, 0, 0, 0] (begun late (okey 0x9000 2) [0, 0, 0, 0, 0, 0]) ∧
    setTimeAction.guard (asker5 .officer true) [0, 0, 0, 0, 0, 0] (begun late (okey 0x9000 2) [0, 0, 0, 0, 0, 0]) ≠ 0 :=
  ⟨admitted_of _ _ _ _ _ _ rfl rfl rfl rfl (by decide) (by decide) (by decide) (by decide +kernel) (by decide +kernel), by decide +kernel⟩

/-! ## Hypotheses met: the dictionary -/

theorem plain_received (s : State) (f : Frame) (h1 : s.arrives f = true)
    (h2 : (f.kind == kindResponse || f.kind == kindPublished || f.kind == kindError) = false) (h3 : f.session = none)
    (h4 : f.check = f.crc) (h5 : f.headerOk = true) (h6 : s.refusesSessionless f = false) (h7 : s.dict.restarting = false) :
    s.receive f = (s, .request (s.asker f) f.payload) := by
  simp [State.receive, h1, h2, h3, h4, h5, h6, h7, State.openFrame, State.accepted]

/-- The asker of a sessionless frame on I3C port 0. -/
def asker0 : Asker := { transport := .i3c0, session := none, role := .observer, glovePair := false, officers := none }

/-- A READ of an object. -/
def readOf (key length : Nat) : Frame := plainFrame kindRead key length []

theorem test_meets_ReadsReturnTheValue_plain :
    (readOf 0x110023 3).kind = kindRead ∧
    (liveIn .serve).receive (readOf 0x110023 3) = (liveIn .serve, .request asker0 []) ∧
    (liveIn .serve).readAdmitted asker0 0x110023 = .ok (entry 0x110023) ∧
    (liveIn .serve).readValue asker0 (entry 0x110023) = .ok [0, 1, 0x2C] ∧ inSegments (entry 0x110023) = false ∧
    (readOf 0x110023 3).offset = 0 ∧ ownRead (readOf 0x110023 3).key = false :=
  ⟨rfl, plain_received _ _ (by decide +kernel) (by decide) rfl (by decide +kernel) (by decide +kernel) (by decide +kernel) rfl,
    by decide +kernel, by decide +kernel, by decide +kernel, rfl, by decide +kernel⟩

theorem test_meets_ReadsReturnTheValue_segments :
    (liveIn .serve).receive (readOf 0x300013 1024) = (liveIn .serve, .request asker0 []) ∧
    (liveIn .serve).readAdmitted asker0 0x300013 = .ok (entry 0x300013) ∧
    (liveIn .serve).readValue asker0 (entry 0x300013) = .ok [] ∧ inSegments (entry 0x300013) = true :=
  ⟨plain_received _ _ (by decide +kernel) (by decide) rfl (by decide +kernel) (by decide +kernel) (by decide +kernel) rfl,
    by decide +kernel, by decide +kernel, by decide +kernel⟩

theorem test_meets_ReadsReturnTheValue_windows :
    (readOf 0x310011 1024).key = okey 0x3100 0x11 ∧ (readOf 0x620004 1024).key = okey 0x6200 4 ∧
    (liveIn .serve).readAdmitted asker0 0x620004 = .ok (entry 0x620004) := by decide +kernel

/-- A write of the idle limit of the sessions by an Officer. -/
def limitWrite : Frame := sealedWrite 0x110023 [0, 0, 10]
def limitWritten : State := officer.countFreezeWrite limitWrite

theorem test_meets_WritesWaitForTheTick :
    writeRow (.dexWrite limitWrite) = some (limitWrite, fun _ => true, none) ∧
    limitWritten.receive limitWrite = (limitWritten.accepted limitWrite, .request (asker5 .officer true) [0, 0, 10]) ∧
    limitWrite.key = 0x110023 ∧ actionOf limitWrite 0x110023 = none ∧
    (limitWritten.accepted limitWrite).writeAdmitted (asker5 .officer true) 0x110023 = .ok (entry 0x110023) ∧
    (limitWritten.accepted limitWrite).assemble (asker5 .officer true) (entry 0x110023) limitWrite [0, 0, 10]
      ((limitWritten.accepted limitWrite).valueCode (asker5 .officer true) (entry 0x110023)) = .whole [0, 0, 10] none ∧
    holdsRecord none 0x110023 = false :=
  ⟨rfl, sealed_write_received _ _ _ _ _ rfl (by decide +kernel) (by decide +kernel) (by decide +kernel) (by decide),
    by decide +kernel, by rfl, by decide +kernel, by decide +kernel, rfl⟩

/-- An abort of the Busy actions of 0x1200, by the Officer that started one. -/
def abortWrite : Frame := sealedWrite (okey 0x1200 0xFE) []
def abortBegun : State := (officerBusy.countFreezeWrite abortWrite).accepted abortWrite

theorem test_meets_FreezeAbortCaptureAndForbiddenFrames_abort :
    (officerBusy.countFreezeWrite abortWrite).receive abortWrite = (abortBegun, .request (asker5 .officer true) []) ∧
    abortWrite.kind = kindWrite ∧ abortWrite.key % 256 = 0xFE ∧ abortWrite.sub = 0xFE ∧
    ((cmdsOf abortWrite.index.toNat).filter (fun d => abortBegun.busy d.key)).any
      (fun d => abortBegun.abortCode (asker5 .officer true) d == 0) = true :=
  ⟨sealed_write_received _ _ _ _ _ rfl (by decide +kernel) (by decide +kernel) (by decide +kernel) (by decide), rfl, by decide, by decide,
    by decide +kernel⟩

/-- FREEZE in Forensic, which no write of it counts there. -/
def forensic : State := withPeer .forensic .officer true

theorem test_meets_FreezeAbortCaptureAndForbiddenFrames_freeze :
    forensic.countFreezeWrite (sealedWrite (okey 0x9000 0x20) []) = forensic ∧
    forensic.CmdAdmitted (okey 0x9000 0x20) (sealedWrite (okey 0x9000 0x20) []) freezeAction (asker5 .officer true) []
      (begun forensic (okey 0x9000 0x20) []) ∧
    (begun forensic (okey 0x9000 0x20) []).busy (okey 0x9000 0x20) = false ∧
    (begun forensic (okey 0x9000 0x20) []).alreadyWritten (okey 0x9000 0x20) = false ∧
    freezeAction.guard (asker5 .officer true) [] (begun forensic (okey 0x9000 0x20) []) = 0 :=
  ⟨rfl, admitted_of _ _ _ _ _ _ rfl rfl rfl rfl (by decide) (by decide) (by decide) (by decide +kernel) (by decide +kernel), by decide +kernel,
    by decide +kernel, rfl⟩

theorem test_meets_FreezeAbortCaptureAndForbiddenFrames_forbidden :
    (liveIn .serve).arrives (plainFrame kindResponse 0x100001 0 []) = true ∧
    (liveIn .serve).arrives (plainFrame kindPublished 0x100001 0 []) = true ∧
    (liveIn .serve).arrives (plainFrame kindError 0x100001 0 []) = true := by decide +kernel

/-- The last segment of step 1: 1,696 octets have come, one comes with offset 1,696. -/
def step1Frame : Frame :=
  let f : Frame := { plainFrame kindSetup 0x000001 1 [0] with offset := 1696 }
  { f with check := f.crc }
def step1Device : State := (liveIn .serve).onDict (fun d =>
  { d with setups := [{ id := 0, transport := .i3c0, transcript := [], partialStep := List.replicate 1696 0, secret := none,
                        rxHigh := 0, rxSeen := [], since := 0 }] })

theorem test_meets_SetupAndElevationOpenSessions_step1 :
    step1Device.receive step1Frame = (step1Device, .request asker0 ([0])) ∧
    step1Frame.kind = kindSetup ∧ step1Frame.session = none ∧ step1Frame.sub = 1 ∧ step1Frame.index = 0 ∧
    step1Frame.flags.getLsbD 1 = false ∧ step1Device.setupsFull .i3c0 = false ∧ step1Frame.offset ≠ 0 ∧
    ((step1Device.dict.setups.find? (arriving .i3c0)).map Setup.partialStep).getD [] = List.replicate 1696 0 ∧
    step1Frame.offset.toNat + 1 = step1Length :=
  ⟨plain_received _ _ (by decide +kernel) (by decide) rfl (by decide +kernel) (by decide +kernel) (by decide +kernel) rfl, rfl, rfl,
    rfl, rfl, rfl, rfl, by decide, rfl, rfl⟩

/-- Step 3 with an empty chain in Provision, under the keys of setup 5. -/
def setup5 : Setup :=
  { id := 5, transport := .i3c0, transcript := [], partialStep := [], secret := some 9, rxHigh := 0, rxSeen := [], since := 0 }
def step3Device : State := (liveIn .provision).onDict (fun d => { d with setups := [setup5] })
def step3Frame : Frame := sealedFrame kindSetup 0x000003 0 []

theorem sealed_opens (kind : BitVec 4) (key len : Nat) (p : List Byte) :
    gcmOpen (sessionOf .observer false).rxKey (sealedFrame kind key len p).prefixOctets (sealedFrame kind key len p).header
      (sealedFrame kind key len p).payload (sealedFrame kind key len p).check = some p := gcm_open_seal _ _ _ p

theorem test_meets_SetupAndElevationOpenSessions_step3 :
    step3Frame.kind = kindSetup ∧ step3Frame.session = some 5 ∧ step3Device.session 5 = none ∧ step3Device.arrives step3Frame = true ∧
    step3Device.dict.setups.find? (fun y => y.id == 5 && y.secret.isSome) = some setup5 ∧
    gcmOpen (sessionOf .observer false).rxKey step3Frame.prefixOctets step3Frame.header step3Frame.payload
      step3Frame.check = some [] ∧
    seqFresh 0 [] step3Frame.seq.toNat = true ∧ step3Frame.headerOk = true ∧ step3Frame.sub = 3 ∧ step3Frame.index = 0 ∧
    step3Frame.offset = 0 ∧ step3Frame.flags.getLsbD 1 = false ∧ setup5.secret = some (sessionOf .observer false).secret ∧
    step3Device.grantedRole setup5 [] = some (.operator, true) :=
  ⟨rfl, rfl, by decide +kernel, by decide +kernel, by decide +kernel, sealed_opens _ _ _ _, by decide, by decide +kernel, by decide, by decide,
    by decide, by decide, rfl, by decide +kernel⟩

theorem test_meets_TimeoutsEndSetupsSessionsAndSegments :
    officer.live = true ∧ (let s := officer.onVigil (fun v => { v with time := 300 * second + 1 })
      s.session 5 = some (sessionOf .officer true) ∧ 0 + s.objNum (okey 0x1100 0x23) * second < s.now) := by decide +kernel

/-- Two writes of one object in a tick, and a commit in flight. -/
def queued : State := officer.onDict (fun d => { d with
  tickWrites := [{ key := 0x110023, value := .num 20, transport := .net, frame := limitWrite },
                 { key := 0x110023, value := .num 10, transport := .pcie, frame := limitWrite }]
  commits := [{ key := 0x110023, value := .num 10, frame := some limitWrite }] })

theorem test_meets_WritesOfATickContendAndCommit :
    queued.live = true ∧ (∃ x rest f, queued.dict.commits = x :: rest ∧ x.frame = some f) ∧
    (∃ w x, inTransportOrder queued.dict.tickWrites = [w, x] ∧ w.transport = .pcie ∧ x.slot ∈ [w.slot]) := by
  refine ⟨rfl, ⟨_, _, _, rfl, rfl⟩, _, _, rfl, rfl, ?_⟩; decide +kernel

/-- Slot 1 busy, slot 2 with a response. -/
def mailed : State := ((liveIn .serve).onMailbox 1 (fun m => { m with stat := .busy })).onMailbox 2 (fun m => { m with stat := .ready })

theorem test_meets_MailboxAndNetworkFollowTheirRules :
    mailed.live = true ∧ (0x80000010 : BitVec 32).getLsbD 31 = true ∧ mailed.dict.mailbox[(0 : Fin 4)].stat = .free ∧
    mailed.dict.mailbox[(1 : Fin 4)].stat ≠ .free ∧ mailed.dict.mailbox[(2 : Fin 4)].stat = .ready := by decide

/-- A session that publishes, and sessionless I3C that updates the window. -/
def publishing : State := (officer.onSession 5 (fun x => { x with holder := { x.holder with destination := 1 } })).onHolder asker0
  (fun h => { h with destination := 2 })

theorem test_meets_SubscriptionsArePublished :
    publishing.live = true ∧ publishing.dict.restarting = false ∧ publishing.modes.starting = false ∧
    (∃ x, publishing.session 5 = some x ∧ x.holder.destination = 1) ∧ (publishing.holder asker0).destination = 2 ∧
    (publishing.onDict (fun d => { d with restarting := true })).dict.restarting = true := by
  refine ⟨rfl, rfl, rfl, ⟨_, rfl, rfl⟩, by decide, rfl⟩

/-- A segment of an ELEVATE message that others follow. -/
def elevateFrame : Frame :=
  let f : Frame := { plainFrame kindElevate 0 1 [] with session := some 5, seq := 1, flags := 3 }
  let c := gcmSeal (sessionOf .officer true).rxKey f.prefixOctets f.header [0]
  { f with payload := c.1, check := c.2 }

theorem session_opens (s : State) (f : Frame) (x : Session) (p : List Byte) (hf : f.session = some x.id)
    (hs : s.session x.id = some x) (hp : gcmOpen x.rxKey f.prefixOctets f.header f.payload f.check = some p)
    (hq : seqFresh x.rxHigh x.rxSeen f.seq.toNat = true) : s.openFrame f = some (some p) := by
  simp [State.openFrame, hf, hs, hp, hq]

theorem elevate_opens : officer.openFrame elevateFrame = some (some [0]) :=
  session_opens _ _ (sessionOf .officer true) _ rfl (by decide +kernel) (gcm_open_seal _ _ _ [0]) (by decide +kernel)

theorem test_meets_SetupAndElevationOpenSessions_elevate :
    officer.receive elevateFrame = (officer.accepted elevateFrame, .request (asker5 .officer true) [0]) ∧
    elevateFrame.kind = kindElevate ∧ elevateFrame.offset = 0 ∧ elevateFrame.flags.getLsbD 1 = true ∧
    (∃ x, (some 5 : Option Word).bind (officer.accepted elevateFrame).session = some x) := by
  refine ⟨?_, rfl, rfl, by decide, _, rfl⟩
  have h1 : officer.arrives elevateFrame = true := by decide +kernel
  have h2 : elevateFrame.headerOk = true := by
    simp [Frame.headerOk, elevateFrame, gcmSeal, plainFrame, kindElevate, kindRead, kindWrite, kindSetup]
  unfold State.receive
  rw [h1, elevate_opens]
  simp only [h2]
  rfl

/-! ## Hypotheses met: supplies, resets and modes -/

/-- A live device in a mode, changed. -/
def liveWith (m : Mode) (f : State → State) : State := f (liveIn m)

theorem test_meets_SuppliesDriveTheDevice :
    State.reset.modes.vio33 = false ∧ State.reset.modes.mainPower = false ∧ State.reset.vigil.vaux = false ∧
    (liveIn .serve).modes.mainPower = true ∧ (liveIn .serve).modes.pfail = false ∧ (liveIn .serve).power.frozen = none ∧
    (liveWith .serve (State.onModes (fun m => { m with pfail := true }))).modes.pfail = true := by decide

theorem test_meets_ResetsRestartsAndBoardBoot :
    (liveIn .serve).live = true ∧ (liveWith .serve (State.onModes (fun m => { m with starting := true }))).modes.starting = true ∧
    (liveWith .locked (State.onTamper (fun t => { t with unlockAccepted := true }))).tamper.unlockAccepted = true ∧
    (liveWith .serve (State.onModes (fun m => { m with hotRestart := some 0 }))).modes.hotRestart = some 0 ∧
    (∀ s, s = liveWith .serve (fun s => (s.onDict (fun d => { d with perst := true })).onModes (fun m =>
        { m with options := { m.options with words := List.replicate 51 0 ++ [1] } })) →
      s.dict.perst = true ∧ (s.opt 51).getLsbD 0 = true ∧ s.modes.mode.serving = true ∧ s.dict.boardBoot = none) := by
  refine ⟨by decide, by decide, by decide, by decide, ?_⟩
  rintro s rfl
  decide +kernel

theorem test_meets_ModeRequestsAndLimits :
    Mode.ofCode (beNat [5]) = some .maintain ∧ requestCode (asker5 .officer true) (requestRow .serve .maintain) = 0 ∧
    Mode.ofCode (beNat [6]) = some .ceremony ∧ requestCode (asker5 .officer true) (requestRow .serve .ceremony) = 0 ∧
    requestCode asker0 (requestRow .serve .maintain) ≠ 0 ∧ requestCode (asker5 .officer true) (requestRow .locked .forensic) = 0 ∧
    Mode.ofCode (beNat [9]) = some .forensic ∧ (liveIn .maintain).live = true ∧ (liveIn .maintain).operationBusy = false ∧
    (liveIn .ceremony).operationBusy = false ∧
    ((liveIn .ceremony).setCmd (okey 0x5000 0x20) cmdBusy 0).operationBusy = true ∧
    ((liveIn .maintain).setCmd (okey 0x7000 4) cmdBusy 0).operationBusy = true := by decide +kernel

/-! ## Hypotheses met: channels in Gate and while serving -/

/-- Descriptor of channel 0: enabled, a flash on chip select 0, one region, ceiling 100 MHz, protocols 0, 4 and 5, ID EF4018. -/
def desc0 : ChanDesc := { w0 := BitVec.ofNat 48 (2 ^ 31 + 100 * 2 ^ 23 + 4 + 1), w1 := BitVec.ofNat 48 (0xEF4018 * 2 ^ 24 + 2 ^ 6 + 2 ^ 10 + 2 ^ 11) }

/-- A region of one page at 0, of a policy, valid, with tag 9, that the host may write. -/
def region0 (policy : Nat) : RegionDef := { w0 := BitVec.ofNat 48 (policy * 2 ^ 12 + 2 ^ 9), w1 := BitVec.ofNat 48 (9 * 2 ^ 24 + 2 ^ 4) }

/-- The option words with that channel. -/
def options0 (policy : Nat) : List Word :=
  List.replicate 64 0 ++ [BitVec.ofNat 48 (configMagic * 2 ^ 24 + 1), desc0.w0, desc0.w1] ++ List.replicate 22 0 ++
    [(region0 policy).w0, (region0 policy).w1]

/-- A device with channel 0 in a phase, its flash initialised, its lane tested. -/
def channel0 (m : Mode) (policy phase : Nat) : State :=
  ((liveIn m).onModes (fun x => { x with options := { x.options with words := options0 policy } })).onChan 0 (fun c =>
    { c with phase, flash := c.flash.map (fun f => { f with ready := true }) }) |>.onHealth 0 (fun h => { h with untested := false })

theorem test_meets_GateScansAChannel_entry :
    (channel0 .blank 0 0).live = true ∧ (∃ k q, ((channel0 .blank 0 0).onEnt (fun e => { e with queue := [0, 3] })).drawFingerprintKey =
      some (k, q)) ∧
    (((channel0 .blank 0 0).onModes (fun m => { m with startPending := some .gate })).onInteg (fun i =>
      { i with busKeysFromDrbg := true })).integ.busKeysFromDrbg = true :=
  ⟨rfl, ⟨_, _, rfl⟩, rfl⟩

/-- A channel whose flash has not answered yet. -/
def unread0 : State := (channel0 .gate 1 1).onChan 0 (fun c => { c with flash := c.flash.map (fun f => { f with ready := false }) })

theorem test_meets_GateScansAChannel_init :
    unread0.modes.mode = .gate ∧ (unread0.chanDesc 0).enabled = true ∧ unread0.initDone 0 0 = false ∧
    ((unread0.initFlash 0 0 (flashReply 20)).initDone 0 0 && (unread0.initFlash 0 0 (flashReply 20)).initDone 0 1) = true ∧
    unread0.chans[(0 : Fin 12)].manifestsDecided = false := by decide +kernel

/-- Both chip selects hold a flash, none has answered. -/
def unreadBoth : State :=
  unread0.onModes (fun x => { x with options := { x.options with words := (options0 1).set 65 (desc0.w0 ||| 8) } })

theorem test_meets_GateScansAChannel_half :
    unreadBoth.initDone 0 0 = false ∧ (unreadBoth.chanDesc 0).enabled = true ∧
    ((unreadBoth.initFlash 0 0 (flashReply 20)).initDone 0 0 && (unreadBoth.initFlash 0 0 (flashReply 20)).initDone 0 1) = false := by
  decide +kernel

theorem test_meets_GateScansAChannel_burst :
    (channel0 .gate 1 2).scanning 0 = some (0, region0 1) ∧ (channel0 .gate 1 2).streamReady 0 = true ∧
    (channel0 .gate 1 2).initDone 0 0 = true ∧ (channel0 .gate 1 2).initDone 0 1 = true ∧
    4096 ≤ (channel0 .gate 1 2).burstRoom 0 0 (region0 1) ∧ kget (channel0 .gate 1 2).cons.bases 0 = none ∧
    (region0 1).isPinned = false ∧ ((channel0 .gate 1 2).region 0 0).retries = 0 ∧
    2 ≤ (((channel0 .gate 1 2).onRegion 0 0 (fun x => { x with retries := 2 })).region 0 0).retries ∧
    ((channel0 .gate 1 2).onRegion 0 0 (fun x => { x with retries := 2 })).scanning 0 = some (0, region0 1) := by decide +kernel

/-- A manifest of one entry with a SHA-384 digest, accepted in slot 0. -/
def manifestOf (digest : List Byte) : List Byte :=
  [0x4E, 0x4D, 0x46, 0x31, 0, 0, 1, 0, 0, 0, 0, 0, 1, 2, 0, 1] ++ [0, 0, 9, 0, 0, 1] ++ digest ++ [1, 1, 0, 0, 0, 0]
def withManifest (digest : List Byte) (s : State) : State :=
  s.onChan 0 (fun c => { c with manifestsDecided := true, status := [(0, 1)], manifests := [(0, manifestOf digest)] })

/-- Hashed regions: the entry's digest, another digest, no entry, an unreadable one. -/
def hashed0 (policy : Nat) : State := (channel0 .gate policy 2).onRegion 0 0 (fun x =>
  { x with hashed := true, digest := List.replicate 48 3 })

theorem test_meets_RawVerdictsFollowTheManifest :
    ((withManifest (List.replicate 48 3) (hashed0 1)).manifestEntry 0 (region0 1)).map ManifestEntry.digest =
      some ((withManifest (List.replicate 48 3) (hashed0 1)).region 0 0).digest ∧
    ((withManifest (List.replicate 48 4) (hashed0 1)).manifestEntry 0 (region0 1)).map ManifestEntry.digest =
      some (List.replicate 48 4) ∧ ((withManifest (List.replicate 48 4) (hashed0 1)).region 0 0).digest = List.replicate 48 3 ∧
    (hashed0 1).manifestEntry 0 (region0 1) = none ∧ ((hashed0 1).region 0 0).unreadable = false ∧
    (region0 0).policy = 0 ∧ (region0 1).policy ≠ 0 ∧
    (((hashed0 1).onRegion 0 0 (fun x => { x with unreadable := true })).region 0 0).unreadable = true := by
  decide +kernel

theorem test_meets_VerdictsRecoveryAndTheEndOfGate_verdict (policy : Fin 4) :
    (withManifest [] (hashed0 policy.val)).live = true ∧
    (withManifest [] (hashed0 policy.val)).regionDef 0 0 = some (region0 policy.val) ∧
    (withManifest [] (hashed0 policy.val)).modes.mode = .gate ∧ (region0 policy.val).valid = true ∧
    (region0 policy.val).policy = policy.val ∧ ((withManifest [] (hashed0 policy.val)).region 0 0).hashed = true ∧
    ((withManifest [] (hashed0 policy.val)).region 0 0).complete = false ∧
    ((withManifest [] (hashed0 policy.val)).region 0 0).recovering = none ∧
    (withManifest [] (hashed0 policy.val)).chans[(0 : Fin 12)].manifestsDecided = true ∧
    ((withManifest [] (hashed0 policy.val)).rawVerdict 0 0 (region0 policy.val) ≠ 1) := by
  match policy with
  | 0 => decide +kernel
  | 1 => decide +kernel
  | 2 => decide +kernel
  | 3 => decide +kernel

/-- A region in recovery, with a manifest entry of a digest. That content hashes to it rests on the hash, which is opaque. -/
def recovering0 : State := withManifest (List.replicate 48 3)
  ((channel0 .gate 2 3).onRegion 0 0 (fun x => { x with hashed := true, recovering := some .flashRange }))

theorem test_meets_VerdictsRecoveryAndTheEndOfGate_recovery :
    (recovering0.region 0 0).recovering ≠ none ∧ recovering0.streamReady 0 = true ∧ 4096 = 4096 * (region0 2).pages ∧
    ((recovering0.closeStream 0).manifestEntry 0 (region0 2)).isSome = true := by decide +kernel

/-- Gate with its one region complete, and a release queue. -/
def gateDone : State := ((channel0 .gate 0 4).onRegion 0 0 (fun x => { x with complete := true })).onModes (fun m =>
  { m with releaseQueue := [0, 0x10, 0x13] })

theorem test_meets_VerdictsRecoveryAndTheEndOfGate_end :
    gateDone.live = true ∧ gateDone.modes.mode = .gate ∧ gateDone.allComplete = true ∧ gateDone.att.gateEnded = false ∧
    gateDone.ledger.full = false ∧ gateDone.modes.startPending = none ∧ (gateDone.onAtt (fun a => { a with gateEnded := true })).att.gateEnded = true ∧
    gateDone.ledger.rolloverDue = none ∧ gateDone.ledger.append = none ∧ gateDone.ledger.queue = [] ∧
    gateDone.ledger.primaryAsked = false ∧
    gateDone.modes.releaseQueue.dropWhile (fun x => !entryValid x) = [0x10, 0x13] := by decide +kernel

theorem test_meets_ScrubKeysSavesAndFunctions :
    memClassNumber .commons ≤ 3 ∧ memClassNumber .otherSram ≤ 3 ∧
    ((liveIn .serve).onEnt (fun e => { e with delivered := true })).ent.delivered = true ∧
    (((liveIn .serve).setFn .tag { st := .draining, queued := true }).fn .tag).st = .draining ∧
    (((liveIn .serve).setFn (.hostPort 11) { st := .starting, queued := false }).fn (.hostPort 11)).st = .starting ∧
    ((liveIn .serve).fn .cards).st ≠ .draining ∧ ((liveIn .serve).fn .cards).st ≠ .starting := by decide +kernel

/-! ## Hypotheses met: host ports -/

/-- Channel 0 serves, and its device has taken a write enable, is armed for reset and has an operation pending. -/
def serving0 : State := (channel0 .serve 1 5).onChan 0 (fun c => { c with port := { st := .on, queued := false } })
def writable0 : State := serving0.onEmu 0 0 (fun e => { e with writeEnable := true, resetArmed := true })
def asleep0 : State := serving0.onEmu 0 0 (fun e => { e with deepDown := true })
def pending0 : State := serving0.onChan 0 (fun c =>
  { c with forwarded := c.forwarded.set 0 (some { pages := [0], erase := false, suspended := false }) })

/-- Pair 1 in service beside the duty pair, after PFAIL_N fell. -/
def powerFailing : State := (((liveIn .serve).onPair 0 (fun q => { q with inService := true })).onPair 1 (fun q =>
  { q with inService := true })).onModes (fun m => { m with pfail := true })

theorem test_powerFail_duty_pair : powerFailing.live = true ∧ powerFailing.runs 0 = true ∧ powerFailing.runs 1 = false := by
  decide +kernel

theorem test_meets_HostCommandsKeepEmulatedState :
    writable0.live = true ∧ writable0.portAnswers 0 0 = true ∧ (writable0.emu 0 0).deepDown = false ∧
    (writable0.emu 0 0).resetArmed = true ∧ (writable0.emu 0 0).writeEnable = true ∧ (writable0.chanDesc 0).masks 4 = true ∧
    (writable0.chanDesc 0).masks 5 = true := by decide +kernel

theorem test_meets_IdentificationAndPowerDownOfThePort :
    asleep0.live = true ∧ asleep0.portAnswers 0 0 = true ∧ (asleep0.emu 0 0).deepDown = true ∧ (liveIn .serve).portAnswers 0 0 = false ∧
    serving0.portAnswers 0 0 = true ∧ (serving0.emu 0 0).deepDown = false := by decide +kernel

theorem test_meets_HostWritesAreFiltered :
    (readProtocols (0x0B : Byte).toNat).any (runsProtocol (serving0.chanDesc 0) (serving0.emu 0 0).protocol) = true ∧
    serving0.portPasses 0 = false ∧ (writable0.emu 0 0).writeEnable = true ∧ writable0.chans[(0 : Fin 12)].forwarded[(0 : Fin 2)] = none ∧
    writable0.mayWritePages 0 [0 + writable0.hostAddress 0 0 0x02 0 / 4096] = true ∧
    writable0.mayWritePages 0 [0 + writable0.hostAddress 0 0 0x02 0x1000 / 4096] = false ∧
    writable0.mayWritePages 0 (erasePages 0 (writable0.hostAddress 0 0 0x20 0xFFF) 0x20) = true ∧
    writable0.mayWritePages 0 (erasePages 0 (writable0.hostAddress 0 0 0xD8 0) 0xD8) = false ∧
    (serving0.emu 0 0).writeEnable = false ∧
    pending0.chans[(0 : Fin 12)].forwarded[(0 : Fin 2)] = some { pages := [0], erase := false, suspended := false } ∧
    pending0.portAnswers 0 0 = true := by decide +kernel

/-- Regions that reload, with content of the digest and of another. -/
def reloading0 (digest : List Byte) : State := serving0.onRegion 0 0 (fun x => { x with reloading := true, digest })

theorem test_meets_ChannelEventsWhileServing :
    serving0.live = true ∧ serving0.portEnabled 0 = true ∧ serving0.portAnswers 0 0 = true ∧
    200000 * 100 > (serving0.chanDesc 0).limit (serving0.emu 0 0).protocol * 102 ∧ serving0.modes.mode.serving = true ∧
    serving0.regionDef 0 0 = some (region0 1) ∧ ((reloading0 []).region 0 0).reloading = true ∧
    serving0.chans[(0 : Fin 12)].phase = 5 ∧ serving0.chans[(0 : Fin 12)].flash[(0 : Fin 2)].ready = true ∧
    8 ≤ (dqsWindow (List.replicate 5 true ++ List.replicate 59 false)).2 ∧
    (dqsWindow (List.replicate 4 true ++ List.replicate 60 false)).2 < 8 ∧
    serving0.modes.pfail = false ∧ powerFailing.modes.pfail = true ∧
    (serving0.chanDesc 0).enabled = true ∧ serving0.chans[(0 : Fin 12)].phase ≠ 7 ∧
    (channel0 .serve 1 7).chans[(0 : Fin 12)].phase = 7 := by decide +kernel

theorem test_meets_ChannelEventsWhileServing_reload :
    regionHash (region0 1).digest [1] = ((reloading0 (regionHash 0 [1])).region 0 0).digest ∧
    regionHash (region0 1).digest [1] ≠ ((reloading0 []).region 0 0).digest := by
  refine ⟨rfl, ?_⟩
  intro h
  have h := congrArg List.length h
  exact absurd h (by decide +kernel)

/-! ## Hypotheses met: read consistency -/

theorem gfMul_one_one : gfMul 1 1 = 1 := by decide +kernel

theorem gfInvFrom_one (n : Nat) : gfInvFrom n 1 1 = 1 := by
  induction n with
  | zero => rfl
  | succ n h => simp only [gfInvFrom, gfMul_one_one, h]

theorem gfPow_one (n : Nat) : gfPow 1 n = 1 := by
  induction n with
  | zero => rfl
  | succ n h => simp only [gfPow, h, gfMul_one_one]

theorem test_meets_SegmentContributionIsItsFingerprintTerms :
    keyValuesOk 1 = true ∧ 0 / 128 = (0 + [1, 2].length - 1) / 128 ∧ 4095 / 128 = (4095 + [(1 : Byte)].length - 1) / 128 := by
  refine ⟨?_, by decide, by decide⟩
  simp only [keyValuesOk, gfInv, tHi, tLo, gfInvFrom_one, gfPow_one, gfMul_one_one, beq_self_eq_true, Bool.and_self]

/-- Page 0 of channel 0 with its last octet uncovered, in the check, and a fill-in queued. -/
def partial0 : State := (((channel0 .serve 1 5).onEntry 0 (fun x => { x with mask := 0x7FFFFFFF, st := .armed, aged := true })).onUnit 0
  (fun u => { u with key := some 3, fillIns := [0] }))

theorem test_meets_FillInsTrainingAndAgeVisits :
    powerFailing.live = true ∧ powerFailing.modes.pfail = true ∧ partial0.modes.pfail = false ∧
    partial0.live = true ∧ partial0.modes.mode.serving = true ∧ (partial0.fpUnit 0).fillIns = [0] ∧ (partial0.fpUnit 0).key = some 3 ∧
    (partial0.uncovered 0 0).length = 128 ∧
    (partial0.channelEntries 0).any (fun e => e.2.st == .armed && partial0.roundOpen 0 e.1 && e.2.aged) = true := by decide +kernel

/-! ## Hypotheses met: attestation -/

/-- A table with slot 0 (I3C by identity 7, Gate) and slot 1 (I3C fixed, Serve), in a mode and a collection phase. -/
def attesting (m : Mode) (phase : Nat) : State := (liveIn m).onAtt (fun a =>
  { a with phase, table := [7, BitVec.ofNat 48 (1 * 2 ^ 9 + 1), 0, BitVec.ofNat 48 (2 * 2 ^ 9 + 2 ^ 8 + 1)] ++ List.replicate 124 0 })

theorem test_meets_DiscoveryAddressesTheDevices :
    (attesting .gate 1).live = true ∧ (attesting .gate 1).modes.mode = .gate ∧ (attesting .gate 1).att.discovered = false ∧
    (attesting .gate 1).att.phase = 1 ∧
    (attesting .gate 1).gateSlots.filter (fun k => ((attesting .gate 1).responder k).eid.isNone &&
      ((attesting .gate 1).responder k).outcome == 0) = [0] ∧
    (attesting .serve 2).slotsOf (fun k => (attesting .serve 2).collects k && (attesting .serve 2).slotServe k &&
      ((attesting .serve 2).responder k).eid.isNone && ((attesting .serve 2).slotTransport k == 2 ||
        ((attesting .serve 2).slotTransport k == 1 && (attesting .serve 2).slotWord k 0 == 7))) = [1] ∧
    (attesting .gate 1).slotValid 0 = true ∧ (attesting .gate 1).slotTransport 0 ≠ 3 ∧
    (((attesting .gate 1).onSlot 0 (fun x => { x with found := true })).responder 0).found = true := by decide +kernel

/-- Slot 1 with a request outstanding, with resends, Busy waits and a wait. -/
def exchanging (resends busyWaits : Nat) (waiting : Option (Option Nat)) : State := (attesting .serve 2).onSlot 1 (fun x =>
  { x with await := some .version, eid := some 0x21, resends, busyWaits, waiting })

theorem test_meets_SlotsFollowTheirExchange :
    (exchanging 0 0 none).live = true ∧ ((exchanging 0 0 none).responder 1).await = some .version ∧
    ((exchanging 0 0 none).responder 1).waiting = none ∧ (((exchanging 0 0 none).responder 1).noted [1]).isSome = true ∧
    ((exchanging 0 2 none).responder 1).busyWaits < 3 ∧ 3 ≤ ((exchanging 0 3 none).responder 1).busyWaits ∧
    ((exchanging 1 0 none).responder 1).inProgress = true ∧ ((exchanging 1 0 none).responder 1).resends < 2 ∧
    2 ≤ ((exchanging 2 0 none).responder 1).resends ∧ ((exchanging 0 0 (some none)).responder 1).waiting = some none ∧
    ((exchanging 0 0 (some (some 4))).responder 1).waiting = some (some 4) ∧ (exchanging 0 0 none).att.phase = 2 ∧
    (attesting .gate 1).att.phase ≠ 2 := by decide +kernel

/-- The connection of a requester as far as its algorithms. -/
def connected : State := (liveIn .serve).onConnection .doe (fun c => { c with versioned := true, capable := true, negotiated := true })

theorem test_meets_SpdmRequestsAreAnswered :
    connected.live = true ∧ connected.modes.hotRestart = none ∧ connected.modes.mode.responds = true ∧
    (connected.connection .doe).versioned = true ∧ (connected.connection .doe).capable = true ∧
    (connected.connection .doe).negotiated = true ∧ [2].contains 2 = true := by decide

theorem test_meets_SpdmErrorsByMode :
    (liveIn .serve).live = true ∧ ((liveIn .serve).onModes (fun m => { m with hotRestart := some 0 })).modes.hotRestart.isSome = true ∧
    (liveIn .locked).modes.hotRestart = none ∧ (liveIn .locked).modes.mode.responds = false := by decide

/-! ## Hypotheses met: the ledger and the rings -/

/-- An append at a stage. -/
def appendAt (stage : AppendStage) (kind : RecordKind) : Append :=
  { request := { kind, reason := 0, cmd := none, entries := [], items := [], boot := 1 }, stage, sequence := 4, entries := [], body := [],
    record := [1, 2, 3, 4, 5, 6], start := some 1, tries := 1, items := [], rest := [], waited := false, newKey := none }

/-- A serving device with that append, its first pending item one second old. -/
def appending (stage : AppendStage) (kind : RecordKind) : State :=
  ((liveIn .serve).onLedger (fun l => { l with append := some (appendAt stage kind), pendingSince := some 0 })).onVigil (fun v =>
    { v with time := second })

theorem test_meets_LedgerStepsFollowTheAppend :
    (appending .signed .primary).live = true ∧ (appending .signed .primary).ledger.pendingSince = some 0 ∧
    0 + second ≤ (appending .signed .primary).now ∧
    (∀ s, s = ((liveIn .serve).putNum (okey 0x3100 0x0A) 60).onVigil (fun v => { v with time := 60 * second }) →
      s.objNum (okey 0x3100 0x0A) ≠ 0 ∧ s.ledger.appendedAt + s.objNum (okey 0x3100 0x0A) * second ≤ s.now) ∧
    (appendAt .waitingRoom .primary).stage = .waitingRoom ∧
    (appending .signed .primary).makeRoom.hasRoom (appendAt .signed .primary).record.length = true ∧
    (appendAt .programmed .primary).rest = [] ∧ (appendAt .programmed .rollover).request.kind = .rollover := by
  refine ⟨by decide, by decide, by decide, ?_, by decide, by decide +kernel, by decide, by decide⟩
  rintro s rfl
  decide +kernel

/-- A ring whose next sector is not erased: one record, exported. -/
def ringed : State := ((liveIn .serve).programWord 1 2049 5).onLedger (fun l =>
  { l with records := [{ sequence := 1, kind := 1, start := 2049, length := 6, hash := [], boot := 1 }], tail := 1 })

theorem test_meets_LedgerStepsFollowTheAppend_erase :
    ringed.nextUnerased = some 1 ∧ ringed.mayReclaim 1 = true := by decide +kernel

theorem test_meets_CommitMovesTheLedgerOn : ringed.ledger.records ≠ [] := by decide +kernel

/-- An enabled ring of 131,072 octets. -/
def enableRing (r : Fin 2) (s : State) : State := s.onRing r (fun x => { x with ctrl := 1, size := 131072, nextSeq := 1 })

theorem test_meets_RingRegistersLockWhileEnabled :
    ((enableRing 1 (liveIn .serve)).ledger.rings[(1 : Fin 2)]).ctrl.getLsbD 0 = true ∧
    ((liveIn .serve).ledger.rings[(1 : Fin 2)]).ctrl.getLsbD 0 = false ∧ ringSizeOk 131072 = true ∧ ringSizeOk 67108864 = true ∧
    ringSizeOk 65536 = false := by decide +kernel

theorem test_meets_RingsExportRecords_cons :
    (enableRing 0 ringed).live = true ∧ ((enableRing 0 ringed).ledger.rings[(0 : Fin 2)]).ctrl.getLsbD 0 = true ∧
    ((1 : BitVec 32) - (enableRing 0 ringed).ledger.rings[(0 : Fin 2)].cons).toNat > (enableRing 0 ringed).ledger.rings[(0 : Fin 2)].used ∧
    (0 : BitVec 32) = (enableRing 0 ringed).ledger.rings[(0 : Fin 2)].cons ∧
    (enableRing 0 ringed).ledger.rings[(0 : Fin 2)].ctrl.getLsbD 1 = false ∧
    (enableRing 0 ringed).ledger.rings[(0 : Fin 2)].frameEnds = [] := by decide +kernel

theorem test_meets_RingsExportRecords_record :
    (enableRing 0 ringed).modes.mode.ringsRun = true ∧
    (enableRing 0 ringed).ledger.records.find? (fun e => (enableRing 0 ringed).ledger.rings[(0 : Fin 2)].nextSeq ≤ e.sequence) =
      some { sequence := 1, kind := 1, start := 2049, length := 6, hash := [], boot := 1 } ∧
    (enableRing 0 ringed).recordOctets { sequence := 1, kind := 1, start := 2049, length := 6, hash := [], boot := 1 } =
      some [5, 0, 0, 0, 0, 0] ∧
    (enableRing 0 ringed).ledger.tail ≤ (enableRing 0 ringed).ledger.rings[(0 : Fin 2)].nextSeq ∧
    (recordFrame 1 [5, 0, 0, 0, 0, 0]).length = 64 ∧ (enableRing 0 ringed).ledger.rings[(0 : Fin 2)].used + 64 ≤ 131072 := by
  decide +kernel

/-- An event record in slot 0, unread by ring 1. -/
def evented : State := enableRing 1 ((liveIn .serve).onTamper (fun t => { t with index := [(1, 0, none)], tail := 1 }))

theorem test_meets_RingsExportRecords_event :
    evented.live = true ∧ evented.ledger.rings[(1 : Fin 2)].ctrl.getLsbD 0 = true ∧ evented.modes.mode.ringsRun = true ∧
    evented.tamper.index.find? (fun e => evented.ledger.rings[(1 : Fin 2)].nextSeq ≤ e.1) = some (1, 0, none) ∧
    (evented.slotWords 0).isSome = true ∧ evented.tamper.tail ≤ evented.ledger.rings[(1 : Fin 2)].nextSeq ∧
    evented.ledger.rings[(1 : Fin 2)].used + 32 ≤ evented.ledger.rings[(1 : Fin 2)].size.toNat ∧
    (evented.onLedger (fun l => { l with summaryDue := true, summaryRetry := true })).ledger.summaryRetry = true := by decide +kernel

/-! ## Hypotheses met: the Job Hub -/

/-- Monitor of pair 0 with a staged descriptor of a class; class 5 describes a pair job. -/
def staged (cls : Nat) : State := (pairIn .monitor .serve).onHubWindow (windowIndex 0 .monitor) (fun w =>
  { w with desc := w.desc.set 0 (BitVec.ofNat 48 (cls * 2 ^ 6)) })

/-- The job that the staged descriptor of a class describes, in a state and placement. -/
def jobOf (cls : Nat) (st : JobState) (placement : Nat) : Job :=
  { jobOfWords (#v[BitVec.ofNat 48 (2 ^ 40 + cls * 2 ^ 6), 0, 0, 0, 0, 0] : Vector Word 6) 0 .monitor with st, placement }

/-- That job in slot 3, with handle 0x1003. -/
def withJob (j : Job) : State := (pairIn .monitor .serve).onHub (fun h => { h with slots := [(3, j)], allocs := [(3, 1)] })

/-- The Supervisor window is full: the quota of 0x4000:11 is 0. -/
def noQuota : State := (staged 5).put (okey 0x4000 0x11) (.octets [0, 0, 0, 0, 0, 0])

theorem test_meets_HubWindowsAndThePairsJobs_submit :
    (staged 5).pairAt 0 .monitor = true ∧
    (staged 5).submitCheck 0 .monitor (jobOfWords (staged 5).hub.windows[windowIndex 0 .monitor].desc 0 .monitor) = 0 ∧
    ((staged 5).allocate (jobOfWords (staged 5).hub.windows[windowIndex 0 .monitor].desc 0 .monitor)).2 = some 0 ∧
    (staged 7).submitCheck 0 .monitor (jobOfWords (staged 7).hub.windows[windowIndex 0 .monitor].desc 0 .monitor) =
      descriptorInvalid ∧
    noQuota.submitCheck 0 .monitor (jobOfWords noQuota.hub.windows[windowIndex 0 .monitor].desc 0 .monitor) = quotaExceeded := by
  decide +kernel

/-- A window whose queue holds the entry of slot 3. -/
def finished : State := (withJob (jobOf 5 .done 0xFF)).onHubWindow (windowIndex 0 .monitor) (fun w =>
  { w with queue := [{ handle := 0x1003, code := 0, produced := 0, suspensions := 0, epoch := 0 }] })

theorem test_meets_HubWindowsAndThePairsJobs_pop :
    (pairIn .monitor .serve).hub.windows[windowIndex 0 .monitor].queue = [] ∧
    finished.hub.windows[windowIndex 0 .monitor].queue ≠ [] ∧
    (finished.onHubWindow (windowIndex 0 .monitor) (fun x => { x with queue := [] })).slotOf 0x1003 = some 3 ∧
    (withJob (jobOf 5 .ready 0xFF)).slotOf ((0x1003 : Word).setWidth 24) = some 3 ∧
    (withJob (jobOf 5 .ready 0xFF)).job 3 = some (jobOf 5 .ready 0xFF) ∧ (jobOf 5 .ready 0xFF).st.isFinal = false ∧
    (withJob (jobOf 5 .ready 0xFF)).owns 0 .monitor 64 3 = true ∧ (pairIn .monitor .serve).slotOf 0 = none := by decide +kernel

theorem test_meets_HubWindowsAndThePairsJobs_monitor :
    (pairIn .monitor .serve).hub.placed[(0 : Fin 4)] = [] ∧
    ((pairIn .monitor .serve).onHub (fun u => { u with placed := u.placed.set 0 [0x1003] })).hub.placed[(0 : Fin 4)] = [0x1003] ∧
    (withJob (jobOf 5 .running 0x50)).slotOf (BitVec.ofNat 24 (bitsOf (0x001003000000 : Word) 47 24)) = some 3 ∧
    (withJob (jobOf 5 .running 0x50)).job 3 = some (jobOf 5 .running 0x50) ∧ (jobOf 5 .running 0x50).cls = 5 ∧
    bitsOf (0x001003000000 : Word) 23 0 = 0 ∧ bitsOf (0x001003000005 : Word) 23 0 ≠ 0 ∧
    (withJob (jobOf 5 .running 0x50)).childrenOf 0x1003 = [] ∧
    (withJob { jobOf 5 .running 0x50 with parent := 0x1003 }).childrenOf 0x1003 ≠ [] := by decide +kernel

theorem test_meets_HubPlacesAndEndsJobs_place :
    ((withJob (jobOf 5 .ready 0xFF)).failUnavailable 5).modes.pfail = false ∧
    (powerFailing.failUnavailable 1).modes.pfail = true ∧
    ((withJob (jobOf 5 .ready 0xFF)).failUnavailable 5).pairForJob = some 0 ∧
    ((withJob (jobOf 5 .ready 0xFF)).failUnavailable 5).bestJob (fun j => j.cls == 5 && j.st.placeable) = some (3, jobOf 5 .ready 0xFF) ∧
    (∀ q, q = ((withJob (jobOf 1 .ready 0xFF)).onHealth 0x11 (fun h => { h with untested := false })).failUnavailable 1 →
      (instancesOf 1).find? (fun code => q.instanceFree code && (q.bestJob (fun j => j.cls == 1 && q.candidate code j)).isSome) =
        some 0x11 ∧
      q.modes.pfail = false ∧ q.bestJob (fun j => j.cls == 1 && q.candidate 0x11 j) = some (3, jobOf 1 .ready 0xFF)) := by
  refine ⟨by decide +kernel, by decide +kernel, by decide +kernel, by decide +kernel, ?_⟩
  rintro q rfl
  decide +kernel

/-- What an engine delivers for slot 3. -/
def resultOf (place epoch : Nat) : EngineResult := { place, slot := 3, epoch, parentEpoch := 0, iterations := 0 }

theorem test_meets_HubPlacesAndEndsJobs_end :
    (pairIn .monitor .serve).stale (resultOf 0x10 0) = true ∧ (withJob (jobOf 1 .running 0x10)).stale (resultOf 0x10 0) = false ∧
    (withJob (jobOf 1 .running 0x10)).job 3 = some (jobOf 1 .running 0x10) ∧ (jobOf 1 .running 0x10).st = .running ∧
    (jobOf 1 .running 0x10).cls ≤ 4 ∧ (jobOf 1 .running 0x10).stream = none ∧ (jobOf 1 .running 0x10).epoch = 0 ∧
    (withJob (jobOf 5 .aborting 0x50)).job 3 = some (jobOf 5 .aborting 0x50) := by decide +kernel

/-- A running job of class 1 that may be suspended, and a Ready one that is more urgent by 5, without a free engine. -/
def longJob : Job := { jobOf 1 .running 0x10 with
  flags := 0b001010, words := #v[BitVec.ofNat 48 (0x100000 * 8), 0, 400, BitVec.ofNat 48 (0x100100 * 8)] }
def crowded : State := ((withJob longJob).onHub (fun h => { h with slots := [(3, longJob), (4, { jobOf 1 .ready 0xFF with urgency := 5 })] })).onEng
  (fun e => { e with contextKey := some 7 })

theorem test_meets_HubPlacesAndEndsJobs_suspend :
    crowded.live = true ∧ crowded.job 3 = some longJob ∧ crowded.eng.contextKey = some 7 ∧ crowded.maySuspend 3 longJob = true ∧
    longJob.boundary 0 = true ∧ longJob.boundary 136 = true := by decide +kernel

/-! ## Hypotheses met: lanes, units, keys and entropy -/

/-- Lane H0 worn by three faults, and a test that is due. -/
def tested (s : State) : State := s.onHealth 0x30 (fun h => { h with untested := false })

theorem test_meets_FaultsAndSelfTestsOfInstances :
    (liveIn .serve).inService (laneCode 0) = true ∧ (liveIn .serve).streamsOn (laneCode 0) = [] ∧
    (((liveIn .serve).bumpWord (okey 0x4100 1) 18 0).instanceFault (laneCode 0)).worn (laneCode 0) = false ∧
    (liveIn .serve).testDue (laneCode 0) (liveIn .serve).eng.laneRun ((liveIn .serve).objNum (okey 0x4100 3)) = true ∧
    (liveIn .serve).inService (unitCode 0) = true ∧
    (((liveIn .serve).bumpWord (okey 0x4200 5) 3 0).instanceFault (unitCode 0)).worn (unitCode 0) = false ∧
    (liveIn .serve).testDue (unitCode 0) (liveIn .serve).eng.unitRun ((liveIn .serve).objNum (okey 0x4200 3)) = true ∧
    (∀ s, s = (liveIn .serve).onHealth (laneCode 0) (fun h => { h with untested := false }) →
      s.testDue (laneCode 0) s.eng.laneRun (s.objNum (okey 0x4100 3)) = false) ∧
    ((liveIn .serve).onHub (fun h => { h with outOfService := [laneCode 17] })).inService (laneCode 17) = false ∧
    (∀ s, s = ((liveIn .serve).onHealth (unitCode 0) (fun h => { h with faultTimes := [0, 0] })) →
      ((s.bumpWord (okey 0x4200 5) 3 0).instanceFault (unitCode 0)).worn (unitCode 0) = true) := by
  refine ⟨by decide +kernel, by decide +kernel, by decide +kernel, by decide +kernel, by decide +kernel, by decide +kernel,
    by decide +kernel, ?_, by decide +kernel, ?_⟩
  · rintro s rfl
    decide +kernel
  · rintro s rfl
    decide +kernel

/-- A key of 32 octets in slot 32, and the window of Monitor that names it. -/
def keyOf (notAfter : Nat) : KeySlot :=
  { material := List.replicate 32 1, level := 0, filledBy := some 0,
    attrs := { keyType := 3, useClass := 1, modeMask := 0x10, minLevel := 0, pairMask := 0x0F, flags := 1, length := 32, keyId := 1,
               notAfter, curve := List.replicate 48 0, reserved := [0, 0, 0] } }
def keyed (notAfter : Nat) : State := ((pairIn .monitor .serve).onKeys (fun u =>
  { u with slots := [(32, keyOf notAfter)], windows := u.windows.set (windowIndex 0 .monitor) { KeyWindow.initial with arg0 := BitVec.ofNat 48 (32 * 2 ^ 40) } })).onVigil
    (fun v => { v with time := 5 })

/-- How a command ended: with a code; or it waits. -/
def endsWith (c : Nat) : KeyEnd → Bool
  | .ends d => d == c
  | .waits _ => false
def awaits : KeyEnd → Bool
  | .ends _ => false
  | .waits _ => true

theorem test_meets_KeyWindowsRunTheirCommands :
    (keyed 0).pairAt 0 .monitor = true ∧ (keyed 0).keys.windows[windowIndex 0 .monitor].st ≠ .busy ∧
    endsWith 0 ((keyed 0).runKeyCmd .clear 0 .monitor (keyed 0).keys.windows[windowIndex 0 .monitor]).2 = true ∧
    endsWith destinationShort ((keyed 0).runKeyCmd .info 0 .monitor (keyed 0).keys.windows[windowIndex 0 .monitor]).2 = true ∧
    destinationShort ≠ 0 ∧
    ((keyed 0).onKeyWindow 0 .monitor (fun w => { w with st := .busy })).keys.windows[windowIndex 0 .monitor].st = .busy ∧
    (keyed 4).keySlot 32 = some (keyOf 4) ∧ (keyOf 4).attrs.notAfter ≠ 0 ∧ (keyOf 4).attrs.notAfter < (keyed 4).now ∧
    (keyed 5).now ≤ (keyOf 5).attrs.notAfter ∧ (keyed 5).keySlot 32 = some (keyOf 5) := by decide +kernel

/-- The attributes of a symmetric key in the commons, from which GENERATE begins to wait. -/
def generateWindow : KeyWindow := { KeyWindow.initial with arg0 := BitVec.ofNat 48 (33 * 2 ^ 40 + 0x100000 * 8) }
def generating : State := ((keyed 0).onCommons (fun c => memStore c (0x100000 * 8) (keyOf 0).attrs.octets)).onKeys (fun u =>
  { u with windows := u.windows.set (windowIndex 0 .monitor) generateWindow })

theorem test_meets_KeyWindowsRunTheirCommands_waits :
    generating.pairAt 0 .monitor = true ∧ awaits (generating.runKeyCmd .generate 0 .monitor generateWindow).2 = true := by
  decide +kernel

/-- Two cells that have passed their tests and hold a block, in a DRBG state. -/
def entropic (st : Nat) : State := ((pairIn .monitor .serve).onCell 1 (fun c => { c with startBlocks := 4, block := some (5, 1) })).onCell 3 (fun c =>
  { c with startBlocks := 4, block := some (6, 2) }) |>.onCell 0 (fun c => { c with inService := false }) |>.onCell 2 (fun c =>
  { c with inService := false }) |>.onEnt (fun e => { e with st })

theorem test_meets_EntropyFlowsThroughTheQueue_drbg :
    (entropic 0).live = true ∧ (entropic 0).ent.st = 0 ∧ (entropic 0).cellsTested = true ∧ 2 ≤ (entropic 0).cellsInService ∧
    (entropic 0).twoBlocks (fun m => m ≥ (entropic 0).ent.eraseMoment) = some ((1, 5, 1), (3, 6, 2)) ∧ (entropic 1).ent.st ≠ 0 ∧
    ((entropic 1).putNum (okey 0x5100 8) ((entropic 1).objNum (okey 0x5100 9))).reseedBlocksNow = some ((1, 5, 1), (3, 6, 2)) ∧
    (entropic 1).ent.queue.length ≤ 960 ∧ (entropic 1).objNum (okey 0x5100 8) < 1048576 ∧
    960 < ((entropic 1).onEnt (fun e => { e with queue := List.replicate 961 0 })).ent.queue.length := by decide +kernel

theorem test_meets_EntropyFlowsThroughTheQueue_queue :
    (entropic 1).pairAt 0 .monitor = true ∧ (entropic 1).takeWords 1 = none ∧
    (((entropic 1).onEnt (fun e => { e with queue := [9] })).takeWords 1).isSome = true ∧
    ((entropic 1).onPair 0 (fun q => { q with entropyWait := true })).pairs[(0 : Fin 4)].entropyWait = true ∧
    (entropic 1).ent.queue = [] := by decide +kernel

/-- Raw bits that alternate, and cells whose assessed entropy is a quarter of a bit, with proportion cutoffs of 600. -/
def alternating : BitVec 1024 := BitVec.ofNat 1024 (List.replicate 128 0xAA |>.foldl (fun n x => n * 256 + x) 0)
def assessed : State := ((entropic 1).put (okey 0x5100 4) (.octets [0x40, 0, 0x40, 0, 0x40, 0, 0x40, 0])).put (okey 0x5100 5)
  (.octets [2, 0x58, 2, 0x58, 2, 0x58, 2, 0x58])

theorem test_meets_EntropyFlowsThroughTheQueue_blocks :
    assessed.ent.cells[(0 : Fin 4)].inService = false ∧ assessed.ent.cells[(1 : Fin 4)].inService = true ∧
    (repetition (repetitionCutoff (assessed.cellValue 4 1)) (assessed.rawBits 0) false 0 false).2.2 = true ∧
    (repetition (repetitionCutoff (assessed.cellValue 4 1)) (assessed.rawBits alternating) false 0 false).2.2 = false ∧
    proportionHit (assessed.cellValue 5 1) (assessed.rawBits alternating) = false ∧
    assessed.ent.cells[(1 : Fin 4)].startBlocks ≥ 4 := by decide +kernel

/-! ## Hypotheses met: the tamper watch and vigil time -/

/-- All four meshes fitted, no switch fitted. -/
def fitted : State := (liveIn .serve).putNum (okey 0x6000 9) 15

theorem test_meets_SamplesWatchTheirSources :
    fitted.live = true ∧ fitted.meshFitted 2 = true ∧ (fitted.putNum (okey 0x6000 9) 0).meshFitted 2 = false ∧ fitted.power.pll ≠ 2 ∧
    (∀ (ca n va : Int) (w : Word), targetsOk (calGain w) (calOffset w) ca (ca - ca) n va = false) := by
  refine ⟨by decide +kernel, by decide +kernel, by decide +kernel, by decide +kernel, ?_⟩
  intro ca n va w
  simp [targetsOk]

theorem test_meets_RaisingIsOncePerRaise :
    (((liveIn .serve).raiseSource 0x1F 0).source 0x1F).raised = true ∧ ((liveIn .serve).source 0x1F).raised = false := by decide +kernel

/-- On the cell, with the switches fitted. -/
def onCell : State := (State.reset.onVigil (fun v => { v with supply := .vbat })).putNum (okey 0x6000 0x0A) 15
def watched : State := (liveIn .serve).onVigil (fun v => { v with supply := .vaux })

theorem test_meets_VigilDomainWatchesAndFlushes_vigil :
    onCell.watching = true ∧ onCell.live = false ∧ watched.watching = true ∧ watched.live = true ∧
    onCell.switchFitted 1 = true ∧ (onCell.putNum (okey 0x6000 0x0A) 0).switchFitted 1 = false ∧
    (fitted.onVigil (fun v => { v with supply := .vaux })).meshFitted 0 = true ∧
    vigilSource 0x2A = true ∧ vigilSource 0x2B = false ∧ vigilSource 0x10 = true ∧ vigilSource 0x19 = false ∧
    (onCell.setFlag flagCellAbsent true).flag flagCellAbsent = true ∧ onCell.flag flagCellAbsent = false ∧
    onCell.vigil.windowSince = none := by decide +kernel

/-- A flush that is due with the event-log key at hand; the oldest record arose at time 0. -/
def flushing (now : Nat) : State := (((liveIn .serve).onTamper (fun t => { t with flushDue := true, oldest := some 0 })).onKeys (fun u =>
  { u with eventKey := some 3 })).onVigil (fun v => { v with time := now })

theorem test_meets_VigilDomainWatchesAndFlushes_flush :
    (flushing 0).live = true ∧ (flushing 0).tamper.flushDue = true ∧ (flushing 0).keys.eventKey = some 3 ∧
    (flushing 0).tamper.buffer = [] ∧ (liveIn .serve).tamper.flushDue = false ∧ (flushing 0).tamper.oldest = some 0 ∧
    0 + second ≤ (flushing second).now ∧ (flushing (second - 1)).now < 0 + second := by decide +kernel

theorem test_meets_VigilTimeAndClocks :
    watched.watching = true ∧ watched.live = true ∧ onCell.watching = true ∧ onCell.live = false ∧ watched.vigil.withhold = false ∧
    0 < (trimStep watched.vigil.phase watched.vigil.trim).2 ∧
    (watched.onVigil (fun v => { v with withhold := true })).vigil.withhold = true ∧
    1 < (watched.onVigil (fun v => { v with slew := 2 })).vigil.slew ∧
    (watched.onVigil (fun v => { v with slew := -2 })).vigil.slew < -1 ∧
    (watched.onVigil (fun v => { v with slew := 1 })).vigil.slew = 1 ∧
    (onCell.onVigil (fun v => { v with temperatureCode := some 3 })).currentBand = some 0 ∧
    (watched.onVigil (fun v => { v with crystalStopped := true })).vigil.crystalStopped = true ∧
    (watched.onPower (fun p => { p with windowSpoiled := true })).power.windowSpoiled = true ∧
    watched.power.windowSpoiled = false ∧ (watched.source 0x1F).raised = false ∧ (watched.source 0x21).raised = false ∧
    watched.power.ref25 = true ∧ watched.power.pll = 0 ∧ watched.power.pll ≠ 2 ∧
    (watched.onPower (fun p => { p with ref25 := false, pll := 1 })).power.ref25 = false ∧
    (watched.onPower (fun p => { p with ref25 := false, pll := 1 })).power.pll = 1 ∧
    (watched.onPower (fun p => { p with pll := 2 })).power.pll = 2 ∧
    (watched.onVigil (fun v => { v with copy := 5 })).vigil.copy ≠ (watched.onVigil (fun v => { v with copy := 5 })).vigil.time ∧
    watched.vigil.copy = watched.vigil.time := by decide +kernel

/-! ## Hypotheses met: the Onotte pairs -/

/-- An outcome that is not a trap. -/
def isOk {ε α : Type} : Except ε α → Bool
  | .ok _ => true
  | .error _ => false

/-- How an access ended. -/
def accessOk : Access → Bool
  | .ok _ _ => true
  | _ => false
def accessTraps : Access → Bool
  | .trap _ _ => true
  | _ => false
def accessStalls : Access → Bool
  | .stall => true
  | _ => false

/-- Pair 0 in Serve, at a level, changed. -/
def pairWith (l : Level) (f : Pair → Pair) : State := (pairIn l .serve).onPair 0 f

theorem test_meets_Issues (n : Nat) (hn : n = 1 ∨ n = 2) (k : OpKind) : (pairIn .monitor .serve).Issues 0 n k := by
  rcases hn with rfl | rfl <;> cases k <;> refine ⟨?_, ?_, ?_⟩ <;> decide +kernel

/-- R422, R434: a sum that carries, a difference that borrows, a comparison of signed words: what stays in flight. -/
theorem test_add_carries : (pairWith .monitor (fun q => { q with g := (q.g.set 1 0xFFFFFFFFFFFF).set 2 2 })).Issues 0 1 .plain ∧
    (addCarry 0xFFFFFFFFFFFF 2 false).1 = 1 ∧ (addCarry 0xFFFFFFFFFFFF 2 false).2 = true ∧
    (subBorrow 1 2 false).1 = 0xFFFFFFFFFFFF ∧ (subBorrow 1 2 false).2 = true := by
  refine ⟨⟨?_, ?_, ?_⟩, ?_, ?_, ?_, ?_⟩ <;> decide +kernel
theorem test_products : (multiplyAdd 0xFFFFFFFFFFFF 0xFFFFFFFFFFFF 0xFFFFFFFFFFFF 0xFFFFFFFFFFFF).2 = 0xFFFFFFFFFFFF ∧
    mulHighS 0xFFFFFFFFFFFF 1 = 0xFFFFFFFFFFFF ∧ mulHighU 0x800000000000 2 = 1 := by decide +kernel

/-- R425: octet 5 of word 3 and one octet on is octet 0 of word 4; index 6 is misaligned. -/
theorem test_meets_CheckedRegisterInstructions :
    optrAdd 29 1 = some 32 ∧ optrAdd 6 1 = none ∧ optrAdd 0x80 (Imm.short 3).word.toInt = some 0x83 ∧
    ((pairIn .user .serve).pairs[(0 : Fin 4)].special 0 0x02).isSome = true ∧ (pairIn .user .serve).pairs[(0 : Fin 4)].level ≠ .monitor ∧
    ((pairIn .user .serve).pairs[(0 : Fin 4)].special 0 0x10).isSome = true ∧
    ((pairIn .user .serve).pairs[(0 : Fin 4)].special 0 0x07).isNone = true ∧
    isOk ((pairIn .user .serve).pairs[(0 : Fin 4)].setSpecial 0x04 5) = true ∧
    isOk ((pairIn .user .serve).pairs[(0 : Fin 4)].setSpecial 0x10 5) = false ∧
    mayMask .supervisor 6 = true := by decide +kernel

/-- A rule of gate 0 by which user code may be fetched. -/
def userFetch (s : State) : State := s.onGaunt (fun g => { g with rules := kset (kset g.rules 0 (BitVec.ofNat 48 (0x7FF * 2 ^ 10 + 1))) 1 0xF001 })

theorem test_meets_user_issues : (userFetch (pairIn .user .serve)).Issues 0 1 .plain := by
  refine ⟨?_, ?_, ?_⟩ <;> decide +kernel

/-- R426: from octet 1 of word 2 to octet 0 of word 3 there are five octets. -/
theorem test_meets_OctetDistance : octetDistance 24 17 = some 5 ∧ octetDistance 17 24 = some (-5) ∧ octetDistance 6 0 = none := by
  decide +kernel

theorem test_meets_RegisterInstructionsKeepTheRest :
    (pairIn .monitor .serve).pairs[(0 : Fin 4)].branch.isNone = true ∧ (pairIn .monitor .serve).pairs[(0 : Fin 4)].atLoopEnd 0 = false ∧
    (pairIn .monitor .serve).pairs[(0 : Fin 4)].atLoopEnd 1 = false ∧ (pairIn .monitor .serve).pairs[(0 : Fin 4)].inFlight = [] := by
  decide +kernel

/-- A full return stack without room below it; a call entry on it; an exception entry on it. -/
def fullStack : State := pairWith .monitor (fun q => { q with stack := q.stack.set 2 (List.replicate 16 0) })
def oneEntry (w : Word) : State := pairWith .monitor (fun q => { q with stack := q.stack.set 2 [w], g15 := q.g15.set 2 0x100000 })

theorem test_meets_ControlInstructionsBranch :
    isOk ((pairIn .monitor .serve).pairs[(0 : Fin 4)].pushEntry .monitor 0) = true ∧
    isOk (fullStack.pairs[(0 : Fin 4)].pushEntry .monitor 0) = false ∧
    (((oneEntry (callEntry 7 .monitor)).pairs[(0 : Fin 4)].popEntry .monitor).toOption.map (fun x => entryKind x.1)) = some 0 ∧
    (((oneEntry (exceptionEntry 7 .monitor)).pairs[(0 : Fin 4)].popEntry .monitor).toOption.map (fun x => entryKind x.1)) = some 1 ∧
    ((2 : BitVec 12).toNat < 1 + 2) ∧ (1 + 2 ≤ (3 : BitVec 12).toNat) ∧ ((3 : BitVec 24).toNat < 2 + 2) ∧
    (2 + 2 ≤ (4 : BitVec 24).toNat) := by decide +kernel

theorem test_meets_ControlInstructionsBranch_issue :
    fullStack.Issues 0 1 .control ∧ (oneEntry (callEntry 7 .monitor)).Issues 0 1 .control ∧
    (oneEntry (exceptionEntry 7 .monitor)).Issues 0 1 .control := by
  refine ⟨⟨?_, ?_, ?_⟩, ⟨?_, ?_, ?_⟩, ⟨?_, ?_, ?_⟩⟩ <;> decide +kernel

/-- Data in pair memory from octet pointer 0x100000; g1 and the data stack point there. -/
def pointing : State := pairWith .monitor (fun q => { q with
  g := (((q.g.set 1 0x100000).set 12 0x100000).set 13 0x100100).set 14 6, g15 := q.g15.set 2 0x100008 })

theorem test_meets_MemoryInstructionsAccess :
    effective 0x100000 (.short 0) .word = some 0x100000 ∧ effective 6 (.short 0) .octet = none ∧
    (pairIn .monitor .serve).pairs[(0 : Fin 4)].entropyWait = false ∧
    accessOk (pointing.load 0 .monitor .word 0x100000 .ok) = true ∧ accessTraps (pointing.load 0 .monitor .word 0x100001 .ok) = true ∧
    accessStalls (pointing.load 0 .monitor .word (pointing.entTakePointer 0) .ok) = true ∧
    accessOk (pointing.storeAt 0 .monitor .word 0x100000 5 .ok) = true ∧
    accessTraps (pointing.storeAt 0 .monitor .half 0x100001 5 .ok) = true ∧
    optrAdd (pointing.pairs[(0 : Fin 4)].reg 15) (-6) = some 0x100000 ∧
    accessOk (pointing.load 0 .monitor .word (pointing.pairs[(0 : Fin 4)].reg 15) .ok) = true ∧
    optrAdd (pointing.pairs[(0 : Fin 4)].reg 15) 6 = some 0x100010 ∧
    pointing.pairs[(0 : Fin 4)].dsl[2].toNat ≤ (0x100000 : Word).toNat ∧
    (0x100000 : Word).toNat < (pointing.onPair 0 (fun q => { q with dsl := q.dsl.set 2 0x100001 })).pairs[(0 : Fin 4)].dsl[2].toNat ∧
    (pairIn .monitor .serve).pairs[(0 : Fin 4)].reg 14 = 0 ∧ pointing.pairs[(0 : Fin 4)].reg 14 ≠ 0 ∧
    StringOp.startOk { size := .word, fill := none, step := 6 } pointing.pairs[(0 : Fin 4)] = true ∧
    StringOp.startOk { size := .word, fill := none, step := 6 }
      (pointing.onPair 0 (fun q => { q with g := q.g.set 13 3 })).pairs[(0 : Fin 4)] = false ∧
    (pointing.elements 0 { size := .octet, fill := none, step := 1 } 2).2.isNone = true ∧
    ((pointing.onPair 0 (fun q => { q with g := q.g.set 13 6 })).elements 0 { size := .octet, fill := none, step := 1 } 2).2.isSome = true := by
  decide +kernel

theorem test_meets_StoresChangeTheirWord :
    (0x100000 : Word).toNat / 8 < 0x1000000 ∧ (0x100000 : Word).toNat / 8 < 0x40000 ∧
    accessOk (pointing.storeAt 0 .monitor .octet 0x100005 0xAB .ok) = true ∧
    accessOk (pointing.storeAt 0 .monitor .word (BitVec.ofNat 48 (0x100000 * 8)) 5 .ok) = true := by decide +kernel

/-- Gate table entry 0 at word 16 of the pair's instruction memory, for a target level. -/
def gated (target : Nat) : State := pairWith .user (fun q => { q with
  gtbase := 16, gtcount := 1, mem := memStore q.mem (16 * 8) (wordOctets (BitVec.ofNat 48 (target * 2 ^ 46))) })

theorem test_meets_SystemInstructionsAndEntries_sys :
    (∀ k : Fin 3, k = 1 ∨ k = 2 →
      bitsOf ((gated k.val).pairs[(0 : Fin 4)].gateEntry 0) 47 46 = k.val ∧ (gated k.val).pairs[(0 : Fin 4)].level.num ≤ k.val ∧
      bitsOf ((gated k.val).pairs[(0 : Fin 4)].gateEntry 0) 45 44 ≤ (gated k.val).pairs[(0 : Fin 4)].level.num ∧
      (gated k.val).badArgument 0 ((gated k.val).pairs[(0 : Fin 4)].gateEntry 0) = none ∧
      0 < (gated k.val).pairs[(0 : Fin 4)].gtcount.toNat ∧ (gated k.val).pairs[(0 : Fin 4)].gtcount.toNat ≤ 1) := by decide +kernel

theorem test_meets_SystemInstructionsAndEntries_issue : (userFetch (gated 1)).Issues 0 1 .control ∧ (userFetch (gated 2)).Issues 0 1 .control := by
  refine ⟨⟨?_, ?_, ?_⟩, ⟨?_, ?_, ?_⟩⟩ <;> decide +kernel

/-- Whether a frame can be read and lets its level be restored. -/
def frameReads (w : Word) : Except (State × Trap) (State × List Word) → Bool
  | .ok (_, f) => decide (bitsOf (f.getD 0 0) 31 30 ≤ bitsOf w 45 44) && frameAdmitted .monitor (f.getD 0 0)
  | .error _ => false

theorem test_meets_SystemInstructionsAndEntries_eret :
    (∀ x, x = (oneEntry (exceptionEntry 7 .monitor)).onPair 0 Pair.flush →
      x.pairs[(0 : Fin 4)].doubleFault = false ∧
      (match x.pairs[(0 : Fin 4)].popEntry .monitor with
       | .ok (w, r) => entryKind w == 1 && frameReads w ((x.onPair 0 (fun _ => r)).readFrame 0 .monitor 10 (x.pairs[(0 : Fin 4)].g15[2]))
       | .error _ => false) = true ∧
      (optrAdd x.pairs[(0 : Fin 4)].g15[2] 60).isSome = true) := by
  rintro x rfl
  decide +kernel

theorem test_meets_SystemInstructionsAndEntries_rest :
    (pairIn .monitor .serve).pairs[(0 : Fin 4)].level = .monitor ∧ Level.ofNum ((6 : BitVec 8).toNat % 4) = some .monitor ∧
    (pairIn .monitor .serve).pairs[(0 : Fin 4)].stack[2] = [] ∧
    ((oneEntry 0).onPair 0 (fun q => { q with rsp := q.rsp.set 2 0x100100, rsl := q.rsl.set 2 0x100000 })).pairs[(0 : Fin 4)].stack[2] ≠ [] ∧
    isOk (((oneEntry 0).onPair 0 (fun q => { q with rsp := q.rsp.set 2 0x100100, rsl := q.rsl.set 2 0x100000 })).pairs[(0 : Fin 4)].spillTo
      .monitor 1) = true ∧
    illegalParcels 0x7F0000 0 = true ∧ illegalParcels 0 0 = false ∧ illegalParcels 0xFFFFFF 0 = true ∧
    (pairIn .monitor .serve).pairs[(0 : Fin 4)].interruptDue.isNone = true ∧
    (pairWith .user (fun q => { q with ipend := 0x10, ienable := 0x10, ml := 0 })).pairs[(0 : Fin 4)].interruptDue = some 4 ∧
    (pairWith .user (fun q => { q with ipend := 0x10, ienable := 0x10, ml := 0 })).runs 0 = true ∧
    powerFailing.runs 1 = false := by decide +kernel

theorem test_meets_PairRegistersTimersAndLockstep :
    (pairIn .monitor .serve).live = true ∧ (pairIn .monitor .serve).pairAt 0 .monitor = true ∧ (pairIn .monitor .serve).pairAt 0 .user = false ∧
    ((pairIn .monitor .serve).accessTrap 0 .monitor (0x1000000 + 0x3007) .write (BitVec.ofNat 48 ((0x1000000 + 0x3007) * 8))).isNone = true ∧
    ((pairIn .user .serve).accessTrap 0 .user (0x1000000 + 0x3007) .write (BitVec.ofNat 48 ((0x1000000 + 0x3007) * 8))).isSome = true ∧
    ((pairIn .monitor .serve).regWrite 0 .monitor 0x3007 1).isSome = true ∧
    (pairWith .monitor (fun q => { q with timers := q.timers.set 1 5 })).pairs[(0 : Fin 4)].timers[(1 : Fin 2)] ≠ 0 ∧
    (pairIn .monitor .serve).pairs[(0 : Fin 4)].timers[(1 : Fin 2)] = 0 ∧ (pairIn .monitor .serve).pairs[(0 : Fin 4)].inService = true ∧
    (liveIn .serve).pairs[(0 : Fin 4)].inService = false ∧ (liveIn .serve).dict.restarting = false ∧
    (liveIn .serve).modes.starting = false := by decide +kernel

/-! ## Hypotheses met: the flash -/

/-- The controller changed, with pair 0 at Monitor. -/
def flashWith (f : FlashCtl → FlashCtl) : State := (pairIn .monitor .serve).onFlash f

/-- Code c of a command in the ring's first descriptor, class 2, one row. -/
def queuedCmd (c : Nat) : State := (flashWith (fun x => { x with
  fqCtrl := 1, fqBase := 0x800000, fqSize := 8, fqOpen := [0] })).onCommons (fun m =>
    memStore m 0x800000 (wordOctets (BitVec.ofNat 48 (c * 2 ^ 40 + 2 * 2 ^ 29)) ++ wordOctets 0 ++ wordOctets (BitVec.ofNat 48 (2 ^ 40))))

def flashOpOf (cmd : FlashCmd) : FlashOp :=
  { cmd, bank := 1, addr := 0, words := [0], data := 0, cls := 2, requester := .internal, progress := 0, order := 0 }
def runningFlash (cmd : FlashCmd) : State := (pairIn .monitor .serve).onBank 1 (fun b => { b with running := some (flashOpOf cmd) })

theorem test_meets_FlashCommandsRun :
    (flashWith id).live = true ∧ (flashWith id).atMonitor 0 = true ∧ (flashWith id).flash.locked = false ∧
    (flashWith (fun c => { c with locked := true })).flash.locked = true ∧ (flashWith id).flash.keyStage ≠ 2 ∧
    (flashWith (fun c => { c with keyStage := 2 })).flash.keyStage = 2 ∧ (flashWith id).flash.fcState ≠ flashBusy ∧
    (flashWith (fun c => { c with fcState := flashBusy })).flash.fcState = flashBusy ∧
    (flashWith (fun c => { c with fqOpen := [0] })).flash.fqOpen.find? (fun i =>
      bitsOf ((flashWith (fun c => { c with fqOpen := [0] })).descWord i 3) 23 0 == bitsOf 0 23 0) = some 0 ∧
    (flashWith (fun c => { c with fqOpen := [0] })).takeable.contains 0 = true ∧ ((flashWith id).bank 1).running = none ∧
    (flashWith id).flash.powerFail = false := by decide +kernel

theorem test_meets_FlashCommandsRun_queue : ∀ c : Fin 12, c ≠ 0 →
    (queuedCmd c.val).flash.fqCtrl.getLsbD 0 = true ∧ (queuedCmd c.val).takeable = [0] ∧
    ((queuedCmd c.val).descOp 0).map (fun o => o.cmd) = FlashCmd.ofCode c.val ∧ (FlashCmd.ofCode c.val).isSome = true := by decide +kernel

theorem test_meets_FlashCommandsRun_end :
    ((runningFlash .wordProgram).bank 1).running = some (flashOpOf .wordProgram) ∧
    ((runningFlash .counterIncrement).bank 1).running = some (flashOpOf .counterIncrement) ∧
    ((runningFlash .sectorErase).bank 1).running = some (flashOpOf .sectorErase) ∧ (flashOpOf .sectorErase).isErase = true := by
  decide +kernel

/-! ## Hypotheses met: the tag, the reader and the cards -/

/-- The tag ON in a field, in a state. -/
def tagged (x : TagState) : State := (liveIn .serve).onTag (fun t => { t with field := true, st := x, fn := { st := .on, queued := false } })

theorem test_meets_TagAnswersItsReader (x : TagState) :
    (tagged x).tag.field = true ∧ (tagged x).tag.st = x ∧ TagState.isActive .active = true := ⟨rfl, rfl, rfl⟩

theorem test_meets_TagAnswersItsReader_may :
    (tagged .idle).tagMay = true ∧ (tagged .halt).tagMay = true ∧ (tagged .ready1).tagMay = true ∧ (tagged .ready2).tagMay = true ∧
    (tagged .active).tagMay = true ∧ (tagged .protocol).tagMay = true ∧ (tagged .protocol).settleWrites.tag.selected = false ∧
    ([] : List Byte) ≠ tagAid := by decide +kernel

/-- The application selected, with record 5 written and its attributes. -/
def selectedTag (attr : Byte) : State := (((tagged .protocol).onTag (fun t => { t with selected := true })).writeTag 5 [1, 2]).putOctetsAt
  (okey 0x8100 1) 5 [attr]

theorem test_meets_TagRecordsAreReadAndWritten :
    (selectedTag 3).tag.field = true ∧ (selectedTag 3).tagMay = true ∧ (selectedTag 3).tag.st = .protocol ∧
    (selectedTag 3).settleWrites.tag.selected = true ∧ ((selectedTag 3).settleWrites.tagAttr 5).testBit 0 = true ∧
    ((selectedTag 3).settleWrites.tagAttr 5).testBit 1 = true ∧ (selectedTag 3).settleWrites.recordData 5 = some [1, 2] ∧
    ((selectedTag 0).settleWrites.tagAttr 5).testBit 0 = false ∧
    ((selectedTag 3).settleWrites.tag.chained ++ [1, 2, 3]).length ≤ 1008 ∧ (selectedTag 3).settleWrites.modes.mainPower = true ∧
    currentCopy (tagged .protocol).tag.records[(5 : Fin 32)] = none ∧ (tagged .idle).tagSupplied = true ∧ (tagged .idle).vigil.doff = none ∧
    ((tagged .idle).onVigil (fun v => { v with doff := some 3 })).vigil.doff = some 3 ∧ (tagged .idle).tag.st ≠ .protocol ∧
    (tagged .idle).now < 3 := by decide +kernel

/-- Without main power, on VAUX, the tag that was ON at the fall may answer where 0x8000:06 says so. -/
def auxTag : State := (((selectedTag 3).onModes (fun m => { m with mainPower := false })).onVigil (fun v => { v with vaux := true })).putNum
  (okey 0x8000 6) 1

theorem test_meets_TagRecordsAreReadAndWritten_aux : auxTag.tagMay = true ∧ auxTag.settleWrites.modes.mainPower = false := by
  decide +kernel

/-- An ENVELOPE's frame, of an object of the factory's identity. -/
def tagFrame (kind : BitVec 4) : Frame := { plainFrame kind 0x100001 0 [] with transport := .tag }

/-- How a request was taken. -/
def isRequest : Receipt → Bool
  | .request _ _ => true
  | _ => false

theorem test_meets_TagRecordsAreReadAndWritten_envelope :
    (∀ k ∈ [kindRead, kindWrite, kindSetup], isRequest (((selectedTag 3).settleWrites.countFreezeWrite
      { tagFrame k with check := (tagFrame k).crc }).receive { tagFrame k with check := (tagFrame k).crc }).2 = true) ∧
    kindSetup ≠ kindRead ∧ kindSetup ≠ kindWrite := by
  decide +kernel

/-- An open presentation to which the last poll resolved token [1, 2, 3, 4]. -/
def presented (purpose : Nat) : State := (liveIn .serve).onTag (fun t => { t with
  presentation := some { cmd := 0x110020, session := none, since := 0, accepted := [], tokens := [], argument := [] },
  purpose, selectedTokens := [[1, 2, 3, 4]] })

theorem test_meets_ReaderAndCardsFollowTheirSteps_reader :
    (presented purposeElevation).live = true ∧ (presented purposeElevation).presenting = true ∧
    (presented purposeElevation).tag.presentation.isSome = true ∧
    (presented purposeElevation).tag.selectedTokens.contains (tokenOf [] none).uid = true ∧ (tokenOf [] none).left = false ∧
    { tokenOf [] none with left := true }.left = true ∧ (tokenOf [] (some 3)).failedStep = some 3 ∧ (tokenOf [] none).failedStep = none ∧
    (presented purposeElevation).tag.purpose ≠ purposeEnrolment ∧ (presented purposeElevation).tag.purpose ≠ purposeUnlock ∧
    (presented purposeUnlock).tag.purpose = purposeUnlock := by decide +kernel

/-- The card bus ON, with a seated archive card whose operation stands at a step. -/
def aLabel : Label := { role := 1, generation := 4, serial := List.replicate 12 7, lastSequence := 0, nextBlock := 2, split := 100, images := [] }
def aCard : Card := { cid := List.replicate 12 9, capacity := 1000, mode := 1, labels := #v[none, none] }
def aContent (b : List Byte) : List Byte := List.replicate 512 0 ++ b
def anEntry (digest : List Byte) : JournalEntry :=
  { op := .archive, cid := List.replicate 12 9, first := 2, blocks := 1, records := 1, labelBlock := 0, generation := 5, item := 0,
    digest, at_ := 0, inDoubt := true }
def cardOp (step : Nat) (busy : Bool) : CardOp :=
  { entry := anEntry [], index := 0, step, busy, missed := 0, label := aLabel, more := 0, cmd := none }
def cardsWith (f : Cards → Cards) : State := (liveIn .serve).onCards (fun c => f { c with fn := { st := .on, queued := false } })

theorem test_meets_ReaderAndCardsFollowTheirSteps_cards :
    (cardsWith id).live = true ∧ (cardsWith id).cardsOn = true ∧ (cardsWith id).cards.detect[(0 : Fin 4)] = false ∧
    (cardOf [] []).ready = true ∧ cardIndexes.find? (fun i => ((cardsWith id).card i).isNone) = some 0 ∧
    (cardsWith (fun c => { c with detect := c.detect.set 0 true })).cards.detect[(0 : Fin 4)] = true ∧
    ((cardsWith id).putNum (okey 0x3100 0x22) 0).objNum (okey 0x3100 0x22) = 0 ∧
    ((cardsWith id).putNum (okey 0x3100 0x22) 5).objNum (okey 0x3100 0x22) ≠ 0 ∧ (cardsWith id).cardBusFree = true ∧
    (cardsWith id).archiveCard = none ∧
    (cardsWith (fun c => { c with op := some (cardOp 3 true) })).cards.op = some (cardOp 3 true) ∧ (cardOp 3 true).busy = true ∧
    (cardOp 3 false).busy = false ∧ cardErrors 0x80000 = true ∧ cardErrors 0x800 = false ∧ (0x800 : BitVec 32).toNat / 2 ^ 9 % 16 = 4 ∧
    (cardOp 3 false).step = 3 ∧ (cardOp 5 false).step ≠ 3 := by decide +kernel

/-- A valid label block. -/
def labelBody : List Byte := [0x4B, 0x50, 0x52, 0x31, 1] ++ List.replicate 503 0
def labelBlock : List Byte := labelBody ++ beOctets 4 (crc32 labelBody).toNat
def doubtful : State := cardsWith (fun c => { c with
  table := c.table.set 0 (some aCard), unresolved := [anEntry (sha384 (aContent labelBlock))] })

theorem test_meets_ReaderAndCardsFollowTheirSteps_doubt :
    doubtful.doubtOf 0 = some (anEntry (sha384 (aContent labelBlock))) ∧
    sha384 (aContent labelBlock) = (anEntry (sha384 (aContent labelBlock))).digest := ⟨rfl, rfl⟩

theorem test_meets_ReaderAndCardsFollowTheirSteps_bus :
    doubtful.cardsOn = true ∧ doubtful.modes.mode.usesCards = true ∧ doubtful.cards.op = none ∧ doubtful.cardRecovery = false :=
  ⟨rfl, rfl, rfl, by decide +kernel⟩

theorem labelBody_length : labelBody.length = 508 := by
  unfold labelBody; rw [List.length_append, List.length_replicate]; rfl
theorem octets_length (n : Nat) : (beOctets 4 n).length = 4 := rfl
theorem labelBlock_length : labelBlock.length = 512 := by
  unfold labelBlock; rw [List.length_append, labelBody_length, octets_length]

theorem test_meets_ReaderAndCardsFollowTheirSteps_label : (aContent labelBlock).length = 512 * (1 + 1) ∧
    (Label.ofOctets ((aContent labelBlock).drop (512 * 1))).isSome = true := by
  have hc : (aContent labelBlock).drop (512 * 1) = labelBlock := by
    unfold aContent; exact List.drop_left' List.length_replicate
  have hb : labelBlock.take 508 = labelBody := List.take_left' labelBody_length
  have hd : labelBlock.drop 508 = beOctets 4 (crc32 labelBody).toNat := List.drop_left' labelBody_length
  refine ⟨by unfold aContent; rw [List.length_append, List.length_replicate, labelBlock_length], ?_⟩
  rw [hc]
  unfold Label.ofOctets
  rw [if_pos ⟨labelBlock_length, rfl, by rw [hb, hd]⟩]
  rfl

/-! ## Hypotheses met: islands, the link and the freeze -/

def frozenIn : State := (liveIn .forensic).onPower (fun p => { p with frozen := some (.pin, 0) })

theorem test_meets_IslandsSnapshotsAndFreeze_islands :
    (liveIn .serve).live = true ∧ (liveIn .serve).modes.mode ≠ .forensic ∧ (liveIn .serve).modes.pfail = false ∧
    ((liveIn .serve).island 0).changing = none ∧ ((liveIn .serve).island 0).level < (liveIn .serve).levelFor 0 ∧
    ((liveIn .serve).island 0).level = 0 := by decide +kernel

theorem test_meets_IslandsSnapshotsAndFreeze_wake (q : State) (l : Option Nat)
    (h : q = (liveIn .serve).onIsland 0 (fun _ => { level := 1, changing := l })) :
    q.live = true ∧ (q.island 0).level = 1 ∧ (q.island 0).changing = l := by
  subst h; exact ⟨rfl, rfl, rfl⟩

theorem test_meets_IslandsSnapshotsAndFreeze_link :
    ((liveIn .serve).onPower (fun p => { p with vpea := true, link := true })).power.link = true ∧ (liveIn .serve).power.link = false ∧
    ((liveIn .serve).putNum (okey 0x7100 2) 3).objNum (okey 0x7100 2) ≠ 0 ∧
    ((liveIn .serve).putNum (okey 0x7100 2) 0).objNum (okey 0x7100 2) = 0 := by decide +kernel

theorem test_meets_IslandsSnapshotsAndFreeze_freeze :
    (liveIn .forensic).live = true ∧
    ((liveIn .forensic).onPower (fun p => { p with freezeScheduled := true })).power.freezeScheduled = true ∧
    (liveIn .forensic).power.frozen = none ∧ (liveIn .forensic).modes.mainPower = true ∧
    (liveIn .blank).modes.mode = .blank ∧ (liveIn .blank).live = true := by decide +kernel

theorem sum_grows (l : List Nat) : ∀ n, n ≤ l.foldl (· + ·) n := by
  induction l with
  | nil => exact fun n => Nat.le_refl n
  | cons a l ih => exact fun n => Nat.le_trans (Nat.le_add_right n a) (ih (n + a))
theorem sum_holds (l : List Nat) (x : Nat) (h : x ∈ l) : ∀ n, x ≤ l.foldl (· + ·) n := by
  induction l with
  | nil => cases h
  | cons a l ih =>
    intro n
    rcases List.mem_cons.mp h with rfl | h'
    · exact Nat.le_trans (Nat.le_add_left x n) (sum_grows l (n + x))
    · exact ih h' (n + a)

theorem test_meets_IslandsSnapshotsAndFreeze_readout : 0 + 1 ≤ freezeSize :=
  Nat.le_trans (by decide : 0 + 1 ≤ 64) (sum_holds _ 64 (List.mem_map.mpr ⟨(0x01, 2, false), by decide, rfl⟩) 0)

/-! ## Worked examples of the spec -/

/-- spec/00: packing and exporting six octets. -/
theorem test_packing : octetsWord [0xA1, 0xB2, 0xC3, 0xD4, 0xE5, 0xF6] = 0xF6E5D4C3B2A1 := by decide

/-- spec/00: one octet beyond 0x002005; R10: 2.5 and 3.5 rounded. -/
theorem test_pointer_and_rounding : octMove 0x2005 1 = 0x2008 ∧ roundHalfEven 5 2 = 2 ∧ roundHalfEven 7 2 = 4 ∧ signed 24 0xFF8000 = -32768 := by
  decide

/-- spec/02: the header of the READ of 0x1000:03 and, of R58, its check value over the nine digits. -/
theorem test_read_revision_header :
    { readOf 0x100003 1 with transport := .pcie, tag := 7 }.header =
      [0x11, 0x00, 0x07, 0x10, 0x00, 0x03, 0x00, 0x00, 0x00, 0x00, 0x00, 0x00, 0x00, 0x01, 0x00, 0x00] ∧
    crc32 [0x31, 0x32, 0x33, 0x34, 0x35, 0x36, 0x37, 0x38, 0x39] = 0xCBF43926 := by decide +kernel

/-- spec/04: dummy cycles for channel 3. -/
theorem test_dummy_cycles :
    (∀ d : ChanDesc, d = { w0 := BitVec.ofNat 48 (200 * 2 ^ 23 + 20 * 2 ^ 18 + 10 * 2 ^ 12 + 5 * 2 ^ 9 + 4 + 1), w1 := 0 } →
      d.pathTime / 9 = 149722 ∧ d.dOct = 30 ∧ d.dQuad = 20 ∧ d.f111 = 53432) := by
  rintro d rfl
  decide +kernel

/-- spec/05: the arithmetic by hand, with the key x. -/
theorem test_fingerprint_by_hand : gfMul 2 0xC00000180000 = 1 ∧ foldH 0xC00000180000 [0x55, 0xAA] = 0xC00000180080 ∧
    gfMul (gfMul (tHi 2 0) (tLo 2 1)) 0xC00000180080 = 0x202 ∧ fingerprint 2 [0x55, 0xAA] = 0x202 := by decide +kernel

/-- spec/12: die temperature, before and after the offset moved. -/
theorem test_die_temperature :
    ((liveIn .serve).put (okey 0x6000 3) (.words [BitVec.ofNat 48 (0x1F4000 * 2 ^ 24 + 0x051EB8)])).calibrated 0 14025 = 0x7880 ∧
    ((liveIn .serve).put (okey 0x6000 3) (.words [BitVec.ofNat 48 (0x1F4080 * 2 ^ 24 + 0x051EB8)])).calibrated 0 14025 = 0x787D ∧
    ((liveIn .serve).put (okey 0x6000 3) (.words [BitVec.ofNat 48 (0x1F4080 * 2 ^ 24 + 0x051EB8)])).calibrated 0 13751 = 0x7303 := by
  decide +kernel

/-- spec/13: stepping across the skipped indexes. -/
theorem test_octet_steps : optrAdd 0x2005 7 = some 0x2010 ∧ optrAdd 0x2010 (-7) = some 0x2005 ∧ octetDistance 0x2010 0x2005 = some 7 := by
  decide

/-- spec/13: the load-use distance: without interruption g5 = 11, g7 = 10 and g8 = 99. -/
theorem test_load_use_distance :
    (∀ q, q = (pairWith .monitor (fun q => { q with
        g := ((q.g.set 3 10).set 4 0x102000).set 6 1, mem := memStore q.mem 0x102010 (wordOctets 99) })) →
      ((match step { q with pending := [.opLdw 0 3 4 (.short 2) .ok, .opAdd 0 5 3 6, .opAdd 0 7 3 0, .opAdd 0 8 3 0] } with
        | .next a => (match step a with
          | .next b => (match step b with
            | .next c => (match step c with
              | .next d => [d.pairs[(0 : Fin 4)].reg 5, d.pairs[(0 : Fin 4)].reg 7, d.pairs[(0 : Fin 4)].reg 8]
              | _ => [])
            | _ => [])
          | _ => [])
        | _ => []) == [11, 10, 99]) = true) := by
  rintro q rfl
  decide +kernel

/-- spec/13: the first limb of the two-limb product, and the second with MH = 1. -/
theorem test_two_limbs : multiplyAdd 0xFFFFFFFFFFFF 2 0 0 = (0xFFFFFFFFFFFE, 1) ∧ multiplyAdd 1 2 0 1 = (3, 0) := by decide +kernel

/-- spec/14: a User fault in a delay slot: the return-stack entry, the frame's first three words and the handler's pointer. -/
def slotFault : State := userFetch (pairWith .user (fun q => { q with
  ml := 0, cy := true, vbase1 := 0x1000, g15 := q.g15.set 1 0x180000, g := q.g.set 5 0x91A000, ip := 0xA10 }))
theorem test_delay_slot_fault :
    ((match step { slotFault with pending := [.opBne 0 1 2 (.short 0x20), .opLdw 0 3 5 (.short 0) .ok] } with
      | .next a => (match step a with
        | .next b => (b.pairs[(0 : Fin 4)].stack[1], b.pairs[(0 : Fin 4)].g15[1], b.pairs[(0 : Fin 4)].ip,
            [0, 8, 16].map (fun k => octetsWord (memOctets b.pairs[(0 : Fin 4)].mem (0x17FFB0 + k) 6)))
        | _ => ([], 0, 0, []))
      | _ => ([], 0, 0, [])) == ([0x400000000A10], 0x17FFB0, 0x1028, [0x050806000000, 0xA10, 0x91A000])) = true := by
  decide +kernel

/-- spec/14: the two words of a rule: granules 0x48D0, pair 2 only, User read. -/
theorem test_rule_words :
    (∀ s, s = (liveIn .serve).onGaunt (fun g => { g with rules := kset (kset g.rules (8 * 32 + 6) 0x091A01234001) (8 * 32 + 7) 0x004004 }) →
      s.admits 8 (.pair 2 .user) 0x123400 .read = true ∧ s.admits 8 (.pair 2 .user) 0x123400 .write = false ∧
      s.admits 8 (.pair 1 .user) 0x123400 .read = false ∧ s.admits 8 (.pair 2 .user) 0x123440 .read = false) := by
  rintro s rfl
  decide +kernel

/-- spec/16: the first cascade level of a UID that begins 3c 91 0e ends with the check octet 2b. -/
theorem test_cascade :
    ((liveIn .serve).put (okey 0x8000 1) (.octets [0x3C, 0x91, 0x0E, 0x57, 0xA2, 0x6B, 0x94])).cascade 0 = [0x88, 0x3C, 0x91, 0x0E, 0x2B] ∧
    ((liveIn .serve).put (okey 0x8000 1) (.octets [0x3C, 0x91, 0x0E, 0x57, 0xA2, 0x6B, 0x94])).cascade 1 = [0x57, 0xA2, 0x6B, 0x94, 0x0A] ∧
    ((liveIn .serve).put (okey 0x8000 1) (.octets [0x3C, 0x91, 0x0E, 0x57, 0xA2, 0x6B, 0x14])).cascade 1 = [0x57, 0xA2, 0x6B, 0x14, 0x8A] := by
  decide +kernel

end Sys2Proof.Tests
end

/-! SUPPORT. The two register instructions of chapter 13 that can answer with a fault and whose result is stated by its arithmetic:
SHI (R432) and ODIF (R426). -/

namespace Sys2Proof.Machine

/-! ## A register instruction, by what its operands give -/

/-- An instruction that issues and finds its operands admissible completes with what it leaves of the pair. -/
theorem State.registerOp_of_ok {s : State} {p : Fin 4} {n : Nat} {f : Pair → Except Trap Pair} {q : Pair}
    (h : s.Issues p n .plain) (hf : f s.pairs[p] = .ok q) : s.registerOp p n f = s.afterOp p n q := by
  rw [State.registerOp_of_issues s p n f h, hf]

/-- An instruction that issues and finds a fault in its operands raises it. -/
theorem State.registerOp_of_error {s : State} {p : Fin 4} {n : Nat} {f : Pair → Except Trap Pair} {t : Trap}
    (h : s.Issues p n .plain) (hf : f s.pairs[p] = .error t) : s.registerOp p n f = s.takeFault p t := by
  rw [State.registerOp_of_issues s p n f h, hf]

/-! ## Shifts by 0 to 63 (R432) -/

/-- R432: kinds 4 to 7 (and any number that three bits cannot hold) name no shift. -/
theorem ShiftKind.ofCode_eq_none {c : Nat} (h : 4 ≤ c) : ShiftKind.ofCode c = none := by
  obtain ⟨d, rfl⟩ := Nat.exists_eq_add_of_le' h
  rfl

theorem shiftBy_shl_eq (w : Word) (n : Nat) : shiftBy .shl w n = if 48 ≤ n then 0 else w <<< n := by
  rw [shiftBy]
  split
  case isTrue h => exact BitVec.shiftLeft_eq_zero h
  case isFalse => rfl

theorem shiftBy_shr_eq (w : Word) (n : Nat) : shiftBy .shr w n = if 48 ≤ n then 0 else w >>> n := by
  rw [shiftBy]
  split
  case isTrue h => exact BitVec.ushiftRight_eq_zero h
  case isFalse => rfl

/-- A word shifted right past its width holds its sign bit in every place. -/
theorem sshiftRight_of_width_le (w : Word) (n : Nat) (h : 48 ≤ n) :
    w.sshiftRight n = if w.getLsbD 47 then 0xFFFFFFFFFFFF else 0 := by
  have hsign : w.getLsbD 47 = w.msb := (BitVec.msb_eq_getLsbD_last w).symm
  rw [hsign]
  cases hw : w.msb
  case false => rw [BitVec.sshiftRight_eq_of_msb_false hw, BitVec.ushiftRight_eq_zero h]; rfl
  case true => rw [BitVec.sshiftRight_eq_of_msb_true hw, BitVec.ushiftRight_eq_zero h]; rfl

theorem shiftBy_sar_eq (w : Word) (n : Nat) :
    shiftBy .sar w n = if 48 ≤ n then (if w.getLsbD 47 then 0xFFFFFFFFFFFF else 0) else w.sshiftRight n := by
  rw [shiftBy]
  split
  case isTrue h => exact sshiftRight_of_width_le w n h
  case isFalse => rfl

/-- The amount is taken modulo the width, which from 48 to 63 takes 48 off. -/
theorem shiftBy_rol_eq (w : Word) (n : Nat) (hn : n < 64) :
    shiftBy .rol w n = w.rotateLeft (if 48 ≤ n then n - 48 else n) := by
  have hmod : n % 48 = if 48 ≤ n then n - 48 else n := by split <;> omega
  rw [shiftBy, hmod]

section Shi

variable {s : State} {p : Fin 4} (rd ra : Fin 16) {imm : BitVec 9}

/-- SHI of a legal kind leaves the shifted operand in flight. -/
theorem exec_opShi_of_kind (h : s.Issues p 1 .plain) {k : ShiftKind} (hk : ShiftKind.ofCode (imm.toNat / 64) = some k) :
    exec (.opShi p rd ra imm) s =
      .next (s.afterOp p 1 (s.pairs[p].write rd (shiftBy k (s.pairs[p].reg ra) (imm.toNat % 64)))) :=
  congrArg Host.Outcome.next (State.registerOp_of_ok h (by rw [hk]))

/-- SHI of an illegal kind is an illegal instruction. -/
theorem exec_opShi_of_illegal (h : s.Issues p 1 .plain) (hk : ShiftKind.ofCode (imm.toNat / 64) = none) :
    exec (.opShi p rd ra imm) s = .next (s.takeFault p illegalTrap) :=
  congrArg Host.Outcome.next (State.registerOp_of_error h (by rw [hk]))

end Shi

/-- Settles O48: SHI answers with `shiftBy` of its kind, whose value each kind's equation gives. -/
theorem shiftImmediatesFollowTheirKind : Obligations.ShiftImmediatesFollowTheirKind := by
  intro s p rd ra imm h q a n result
  have hn : n < 64 := Nat.mod_lt _ (by decide)
  have hkind : ∀ k, ShiftKind.ofCode (imm.toNat / 64) = some k → exec (.opShi p rd ra imm) s = result (shiftBy k a n) :=
    fun _ => exec_opShi_of_kind rd ra h
  refine ⟨fun hc => ?shl, fun hc => ?shr, fun hc => ?sar, fun hc => ?rol, fun hc => ?illegal⟩
  case shl => rw [hkind .shl (by rw [hc]; rfl), shiftBy_shl_eq]
  case shr => rw [hkind .shr (by rw [hc]; rfl), shiftBy_shr_eq]
  case sar => rw [hkind .sar (by rw [hc]; rfl), shiftBy_sar_eq]
  case rol => rw [hkind .rol (by rw [hc]; rfl), shiftBy_rol_eq a n hn]
  case illegal => exact exec_opShi_of_illegal rd ra h (ShiftKind.ofCode_eq_none hc)

/-! ## The octet distance (R426) -/

section Odif

variable {s : State} {p : Fin 4} (rd : Fin 16) {ra rb : Fin 16}

/-- ODIF of two pointers with a distance leaves it in flight. -/
theorem exec_opOdif_of_distance (h : s.Issues p 1 .plain) {w : Word}
    (hw : octetDistance (s.pairs[p].reg ra) (s.pairs[p].reg rb) = some w) :
    exec (.opOdif p rd ra rb) s = .next (s.afterOp p 1 (s.pairs[p].write rd w)) :=
  congrArg Host.Outcome.next (State.registerOp_of_ok h (by rw [hw, Pair.writePointer]))

/-- ODIF of pointers without a distance is an alignment fault. -/
theorem exec_opOdif_of_misaligned (h : s.Issues p 1 .plain)
    (hw : octetDistance (s.pairs[p].reg ra) (s.pairs[p].reg rb) = none) :
    exec (.opOdif p rd ra rb) s = .next (s.takeFault p (alignmentTrap 0)) :=
  congrArg Host.Outcome.next (State.registerOp_of_error h (by rw [hw, Pair.writePointer]))

end Odif

/-- Settles O49: the distance exists exactly where both indexes are below 6. -/
theorem octetDistanceOfPointers : Obligations.OctetDistanceOfPointers := by
  intro s p rd ra rb h q a b
  refine ⟨fun ha hb => ?aligned, fun hab => ?misaligned⟩
  case aligned =>
    have hnot : ¬ (a % 8 ≥ 6 ∨ b % 8 ≥ 6) := by omega
    exact exec_opOdif_of_distance rd h (if_neg hnot)
  case misaligned => exact exec_opOdif_of_misaligned rd h (if_pos hab)

end Sys2Proof.Machine

/-! SUPPORT. The field of the fingerprints (R171): doubling is linear, so a product is a polynomial in doubling of its left factor;
such polynomials commute, which gives the commutative ring laws that a segment's contribution rests on (R173, R174). -/

namespace Sys2Proof.Machine

/-! ## Doubling and products are linear in the left factor -/

theorem shiftLeft_xor_word (a b : Word) (n : Nat) : (a ^^^ b) <<< n = a <<< n ^^^ b <<< n := by
  ext i hi
  simp [Bool.and_xor_distrib_left]

/-- A term on both sides of a sum falls out. -/
theorem xor_xor_xor_cancel (a b c : Word) : (a ^^^ c) ^^^ (b ^^^ c) = a ^^^ b := by
  rw [BitVec.xor_comm b c, BitVec.xor_assoc, ← BitVec.xor_assoc c c, BitVec.xor_self, BitVec.zero_xor]

theorem gfDouble_xor (a b : Word) : gfDouble (a ^^^ b) = gfDouble a ^^^ gfDouble b := by
  simp only [gfDouble, shiftLeft_xor_word, BitVec.getLsbD_xor]
  cases a.getLsbD 47 <;> cases b.getLsbD 47
  case false.false => rfl
  case true.true => exact (xor_xor_xor_cancel _ _ _).symm
  case true.false => simp only [Bool.xor_false, if_true, Bool.false_eq_true, if_false]; ac_rfl
  case false.true => simp only [Bool.xor_true, Bool.not_false, if_true, Bool.false_eq_true, if_false]; ac_rfl

theorem gfDouble_zero : gfDouble 0 = 0 := by decide

theorem gfMulFrom_xor (a b c : Word) (n : Nat) (x y : Word) :
    gfMulFrom (a ^^^ b) c n (x ^^^ y) = gfMulFrom a c n x ^^^ gfMulFrom b c n y := by
  induction n generalizing x y with
  | zero => rfl
  | succ n ih =>
    have hstep : gfDouble (x ^^^ y) ^^^ (if c.getLsbD n then a ^^^ b else 0) =
        (gfDouble x ^^^ if c.getLsbD n then a else 0) ^^^ (gfDouble y ^^^ if c.getLsbD n then b else 0) := by
      rw [gfDouble_xor]
      split
      · ac_rfl
      · simp
    simp only [gfMulFrom, hstep, ih]

theorem gfMul_xor_left (a b c : Word) : gfMul (a ^^^ b) c = gfMul a c ^^^ gfMul b c :=
  gfMulFrom_xor a b c 48 0 0

theorem gfMul_zero_left (c : Word) : gfMul 0 c = 0 := by
  have h := gfMul_xor_left 0 0 c
  simpa using h

/-! ## Products in a common left factor commute -/

/-- A linear map that commutes with doubling goes through a product's left factor. -/
theorem map_gfMulFrom (f : Word → Word) (hx : ∀ a b, f (a ^^^ b) = f a ^^^ f b) (hd : ∀ a, f (gfDouble a) = gfDouble (f a))
    (a b : Word) (n : Nat) (x : Word) : f (gfMulFrom a b n x) = gfMulFrom (f a) b n (f x) := by
  have hzero : f 0 = 0 := by simpa using hx 0 0
  induction n generalizing x with
  | zero => rfl
  | succ n ih =>
    rw [gfMulFrom, ih, hx, hd, gfMulFrom, apply_ite f, hzero]

theorem gfMul_gfDouble (a b : Word) : gfMul (gfDouble a) b = gfDouble (gfMul a b) := by
  rw [gfMul, gfMul, map_gfMulFrom gfDouble gfDouble_xor (fun _ => rfl), gfDouble_zero]

theorem gfMul_right_comm (a b c : Word) : gfMul (gfMul a b) c = gfMul (gfMul a c) b := by
  have h := map_gfMulFrom (gfMul · c) (gfMul_xor_left · · c) (gfMul_gfDouble · c) a b 48 0
  rwa [gfMul_zero_left] at h

/-! ## One is the unit, so the product commutes and associates -/

/-- The coefficients above the n low ones, which n doublings more reduce not at all. -/
theorem gfDouble_ushiftRight (b : Word) (n : Nat) :
    gfDouble (b >>> (n + 1)) ^^^ (if b.getLsbD n then 1 else 0) = b >>> n := by
  have hmsb : (b >>> (n + 1)).getLsbD 47 = false := by
    rw [BitVec.getLsbD_ushiftRight]
    exact BitVec.getLsbD_of_ge _ _ (by omega)
  rw [gfDouble, hmsb, if_neg Bool.false_ne_true]
  ext i hi
  cases i with
  | zero => cases h : b.getLsbD n <;> simp [h]
  | succ i =>
    have hone : ((1 : Word).getLsbD (i + 1)) = false := by simp
    have hidx : n + 1 + i = n + (i + 1) := by omega
    cases b.getLsbD n <;> simp [hidx] 

theorem gfMulFrom_one (b : Word) (n : Nat) : gfMulFrom 1 b n (b >>> n) = b := by
  induction n with
  | zero => simp [gfMulFrom]
  | succ n ih => rw [gfMulFrom, gfDouble_ushiftRight, ih]

theorem gfMul_one_left (b : Word) : gfMul 1 b = b := by
  have hzero : b >>> 48 = 0 := BitVec.ushiftRight_eq_zero (Nat.le_refl 48)
  have h := gfMulFrom_one b 48
  rwa [hzero] at h

theorem gfMul_comm (a b : Word) : gfMul a b = gfMul b a := by
  have h := gfMul_right_comm 1 a b
  rwa [gfMul_one_left, gfMul_one_left] at h

theorem gfMul_assoc (a b c : Word) : gfMul (gfMul a b) c = gfMul a (gfMul b c) := by
  rw [gfMul_comm a b, gfMul_right_comm, gfMul_comm]

theorem gfMul_xor_right (a b c : Word) : gfMul a (b ^^^ c) = gfMul a b ^^^ gfMul a c := by
  rw [gfMul_comm, gfMul_xor_left, gfMul_comm b, gfMul_comm c]

theorem gfMul_one_right (a : Word) : gfMul a 1 = a := by rw [gfMul_comm, gfMul_one_left]

/-! ## Powers -/

theorem gfPow_add (k : Word) (m n : Nat) : gfPow k (m + n) = gfMul (gfPow k m) (gfPow k n) := by
  induction n with
  | zero => exact (gfMul_one_right _).symm
  | succ n ih => rw [← Nat.add_assoc, gfPow, ih, gfPow, gfMul_assoc]

theorem gfPow_mul (k : Word) (m n : Nat) : gfPow (gfPow k m) n = gfPow k (m * n) := by
  induction n with
  | zero => rfl
  | succ n ih => rw [gfPow, ih, Nat.mul_succ, gfPow_add]

/-- R173: the two table values of a segment that ends before octet `m` of its page make up k to the power m. -/
theorem gfMul_tHi_tLo (k : Word) (sub r : Nat) : gfMul (tHi k sub) (tLo k r) = gfPow k (128 * sub + r + 1) := by
  rw [tHi, tLo, gfPow_mul, ← gfPow_add, Nat.add_assoc]

/-! ## A segment's contribution (R174) -/

/-- The sum of the fingerprint's terms of octets that begin at an offset of their page. -/
def fingerprintTerms (k : Word) (offset : Nat) (b : List Byte) : Word :=
  (b.mapIdx (fun i o => gfMul (o.setWidth 48) (gfPow k (offset + i + 1)))).foldl (· ^^^ ·) 0

theorem fingerprintTerms_concat (k : Word) (offset : Nat) (b : List Byte) (o : Byte) :
    fingerprintTerms k offset (b ++ [o]) =
      fingerprintTerms k offset b ^^^ gfMul (o.setWidth 48) (gfPow k (offset + b.length + 1)) := by
  rw [fingerprintTerms, List.mapIdx_concat, List.foldl_concat, fingerprintTerms]

theorem foldH_concat (inv : Word) (b : List Byte) (o : Byte) :
    foldH inv (b ++ [o]) = gfMul (foldH inv b) inv ^^^ o.setWidth 48 := List.foldl_concat ..

/-- Each octet served divides the earlier ones by the key once more, which the power behind the last octet makes good. -/
theorem gfMul_gfPow_foldH {k inv : Word} (hinv : gfMul k inv = 1) (offset : Nat) (b : List Byte) :
    gfMul (gfPow k (offset + b.length)) (foldH inv b) = fingerprintTerms k offset b := by
  induction b using List.reverseRecOn with
  | nil => rw [gfMul_comm]; exact gfMul_zero_left _
  | append_singleton b o ih =>
    have hcancel : gfMul (gfPow k (offset + b.length + 1)) (gfMul (foldH inv b) inv) =
        gfMul (gfPow k (offset + b.length)) (foldH inv b) := by
      rw [gfPow, gfMul_comm (foldH inv b), gfMul_assoc, ← gfMul_assoc k, hinv, gfMul_one_left]
    rw [foldH_concat, fingerprintTerms_concat, List.length_append, List.length_singleton, ← Nat.add_assoc, gfMul_xor_right,
      hcancel, ih, gfMul_comm (gfPow _ _)]

theorem gfMul_gfInv_of_keyValuesOk {k : Word} (h : keyValuesOk k = true) : gfMul k (gfInv k) = 1 := by
  rw [keyValuesOk, Bool.and_eq_true, beq_iff_eq] at h
  exact h.1

theorem contribution_eq (k : Word) (offset : Nat) {b : List Byte} (hb : b ≠ [])
    (hsub : offset / 128 = (offset + b.length - 1) / 128) :
    contribution k offset b = gfMul (gfPow k (offset + b.length)) (foldH (gfInv k) b) := by
  have hlen : 0 < b.length := List.length_pos_iff.mpr hb
  have hend : 128 * (offset / 128) + (offset + b.length - 1 - 128 * (offset / 128)) + 1 = offset + b.length := by omega
  rw [contribution, gfMul_tHi_tLo, hend]

/-- Settles O26, by the ring laws of the field and an induction over the octets in the order served. -/
theorem segmentContributionIsItsFingerprintTerms : Obligations.SegmentContributionIsItsFingerprintTerms := by
  intro k offset b hk hb hsub
  rw [contribution_eq k offset hb hsub, gfMul_gfPow_foldH (gfMul_gfInv_of_keyValuesOk hk)]
  rfl

end Sys2Proof.Machine

/-! SUPPORT. The computing instructions of chapter 13: carries and products as exact sums, and what each register instruction leaves
in flight, or faults with (R422 to R436, R461). -/

namespace Sys2Proof.Machine

/-! ## Carries, borrows and products (R422, R435) -/

theorem toNat_add_addCarry (a b : Word) (c : Bool) :
    (addCarry a b c).1.toNat + (if (addCarry a b c).2 then 2 ^ 48 else 0) = a.toNat + b.toNat + c.toNat := by
  have hc : c.toNat ≤ 1 := Bool.toNat_le c
  have ha := a.isLt
  have hb := b.isLt
  simp only [addCarry, BitVec.toNat_ofNat, decide_eq_true_eq]
  split <;> omega

theorem toNat_add_subBorrow (a b : Word) (c : Bool) :
    (subBorrow a b c).1.toNat + b.toNat + c.toNat = a.toNat + (if (subBorrow a b c).2 then 2 ^ 48 else 0) := by
  have hc : c.toNat ≤ 1 := Bool.toNat_le c
  have ha := a.isLt
  have hb := b.isLt
  simp only [subBorrow, BitVec.toNat_sub, BitVec.toNat_ofNat, decide_eq_true_eq]
  split <;> omega

/-- A product of two words and two more words stay below two words. -/
theorem toNat_mul_add_lt (a b c m : Word) : a.toNat * b.toNat + c.toNat + m.toNat < 2 ^ 96 := by
  have ha : a.toNat ≤ 2 ^ 48 - 1 := by have := a.isLt; omega
  have hb : b.toNat ≤ 2 ^ 48 - 1 := by have := b.isLt; omega
  have hab := Nat.mul_le_mul ha hb
  have hc := c.isLt
  have hm := m.isLt
  omega

theorem toNat_add_multiplyAdd (a b c m : Word) :
    (multiplyAdd a b c m).1.toNat + 2 ^ 48 * (multiplyAdd a b c m).2.toNat = a.toNat * b.toNat + c.toNat + m.toNat := by
  have h := toNat_mul_add_lt a b c m
  simp only [multiplyAdd, BitVec.toNat_ofNat]
  omega

theorem toNat_mul_add_mulHighU (a b : Word) : (a * b).toNat + 2 ^ 48 * (mulHighU a b).toNat = a.toNat * b.toNat := by
  have h := toNat_mul_add_lt a b 0 0
  simp only [mulHighU, BitVec.toNat_mul, BitVec.toNat_ofNat] at h ⊢
  omega

theorem toNat_mul_eq_emod (a b : Word) : ((a * b).toNat : Int) = a.toInt * b.toInt % 2 ^ 48 := by
  have hofInt : a * b = BitVec.ofInt 48 (a.toInt * b.toInt) := by
    rw [BitVec.ofInt_mul, BitVec.ofInt_toInt, BitVec.ofInt_toInt]
  rw [hofInt, BitVec.toNat_ofInt]
  exact Int.toNat_of_nonneg (Int.emod_nonneg _ (by decide))

/-- A signed product is at most 2^94 away from zero. -/
theorem abs_toInt_mul_le (a b : Word) : |a.toInt * b.toInt| ≤ 2 ^ 94 := by
  have hword : ∀ w : Word, |w.toInt| ≤ 2 ^ 47 := fun w => by
    rw [abs_le]
    have hlo := BitVec.le_toInt w
    have hhi := BitVec.toInt_lt (x := w)
    omega
  calc |a.toInt * b.toInt| = |a.toInt| * |b.toInt| := abs_mul _ _
    _ ≤ 2 ^ 47 * 2 ^ 47 := mul_le_mul (hword a) (hword b) (abs_nonneg _) (by decide)
    _ = 2 ^ 94 := by decide

theorem toInt_mulHighS (a b : Word) : (mulHighS a b).toInt = a.toInt * b.toInt / 2 ^ 48 := by
  have h := abs_le.mp (abs_toInt_mul_le a b)
  rw [mulHighS, BitVec.toInt_ofInt]
  exact Int.bmod_eq_of_le (by omega) (by omega)

theorem toInt_mulHighS_mul_add (a b : Word) :
    ((mulHighS a b).toInt * 2 ^ 48 + (a * b).toNat : Int) = a.toInt * b.toInt := by
  rw [toInt_mulHighS, toNat_mul_eq_emod, mul_comm]
  exact Int.mul_ediv_add_emod _ _

/-- Settles O45: each operation's equation above. -/
theorem carriesAndProductsAreExact : Obligations.CarriesAndProductsAreExact := fun a b c m k =>
  ⟨toNat_add_addCarry a b k, toNat_add_subBorrow a b k, toNat_add_multiplyAdd a b c m, toNat_mul_add_mulHighU a b,
    toInt_mulHighS_mul_add a b⟩

theorem subBorrow_false (a b : Word) : subBorrow a b false = (a - b, a.ult b) := by
  simp [subBorrow, BitVec.ult]

/-! ## What a register instruction leaves in flight (R422, R429 to R435, R440) -/

/-- The instruction has n parcels, reads and writes registers alone, and leaves the pair's registers as r. -/
def Leaves (s : State) (p : Fin 4) (i : Instr) (n : Nat) (r : Pair) : Prop :=
  ∃ f : Pair → Except Trap Pair, exec i s = .next (s.registerOp p n f) ∧ f s.pairs[p] = .ok r

theorem exec_of_leaves {s : State} {p : Fin 4} {i : Instr} {n : Nat} {r : Pair} (h : Leaves s p i n r)
    (hi : s.Issues p n .plain) : exec i s = .next (s.afterOp p n r) := by
  obtain ⟨f, hexec, hf⟩ := h
  rw [hexec, State.registerOp_of_ok hi hf]

section Leaves

variable (s : State) (p : Fin 4) (rd ra rb : Fin 16)

theorem leaves_opSub : Leaves s p (.opSub p rd ra rb) 1 (((s.pairs[p]).write rd (s.pairs[p].reg ra - s.pairs[p].reg rb)).writeAfter 1
    .cy (boolWord ((s.pairs[p].reg ra).ult (s.pairs[p].reg rb)))) :=
  ⟨_, rfl, by rw [Pair.writeCarry, subBorrow_false]⟩

theorem boolWord_slt (a b : Word) : boolWord (a.slt b) = if a.toInt < b.toInt then 1 else 0 := by
  simp [boolWord, BitVec.slt]

theorem boolWord_ult (a b : Word) : boolWord (a.ult b) = if a.toNat < b.toNat then 1 else 0 := by
  simp [boolWord, BitVec.ult]

theorem leaves_opSlt : Leaves s p (.opSlt p rd ra rb) 1
    (s.pairs[p].write rd (if (s.pairs[p].reg ra).toInt < (s.pairs[p].reg rb).toInt then 1 else 0)) :=
  ⟨_, rfl, by rw [boolWord_slt]⟩

theorem leaves_opSltu : Leaves s p (.opSltu p rd ra rb) 1
    (s.pairs[p].write rd (if (s.pairs[p].reg ra).toNat < (s.pairs[p].reg rb).toNat then 1 else 0)) :=
  ⟨_, rfl, by rw [boolWord_ult]⟩

end Leaves

/-- Settles O46: every row leaves what it names, by its own definition; SUB, SLT and SLTU by the arithmetic above. -/
theorem registerInstructionsCompute : Obligations.RegisterInstructionsCompute := by
  intro s p rd ra rb rc im mv hi i n r q a b hmem hissue
  suffices h : Leaves s p i n r from exec_of_leaves h hissue
  simp only [List.mem_cons, List.not_mem_nil, or_false, Prod.mk.injEq] at hmem
  rcases hmem with h | h | h | h | h | h | h | h | h | h | h | h | h | h | h | h | h | h | h | h | h | h | h | h | h | h | h | h |
    h | h | h
  all_goals obtain ⟨rfl, rfl, rfl⟩ := h
  any_goals exact ⟨_, rfl, rfl⟩
  · exact leaves_opSub s p rd ra rb
  · exact leaves_opSlt s p rd ra rb
  · exact leaves_opSltu s p rd ra rb

/-! ## Register instructions that can fault (R423, R425, R436, R461) -/

theorem Pair.writePointer_some (rd : Fin 16) (w : Word) (q : Pair) : q.writePointer rd (some w) = .ok (q.write rd w) := rfl

theorem Pair.writePointer_none (rd : Fin 16) (q : Pair) : q.writePointer rd none = .error (alignmentTrap 0) := rfl

section Checked

variable {s : State} {p : Fin 4} (rd ra rb : Fin 16) (im : Imm) (n : BitVec 8)

theorem exec_opOadd_of_some (h : s.Issues p 1 .plain) {w : Word}
    (hw : optrAdd (s.pairs[p].reg ra) (s.pairs[p].reg rb).toInt = some w) :
    exec (.opOadd p rd ra rb) s = .next (s.afterOp p 1 (s.pairs[p].write rd w)) :=
  congrArg Host.Outcome.next (State.registerOp_of_ok h (by rw [hw, Pair.writePointer_some]))

theorem exec_opOadd_of_none (h : s.Issues p 1 .plain) (hw : optrAdd (s.pairs[p].reg ra) (s.pairs[p].reg rb).toInt = none) :
    exec (.opOadd p rd ra rb) s = .next (s.takeFault p (alignmentTrap 0)) :=
  congrArg Host.Outcome.next (State.registerOp_of_error h (by rw [hw, Pair.writePointer_none]))

theorem exec_opOaddi_of_some (h : s.Issues p im.parcels .plain) {w : Word}
    (hw : optrAdd (s.pairs[p].reg ra) im.word.toInt = some w) :
    exec (.opOaddi p rd ra im) s = .next (s.afterOp p im.parcels (s.pairs[p].write rd w)) :=
  congrArg Host.Outcome.next (State.registerOp_of_ok h (by rw [hw, Pair.writePointer_some]))

theorem exec_opMfsr_of_readable (h : s.Issues p 1 .plain) {w : Word} (hw : s.pairs[p].special p n.toNat = some w)
    (hr : n.toNat < 0x10 ∨ s.pairs[p].level = .monitor) :
    exec (.opMfsr p rd n) s = .next (s.afterOp p 1 (s.pairs[p].write rd w)) :=
  congrArg Host.Outcome.next (State.registerOp_of_ok h (by
    rw [hw]
    exact if_neg (by rintro ⟨hn, hl⟩; exact hr.elim (by omega) hl)))

theorem exec_opMfsr_of_privileged (h : s.Issues p 1 .plain) {w : Word} (hw : s.pairs[p].special p n.toNat = some w)
    (hn : 0x10 ≤ n.toNat) (hl : s.pairs[p].level ≠ .monitor) :
    exec (.opMfsr p rd n) s = .next (s.takeFault p (privilegeTrap n.toNat)) :=
  congrArg Host.Outcome.next (State.registerOp_of_error h (by rw [hw]; exact if_pos ⟨hn, hl⟩))

theorem exec_opMfsr_of_absent (h : s.Issues p 1 .plain) (hw : s.pairs[p].special p n.toNat = none) :
    exec (.opMfsr p rd n) s = .next (s.takeFault p illegalTrap) :=
  congrArg Host.Outcome.next (State.registerOp_of_error h (by rw [hw]))

/-- An admitted mask level is its own low three bits, which ML takes. -/
theorem Pair.setMask_of_lt {q : Pair} (hn : n.toNat < 8) (hm : mayMask q.level n.toNat = true) :
    q.setMask (n.setWidth 48) = .ok (q.writeAfter 3 .ml ((n.setWidth 3).setWidth 48)) := by
  have hlow : (n.setWidth 48).setWidth 3 = n.setWidth 3 := BitVec.setWidth_setWidth_of_le _ (by decide)
  have htoNat : (n.setWidth 3).toNat = n.toNat := by rw [BitVec.toNat_setWidth]; exact Nat.mod_eq_of_lt hn
  rw [Pair.setMask, hlow, htoNat, if_pos hm]

theorem exec_opSetml_of_admitted (h : s.Issues p 1 .plain) (hn : n.toNat < 8) (hm : mayMask s.pairs[p].level n.toNat = true) :
    exec (.opSetml p n) s = .next (s.afterOp p 1 (s.pairs[p].writeAfter 3 .ml ((n.setWidth 3).setWidth 48))) :=
  congrArg Host.Outcome.next (State.registerOp_of_ok h (by
    rw [if_neg (by omega), Pair.setMask_of_lt n hn hm]))

end Checked

/-- Settles O47: per instruction, by whether its operands are admitted. -/
theorem checkedRegisterInstructions : Obligations.CheckedRegisterInstructions := by
  intro s p rd ra rb im n q
  refine ⟨fun h => ⟨?oadd, ?oaddFault, ?mfsr, ?mfsrAbsent, ?mtsr, ?mtsrFault, ?setml, ?loopx⟩, ?oaddi⟩
  case oadd => exact fun w hw => exec_opOadd_of_some rd ra rb h hw
  case oaddFault => exact exec_opOadd_of_none rd ra rb h
  case mfsr =>
    exact fun w hw => ⟨exec_opMfsr_of_readable rd n h hw, exec_opMfsr_of_privileged rd n h hw⟩
  case mfsrAbsent => exact exec_opMfsr_of_absent rd n h
  case mtsr => exact fun r hr => congrArg Host.Outcome.next (State.registerOp_of_ok h hr)
  case mtsrFault => exact fun t ht => congrArg Host.Outcome.next (State.registerOp_of_error h ht)
  case setml => exact exec_opSetml_of_admitted n h
  case loopx => exact congrArg Host.Outcome.next (State.registerOp_of_ok h rfl)
  case oaddi => exact fun h w hw => exec_opOaddi_of_some rd ra im h hw

end Sys2Proof.Machine

/-! SUPPORT. Branches, jumps, calls, returns and loop set-ups, by what they record or leave in flight (R443 to R449). -/

namespace Sys2Proof.Machine

/-! ## Two updates of one pair -/

theorem State.onPair_onPair (s : State) (p : Fin 4) (f g : Pair → Pair) :
    (s.onPair p f).onPair p g = s.onPair p (fun q => g (f q)) := by
  simp [State.onPair]

/-! ## The issue of an instruction, by what its body leaves -/

section Issue

variable {s r : State} {p : Fin 4} {n : Nat} {k : OpKind} {body : State → Issue}

theorem State.issue_of_done (h : s.Issues p n k) (hb : body s = .done r) :
    s.issue p n k body = r.complete p n s.pairs[p].branch := by rw [State.issue_of_issues _ _ _ _ _ h, hb]

theorem State.issue_of_goto (h : s.Issues p n k) {ip : Word} (hb : body s = .goto r ip) :
    s.issue p n k body = (r.onPair p (fun q => { q with ip })).retire p := by rw [State.issue_of_issues _ _ _ _ _ h, hb]

theorem State.issue_of_placed (h : s.Issues p n k) (hb : body s = .placed r) : s.issue p n k body = r := by
  rw [State.issue_of_issues _ _ _ _ _ h, hb]

theorem State.issue_of_stay (h : s.Issues p n k) (hb : body s = .stay r) : s.issue p n k body = r := by
  rw [State.issue_of_issues _ _ _ _ _ h, hb]

theorem State.issue_of_trap (h : s.Issues p n k) {t : Trap} (hb : body s = .trap r t) :
    s.issue p n k body = r.takeFault p t := by rw [State.issue_of_issues _ _ _ _ _ h, hb]

end Issue

/-! ## Branches (R443, R444, R457) -/

/-- The branch that an instruction at the pair's instruction pointer records. -/
def Pair.recorded (q : Pair) (target : Option Word) (push pop : Bool) : Pair :=
  { q with branch := some { pointer := q.ip.setWidth 26, target, push, pop } }

section Branch

variable {s : State} {p : Fin 4} {n : Nat} {f : Pair → Except Trap (Option Word × Bool × Bool)}

theorem State.branchOp_of_ok (h : s.Issues p n .control) {target : Option Word} {push pop : Bool}
    (hf : f s.pairs[p] = .ok (target, push, pop)) :
    s.branchOp p n f = s.afterOp p n (s.pairs[p].recorded target push pop) :=
  State.issue_of_done h (by simp only [hf]; rfl)

theorem State.branchOp_of_error (h : s.Issues p n .control) {t : Trap} (hf : f s.pairs[p] = .error t) :
    s.branchOp p n f = s.takeFault p t :=
  State.issue_of_trap h (by simp only [hf])

end Branch

/-- The instruction is a branch of n parcels to a target, where it has one, that neither pushes nor pops. -/
def BranchesTo (s : State) (p : Fin 4) (i : Instr) (n : Nat) (target : Option Word) : Prop :=
  ∃ f, exec i s = .next (s.branchOp p n f) ∧ f s.pairs[p] = .ok (target, false, false)

theorem exec_of_branchesTo {s : State} {p : Fin 4} {i : Instr} {n : Nat} {target : Option Word} (h : BranchesTo s p i n target)
    (hi : s.Issues p n .control) : exec i s = .next (s.afterOp p n (s.pairs[p].recorded target false false)) := by
  obtain ⟨f, hexec, hf⟩ := h
  rw [hexec, State.branchOp_of_ok hi hf]

/-- A conditional branch whose condition reads c has its target where c holds. -/
theorem branchesTo_conditional {s : State} {p : Fin 4} {i : Instr} {d : Imm} {c : Pair → Bool} {taken : Bool}
    (hexec : exec i s = .next (s.conditional p d c)) (hc : c s.pairs[p] = taken) :
    BranchesTo s p i d.parcels (if taken then some (s.pairs[p].ip + d.word) else none) :=
  ⟨_, hexec, by rw [hc]⟩

theorem not_slt_eq_decide_le (a b : Word) : (!a.slt b) = decide (b.toInt ≤ a.toInt) := by
  rw [BitVec.slt, Bool.eq_iff_iff]
  simp

theorem not_ult_eq_decide_le (a b : Word) : (!a.ult b) = decide (b.toNat ≤ a.toNat) := by
  rw [BitVec.ult, Bool.eq_iff_iff]
  simp

/-- Bit 47 is the sign of a word. -/
theorem getLsbD_47_eq_decide_neg (a : Word) : a.getLsbD 47 = decide (a.toInt < 0) := by
  rw [show a.getLsbD 47 = a.msb from (BitVec.msb_eq_getLsbD_last a).symm, BitVec.msb_eq_toInt]

theorem not_getLsbD_47_eq_decide_nonneg (a : Word) : (!a.getLsbD 47) = decide (0 ≤ a.toInt) := by
  rw [getLsbD_47_eq_decide_neg, Bool.eq_iff_iff]
  simp

/-- A call with room for its entry records its target and the push. -/
theorem Pair.callTo_of_ok {q r : Pair} (w : Word) (h : q.pushEntry q.level 0 = .ok r) : q.callTo w = .ok (some w, true, false) := by
  rw [Pair.callTo, h]; rfl

theorem Pair.callTo_of_error {q : Pair} {t : Trap} (w : Word) (h : q.pushEntry q.level 0 = .error t) : q.callTo w = .error t := by
  rw [Pair.callTo, h]; rfl

theorem Pair.returnTarget_of_call {q r : Pair} {w : Word} (h : q.popEntry q.level = .ok (w, r)) (hk : entryKind w = 0) :
    q.returnTarget = .ok (some (w &&& 0x3FFFFFF), false, true) := by
  simp only [Pair.returnTarget, h, hk, if_true]

theorem Pair.returnTarget_of_other {q r : Pair} {w : Word} (h : q.popEntry q.level = .ok (w, r)) (hk : entryKind w ≠ 0) :
    q.returnTarget = .error (returnStackTrap q.level) := by
  simp only [Pair.returnTarget, h, if_neg hk]

/-! ## Loop set-ups (R446, R447) -/

/-- The pair after a loop set-up of n parcels: its set's registers are in flight with distance 3. -/
def Pair.loopSet (q : Pair) (set : Fin 2) (n : Nat) (last count : Word) : Pair :=
  (((q.writeAfter 3 (.ls set) (q.ip + BitVec.ofNat 48 n)).writeAfter 3 (.le set) last).writeAfter 3 (.lc set) count).writeAfter 3
    (.setLevel set) (BitVec.ofNat 48 q.level.num)

@[simp] theorem Pair.loopSet_mem (q : Pair) (set : Fin 2) (n : Nat) (last count : Word) :
    (q.loopSet set n last count).mem = q.mem := rfl

@[simp] theorem Pair.loopSet_fetched (q : Pair) (set : Fin 2) (n : Nat) (last count : Word) :
    (q.loopSet set n last count).fetched = q.fetched := rfl

/-- Fetch sees a pair's memories and the commons alone. -/
theorem State.fetchedParcel_onPair {s : State} {p : Fin 4} {r : Pair} (hm : r.mem = s.pairs[p].mem)
    (hf : r.fetched = s.pairs[p].fetched) (ip : Word) :
    (s.onPair p (fun _ => r)).fetchedParcel p ip = s.fetchedParcel p ip := by
  have hcommons : ∀ f a, (s.onPair p f).commonsWord a = s.commonsWord a := fun _ _ => rfl
  rw [State.fetchedParcel, State.fetchedParcel, State.onPair_same, hm, hf]
  simp only [hcommons]

section Loop

variable {s : State} {p : Fin 4} {n e : Nat} {set : Fin 2} {count : Pair → Word}

theorem State.loopOp_of_short (h : s.Issues p n .control) (he : e < n + 2) :
    s.loopOp p n set e count = s.takeFault p illegalTrap :=
  State.issue_of_trap h (if_pos he)

theorem State.loopOp_of_count (h : s.Issues p n .control) (he : n + 2 ≤ e) (hc : count s.pairs[p] ≠ 0) :
    s.loopOp p n set e count =
      s.afterOp p n (s.pairs[p].loopSet set n (s.pairs[p].ip + BitVec.ofNat 48 e) (count s.pairs[p])) :=
  State.issue_of_done h ((if_neg (Nat.not_lt.mpr he)).trans (if_neg hc))

theorem State.loopOp_of_zero (h : s.Issues p n .control) (he : n + 2 ≤ e) (hc : count s.pairs[p] = 0) :
    s.loopOp p n set e count =
      (s.onPair p (fun _ => { s.pairs[p].loopSet set n (s.pairs[p].ip + BitVec.ofNat 48 e) (count s.pairs[p]) with
        ip := s.pairs[p].ip + BitVec.ofNat 48 e +
          BitVec.ofNat 48 (parcelCount (s.fetchedParcel p (s.pairs[p].ip + BitVec.ofNat 48 e))) })).retire p := by
  rw [State.loopOp, State.issue_of_goto h ((if_neg (Nat.not_lt.mpr he)).trans (if_pos hc)), State.onPair_onPair]
  rfl

end Loop

/-- Settles O51: branches by their condition, calls by their room, returns by their entry's kind, loops by their count. -/
theorem controlInstructionsBranch : Obligations.ControlInstructionsBranch := by
  intro s p ra rb d j i n taken w q a b recorded
  refine ⟨fun hmem hi => ?branch, fun hmem hi => ?call, fun hi r hr => ?ret, fun set k e x c l hmem hi => ?loop⟩
  case branch =>
    suffices h : BranchesTo s p i n (if taken then some w else none) from exec_of_branchesTo h hi
    simp only [List.mem_cons, List.not_mem_nil, or_false, Prod.mk.injEq] at hmem
    rcases hmem with h | h | h | h | h | h | h | h | h | h | h | h | h | h
    all_goals obtain ⟨rfl, rfl, rfl, rfl⟩ := h
    · exact branchesTo_conditional rfl rfl
    · exact branchesTo_conditional rfl rfl
    · exact branchesTo_conditional rfl rfl
    · exact branchesTo_conditional rfl (not_slt_eq_decide_le a b)
    · exact branchesTo_conditional rfl rfl
    · exact branchesTo_conditional rfl (not_ult_eq_decide_le a b)
    · exact branchesTo_conditional rfl rfl
    · exact branchesTo_conditional rfl rfl
    · exact branchesTo_conditional rfl rfl
    · exact branchesTo_conditional rfl rfl
    · exact branchesTo_conditional rfl (getLsbD_47_eq_decide_neg a)
    · exact branchesTo_conditional rfl (not_getLsbD_47_eq_decide_nonneg a)
    · exact ⟨_, rfl, rfl⟩
    · exact ⟨_, rfl, rfl⟩
  case call =>
    obtain ⟨f, hexec, hf⟩ : ∃ f, exec i s = .next (s.branchOp p n f) ∧ f s.pairs[p] = s.pairs[p].callTo w := by
      simp only [List.mem_cons, List.not_mem_nil, or_false, Prod.mk.injEq] at hmem
      rcases hmem with ⟨rfl, rfl, rfl⟩ | ⟨rfl, rfl, rfl⟩ <;> exact ⟨_, rfl, rfl⟩
    rw [hexec]
    exact ⟨fun r hr => congrArg Host.Outcome.next (State.branchOp_of_ok hi (hf.trans (Pair.callTo_of_ok w hr))),
      fun t ht => congrArg Host.Outcome.next (State.branchOp_of_error hi (hf.trans (Pair.callTo_of_error w ht)))⟩
  case ret =>
    exact ⟨fun hk => congrArg Host.Outcome.next (State.branchOp_of_ok hi (Pair.returnTarget_of_call hr hk)),
      fun hk => congrArg Host.Outcome.next (State.branchOp_of_error hi (Pair.returnTarget_of_other hr hk))⟩
  case loop =>
    obtain ⟨count, hexec, hcount⟩ : ∃ count, exec i s = .next (s.loopOp p n set l count) ∧ count s.pairs[p] = c := by
      simp only [List.mem_cons, List.not_mem_nil, or_false, Prod.mk.injEq] at hmem
      rcases hmem with ⟨rfl, rfl, rfl, rfl⟩ | ⟨rfl, rfl, rfl, rfl⟩ <;> exact ⟨_, rfl, rfl⟩
    subst hcount
    refine ⟨fun hl => ?_, fun hl => ⟨fun hc => ?_, fun hc => ?_⟩⟩
    · rw [hexec, State.loopOp_of_short hi hl]
    · rw [hexec, State.loopOp_of_count hi hl hc]; rfl
    · rw [hexec, State.loopOp_of_zero hi hl hc,
        ← State.fetchedParcel_onPair (Pair.loopSet_mem _ set n (s.pairs[p].ip + BitVec.ofNat 48 l) (count s.pairs[p]))
          (Pair.loopSet_fetched ..)]
      rfl

end Sys2Proof.Machine

/-! SUPPORT. Loads, stores, PUSH, POP and string instructions, by what their access answers (R437, R450 to R453); and the octets
that a store to SRAM leaves as they were. -/

namespace Sys2Proof.Machine

/-! ## Loads and stores (R437) -/

section LoadStore

variable {s u : State} {p : Fin 4} {rd ra : Fin 16} {d : Imm} {z : Size} {sg : Bool} {b : BusReply} {ptr w : Word} {t : Trap}

theorem State.loadOp_of_misaligned (h : s.Issues p d.parcels .load) (he : effective (s.pairs[p].reg ra) d z = none) :
    s.loadOp p rd ra d z sg b = s.takeFault p (alignmentTrap 0) :=
  State.issue_of_trap h (by simp only [he])

theorem State.loadOp_of_ok (h : s.Issues p d.parcels .load) (he : effective (s.pairs[p].reg ra) d z = some ptr)
    (hw : s.pairs[p].entropyWait = false) (ha : s.load p s.pairs[p].level z ptr b = .ok u w) :
    s.loadOp p rd ra d z sg b = ((u.onPair p (fun q =>
      ({ q with entropyWait := false } : Pair).writeAfter 3 (.g rd) (if sg then z.signed w else w))).stallCycles p
        (ptr.toNat / 8)).complete p d.parcels s.pairs[p].branch :=
  State.issue_of_done h (by simp only [he, hw, Bool.false_and, Bool.false_eq_true, if_false, ha])

theorem State.loadOp_of_trap (h : s.Issues p d.parcels .load) (he : effective (s.pairs[p].reg ra) d z = some ptr)
    (hw : s.pairs[p].entropyWait = false) (ha : s.load p s.pairs[p].level z ptr b = .trap u t) :
    s.loadOp p rd ra d z sg b = u.takeFault p t :=
  State.issue_of_trap h (by simp only [he, hw, Bool.false_and, Bool.false_eq_true, if_false, ha])

theorem State.loadOp_of_stall (h : s.Issues p d.parcels .load) (he : effective (s.pairs[p].reg ra) d z = some ptr)
    (hw : s.pairs[p].entropyWait = false) (ha : s.load p s.pairs[p].level z ptr b = .stall) :
    s.loadOp p rd ra d z sg b = s.onPair p (fun q => { q with entropyWait := true }) :=
  State.issue_of_stay h (by simp only [he, hw, Bool.false_and, Bool.false_eq_true, if_false, ha])

theorem State.storeOp_of_misaligned (h : s.Issues p d.parcels .plain) (he : effective (s.pairs[p].reg ra) d z = none) :
    s.storeOp p rd ra d z b = s.takeFault p (alignmentTrap 0) :=
  State.issue_of_trap h (by simp only [he])

theorem State.storeOp_of_ok (h : s.Issues p d.parcels .plain) (he : effective (s.pairs[p].reg ra) d z = some ptr)
    (ha : s.storeAt p s.pairs[p].level z ptr (s.pairs[p].reg rd) b = .ok u w) :
    s.storeOp p rd ra d z b = u.complete p d.parcels s.pairs[p].branch :=
  State.issue_of_done h (by simp only [he, ha])

theorem State.storeOp_of_trap (h : s.Issues p d.parcels .plain) (he : effective (s.pairs[p].reg ra) d z = some ptr)
    (ha : s.storeAt p s.pairs[p].level z ptr (s.pairs[p].reg rd) b = .trap u t) :
    s.storeOp p rd ra d z b = u.takeFault p t :=
  State.issue_of_trap h (by simp only [he, ha])

end LoadStore

/-! ## PUSH and POP (R453) -/

section PushPop

variable {s u : State} {p : Fin 4} {rd ra : Fin 16} {sp w : Word}

theorem exec_opPush_of_room (h : s.Issues p 1 .plain) (hsp : optrAdd (s.pairs[p].reg 15) (-6) = some sp)
    (ha : s.storeAt p s.pairs[p].level .word sp (s.pairs[p].reg ra) .ok = .ok u w)
    (hroom : s.pairs[p].dsl[s.pairs[p].level.idx].toNat ≤ sp.toNat) :
    exec (.opPush p ra) s = .next ((u.onPair p (fun q => q.write 15 sp)).complete p 1 s.pairs[p].branch) :=
  congrArg Host.Outcome.next (State.issue_of_done h (by
    simp only [State.pushBody, hsp, ha, if_neg (Nat.not_lt.mpr hroom)]))

theorem exec_opPush_of_full (h : s.Issues p 1 .plain) (hsp : optrAdd (s.pairs[p].reg 15) (-6) = some sp)
    (ha : s.storeAt p s.pairs[p].level .word sp (s.pairs[p].reg ra) .ok = .ok u w)
    (hfull : sp.toNat < s.pairs[p].dsl[s.pairs[p].level.idx].toNat) :
    exec (.opPush p ra) s = .next (s.takeFault p dataStackTrap) :=
  congrArg Host.Outcome.next (State.issue_of_trap h (by simp only [State.pushBody, hsp, ha, if_pos hfull]))

theorem exec_opPop_of_ok (h : s.Issues p 1 .plain) (hsp : optrAdd (s.pairs[p].reg 15) 6 = some sp)
    (ha : s.load p s.pairs[p].level .word (s.pairs[p].reg 15) .ok = .ok u w) :
    exec (.opPop p rd) s = .next ((u.onPair p (fun q =>
      (q.writeAfter 3 (.g rd) w).write 15 sp)).complete p 1 s.pairs[p].branch) :=
  congrArg Host.Outcome.next (State.issue_of_done h (by simp only [State.popBody, hsp, ha]))

end PushPop

/-! ## String instructions (R450, R452) -/

section String

variable {s u : State} {p : Fin 4} {o : Pair → StringOp} {k : Nat} {t : Trap}

theorem State.stringOp_of_zero (h : s.Issues p 1 .string) (hz : s.pairs[p].reg 14 = 0) :
    s.stringOp p o k = s.complete p 1 s.pairs[p].branch :=
  State.issue_of_done h (if_pos hz)

theorem State.stringOp_of_misaligned (h : s.Issues p 1 .string) (hz : s.pairs[p].reg 14 ≠ 0)
    (hs : (o s.pairs[p]).startOk s.pairs[p] = false) : s.stringOp p o k = s.takeFault p (alignmentTrap 0) :=
  State.issue_of_trap h (by simp only [if_neg hz, hs, Bool.not_false, if_true])

theorem State.stringOp_of_trap (h : s.Issues p 1 .string) (hz : s.pairs[p].reg 14 ≠ 0)
    (hs : (o s.pairs[p]).startOk s.pairs[p] = true)
    (he : s.elements p (o s.pairs[p]) (min k (s.pairs[p].reg 14).toNat) = (u, some t)) :
    s.stringOp p o k = u.takeFault p t :=
  State.issue_of_trap h (by simp only [if_neg hz, hs, Bool.not_true, Bool.false_eq_true, if_false, he])

theorem State.stringOp_of_elements (h : s.Issues p 1 .string) (hz : s.pairs[p].reg 14 ≠ 0)
    (hs : (o s.pairs[p]).startOk s.pairs[p] = true)
    (he : s.elements p (o s.pairs[p]) (min k (s.pairs[p].reg 14).toNat) = (u, none)) :
    s.stringOp p o k = if u.pairs[p].reg 14 = 0 then u.complete p 1 s.pairs[p].branch else u := by
  split
  case isTrue hu =>
    exact State.issue_of_done h (by simp only [if_neg hz, hs, Bool.not_true, Bool.false_eq_true, if_false, he, if_pos hu])
  case isFalse hu =>
    exact State.issue_of_stay h (by simp only [if_neg hz, hs, Bool.not_true, Bool.false_eq_true, if_false, he, if_neg hu])

end String

/-- Settles O52: each group by its operation's outcomes. -/
theorem memoryInstructionsAccess : Obligations.MemoryInstructionsAccess := by
  intro s p rd ra d b i z sg ptr q
  refine ⟨fun hmem h => ?load, fun hmem h => ?store, fun h => ⟨fun u w hsp ha => ?push, fun u w hsp ha => ?pop⟩,
    fun k x hmem h => ?string⟩
  case load =>
    have hexec : exec i s = .next (s.loadOp p rd ra d z sg b) := by
      simp only [List.mem_cons, List.not_mem_nil, or_false, Prod.mk.injEq] at hmem
      rcases hmem with ⟨rfl, rfl, rfl⟩ | ⟨rfl, rfl, rfl⟩ | ⟨rfl, rfl, rfl⟩ | ⟨rfl, rfl, rfl⟩ | ⟨rfl, rfl, rfl⟩ <;> rfl
    rw [hexec]
    refine ⟨fun he => ?_, fun he hw => ⟨fun u w ha => ?_, fun u t ha => ?_, fun ha => ?_⟩⟩
    · rw [State.loadOp_of_misaligned h he]
    · rw [State.loadOp_of_ok h he hw ha]
    · rw [State.loadOp_of_trap h he hw ha]
    · rw [State.loadOp_of_stall h he hw ha]
  case store =>
    have hexec : exec i s = .next (s.storeOp p rd ra d z b) := by
      simp only [List.mem_cons, List.not_mem_nil, or_false, Prod.mk.injEq] at hmem
      rcases hmem with ⟨rfl, rfl⟩ | ⟨rfl, rfl⟩ | ⟨rfl, rfl⟩ <;> rfl
    rw [hexec]
    refine ⟨fun he => ?_, fun he => ⟨fun u w ha => ?_, fun u t ha => ?_⟩⟩
    · rw [State.storeOp_of_misaligned h he]
    · rw [State.storeOp_of_ok h he ha]
    · rw [State.storeOp_of_trap h he ha]
  case push => exact ⟨exec_opPush_of_room h hsp ha, exec_opPush_of_full h hsp ha⟩
  case pop => exact exec_opPop_of_ok h hsp ha
  case string =>
    obtain ⟨o, hexec, rfl⟩ : ∃ o, exec i s = .next (s.stringOp p o k) ∧ o s.pairs[p] = x := by
      simp only [List.mem_cons, List.not_mem_nil, or_false, Prod.mk.injEq] at hmem
      rcases hmem with ⟨rfl, rfl⟩ | ⟨rfl, rfl⟩ | ⟨rfl, rfl⟩ | ⟨rfl, rfl⟩ | ⟨rfl, rfl⟩ <;> exact ⟨_, rfl, rfl⟩
    rw [hexec]
    refine ⟨fun hz => ?_, fun hz hs => ?_, fun hz hs => ⟨fun u he => ?_, fun u t he => ?_⟩⟩
    · rw [State.stringOp_of_zero h hz]
    · rw [State.stringOp_of_misaligned h hz hs]
    · rw [State.stringOp_of_elements h hz hs he]
    · rw [State.stringOp_of_trap h hz hs he]

/-! ## Octets and words (R4, R5) -/

theorem length_beOctets (n v : Nat) : (beOctets n v).length = n := by
  induction n generalizing v with
  | zero => rfl
  | succ n ih => rw [beOctets, List.length_cons, ih]

theorem beNat_append (a b : List Byte) : beNat (a ++ b) = beNat a * 256 ^ b.length + beNat b := by
  induction b using List.reverseRecOn with
  | nil => simp [beNat]
  | append_singleton b o ih =>
    have hconcat : ∀ c : List Byte, beNat (c ++ [o]) = beNat c * 256 + o.toNat := fun c => List.foldl_concat ..
    rw [← List.append_assoc, hconcat, hconcat, ih, List.length_append, List.length_singleton, pow_succ]
    ring

theorem beNat_cons (o : Byte) (b : List Byte) : beNat (o :: b) = o.toNat * 256 ^ b.length + beNat b := by
  rw [← List.singleton_append, beNat_append]
  simp [beNat]

theorem beNat_beOctets (n v : Nat) : beNat (beOctets n v) = v % 256 ^ n := by
  induction n with
  | zero => simp [beOctets, beNat, Nat.mod_one]
  | succ n ih =>
    have hsplit : v % 256 ^ (n + 1) = v % 256 ^ n + 256 ^ n * (v / 256 ^ n % 256) := by rw [pow_succ, Nat.mod_mul]
    rw [beOctets, beNat_cons, ih, length_beOctets, BitVec.toNat_ofNat, hsplit, Nat.add_comm, Nat.mul_comm]

theorem length_wordOctets (w : Word) : (wordOctets w).length = 6 := by
  rw [wordOctets, List.length_reverse, wordBe, length_beOctets]

theorem octetsWord_wordOctets (w : Word) : octetsWord (wordOctets w) = w := by
  have htake : (wordOctets w).take 6 = wordOctets w := List.take_of_length_le (length_wordOctets w).le
  rw [octetsWord, htake, wordOctets, List.reverse_reverse, wordBe, beNat_beOctets]
  exact BitVec.eq_of_toNat_eq ((BitVec.toNat_ofNat ..).trans (by rw [Nat.mod_mod_of_dvd _ (by decide), Nat.mod_eq_of_lt w.isLt]))

/-! ## Octets after a store -/

theorem lt_octetRange {p a n : Nat} (h : a ∈ octetRange p n) : p ≤ a := by
  induction n generalizing p with
  | zero => exact absurd h List.not_mem_nil
  | succ n ih =>
    rcases List.mem_cons.mp h with rfl | h
    · exact Nat.le_refl _
    · have hle := ih h
      unfold octNext at hle
      split at hle <;> omega

theorem notMem_octetRange_octNext (p n : Nat) : p ∉ octetRange (octNext p) n := fun h => by
  have hle := lt_octetRange h
  unfold octNext at hle
  split at hle <;> omega

/-- Octets just stored read as stored. -/
theorem memOctets_memStore (b : List Byte) (m : List Host.Cell) (p : Nat) : memOctets (memStore m p b) p b.length = b := by
  induction b generalizing m p with
  | nil => rfl
  | cons x rest ih =>
    rw [List.length_cons, memOctets, memStore, memGet_memStore_other _ _ _ _ (notMem_octetRange_octNext p _),
      memGet_memSet_same, ih]

theorem octetsWord_memOctets_memStore (m : List Host.Cell) (p : Nat) (w : Word) :
    octetsWord (memOctets (memStore m p (wordOctets w)) p 6) = w := by
  have h := memOctets_memStore (wordOctets w) m p
  rw [length_wordOctets] at h
  rw [h, octetsWord_wordOctets]

/-- The six octets of a word lie in its word address. -/
theorem div_eq_of_mem_octetRange {addr a : Nat} (h : a ∈ octetRange (addr * 8) 6) : a / 8 = addr := by
  simp only [octetRange, octNext, List.mem_cons, List.not_mem_nil, or_false] at h
  repeat' split at h
  all_goals omega

theorem memGet_memStore_word {addr a : Nat} (h : a / 8 ≠ addr) (m : List Host.Cell) (w : Word) :
    memGet (memStore m (addr * 8) (wordOctets w)) a = memGet m a :=
  memGet_memStore_other _ _ _ _ (fun hmem => h (div_eq_of_mem_octetRange (length_wordOctets w ▸ hmem)))

/-! ## Stores to SRAM (R437) -/

/-- A store that its checks admit changes no state before the write. -/
theorem State.checkAccess_write {s u : State} {p : Fin 4} {l : Level} {ptr : Word} {b : BusReply}
    (h : s.checkAccess p l ptr .write b = (u, none)) : u = s := by
  unfold State.checkAccess at h
  cases hg : gateOf p (ptr.toNat / 8) with
  | none => simp only [hg, Prod.mk.injEq, reduceCtorEq, and_false] at h
  | some g =>
    simp only [hg] at h
    split at h
    case isTrue hb => subst hb; cases h
    case isFalse =>
      split at h
      case h_1 => cases h
      case h_2 => exact (congrArg Prod.fst h).symm

/-- A store that answers a state has written the inserted word. -/
theorem State.storeAt_ok {s u : State} {p : Fin 4} {l : Level} {z : Size} {ptr v w : Word} {b : BusReply}
    (h : s.storeAt p l z ptr v b = .ok u w) :
    s.writeWord p l (ptr.toNat / 8) (z.insert ptr (s.underlying p (ptr.toNat / 8)) v) = some u := by
  unfold State.storeAt at h
  split at h
  case isTrue => cases h
  case isFalse =>
    split at h
    case h_1 => cases h
    case h_2 x hx =>
      obtain rfl := State.checkAccess_write hx
      dsimp only at h
      split at h
      case h_1 r hr => cases h; exact hr
      case h_2 => cases h

section SramStore

variable {s u : State} {p : Fin 4} {l : Level} {addr : Nat} {w : Word}

theorem State.writeWord_pair (h : addr < 0x40000) : s.writeWord p l addr w =
    some (s.onPair p (fun q => { q with mem := memStore q.mem (addr * 8) (wordOctets w) })) := if_pos h

theorem State.writeWord_commons (h : 0x40000 ≤ addr) (h' : addr < 0x400000) :
    s.writeWord p l addr w = some (s.setCommonsWord (addr * 8) w) :=
  (if_neg (Nat.not_lt.mpr h)).trans (if_pos h')

theorem State.writeWord_readOnly (h : 0x400000 ≤ addr) (h' : addr < 0x1000000) : s.writeWord p l addr w = some s :=
  (if_neg (by omega)).trans ((if_neg (by omega)).trans (if_pos h'))

/-- A write below the register space leaves every octet outside its word. -/
theorem State.sameMemoryExcept_of_writeWord (h : addr < 0x1000000) (hw : s.writeWord p l addr w = some u) :
    sameMemoryExcept s u p addr := by
  rcases Nat.lt_or_ge addr 0x40000 with hpair | hpair
  · rw [State.writeWord_pair hpair, Option.some.injEq] at hw
    subst hw
    refine ⟨fun a ha => ⟨?_, rfl⟩, fun o ho => congrArg Pair.mem (State.onPair_other s p o _ (Ne.symm ho))⟩
    rw [State.onPair_same]
    exact memGet_memStore_word ha _ w
  rcases Nat.lt_or_ge addr 0x400000 with hcommons | hcommons
  · rw [State.writeWord_commons hpair hcommons, Option.some.injEq] at hw
    subst hw
    exact ⟨fun a ha => ⟨rfl, memGet_memStore_word ha _ w⟩, fun _ _ => rfl⟩
  · rw [State.writeWord_readOnly hcommons h, Option.some.injEq] at hw
    subst hw
    exact ⟨fun _ _ => ⟨rfl, rfl⟩, fun _ _ => rfl⟩

end SramStore

/-- Settles O53: a store writes the inserted word at its address, and a write of a word leaves every other octet. -/
theorem storesChangeTheirWord : Obligations.StoresChangeTheirWord := by
  intro s u p l z ptr v w b haddr hstore
  have hwrite := State.storeAt_ok hstore
  refine ⟨State.sameMemoryExcept_of_writeWord haddr hwrite, fun hpair => ?_⟩
  rw [State.writeWord_pair hpair, Option.some.injEq] at hwrite
  subst hwrite
  rw [State.onPair_same, octetsWord_memOctets_memStore, State.underlying, if_pos hpair]

end Sys2Proof.Machine

/-! SUPPORT. The system group, gate calls, returns from exceptions and interrupts, by their admitted and refused cases
(R430, R436, R454, R462 to R475). -/

namespace Sys2Proof.Machine

section System

variable {s : State} {p : Fin 4} {n : BitVec 8}

/-! ## BRK, WAIT and RSSPILL (R436, R454, R463) -/

theorem exec_opBrk (h : s.Issues p 1 .plain) : exec (.opBrk p n) s = .next (s.breakpoint p n.toNat s.pairs[p].branch) :=
  congrArg Host.Outcome.next (State.issue_of_placed h rfl)

theorem exec_opWait (h : s.Issues p 1 .plain) : exec (.opWait p) s =
    .next ((s.complete p 1 s.pairs[p].branch).onPair p (fun r => { r with waiting := r.firstAdmitted.isNone })) :=
  congrArg Host.Outcome.next (State.issue_of_placed h rfl)

theorem exec_opRsspill_of_empty (h : s.Issues p 1 .plain) {l : Level} (hm : s.pairs[p].level = .monitor)
    (hl : Level.ofNum (n.toNat % 4) = some l) (he : s.pairs[p].stack[l.idx] = []) :
    exec (.opRsspill p n) s = .next (s.complete p 1 s.pairs[p].branch) :=
  congrArg Host.Outcome.next (State.issue_of_done h (by
    simp only [State.spillBody, hm, ne_eq, not_true_eq_false, if_false, hl, he, List.length_nil, if_true]))

theorem exec_opRsspill_of_spilled (h : s.Issues p 1 .plain) {l : Level} {r : Pair} (hm : s.pairs[p].level = .monitor)
    (hl : Level.ofNum (n.toNat % 4) = some l) (he : s.pairs[p].stack[l.idx] ≠ [])
    (hs : s.pairs[p].spillTo l s.pairs[p].stack[l.idx].length = .ok r) :
    exec (.opRsspill p n) s = .next (s.afterOp p 1 (r.perf 8 1)) := by
  have hlen : s.pairs[p].stack[l.idx].length ≠ 0 := fun h => he (List.eq_nil_of_length_eq_zero h)
  exact congrArg Host.Outcome.next (State.issue_of_done h (by
    simp only [State.spillBody, hm, ne_eq, not_true_eq_false, if_false, hl, if_neg hlen, hs]))

/-! ## SYS (R472, R473) -/

theorem exec_opSys_of_absent (h : s.Issues p 1 .control) (hn : s.pairs[p].gtcount.toNat ≤ n.toNat) :
    exec (.opSys p n) s = .next (s.takeFault p (privilegeTrap n.toNat)) :=
  congrArg Host.Outcome.next (State.issue_of_trap h (if_pos (.inl hn)))

theorem exec_opSys_of_admitted (h : s.Issues p 1 .control) {k : Fin 3} (hk : k = 1 ∨ k = 2)
    (hn : n.toNat < s.pairs[p].gtcount.toNat) (ht : bitsOf (s.pairs[p].gateEntry n.toNat) 47 46 = k.val)
    (hle : s.pairs[p].level.num ≤ k.val) (hmin : bitsOf (s.pairs[p].gateEntry n.toNat) 45 44 ≤ s.pairs[p].level.num)
    (harg : s.badArgument p (s.pairs[p].gateEntry n.toNat) = none) :
    exec (.opSys p n) s = .next ((s.retire p).enterException p
      { cause := 0x0A, sub := n.toNat, detail := 0, pointer := s.pairs[p].ip + 1, ds := false,
        target := if k = 1 then .supervisor else .monitor, ml := none,
        gate := some (s.pairs[p].gateEntry n.toNat &&& 0x3FFFFFF) }) := by
  have hnotRefused : ¬ (s.pairs[p].gtcount.toNat ≤ n.toNat ∨ k.val = 0 ∨ k.val = 3 ∨ k.val < s.pairs[p].level.num ∨
      s.pairs[p].level.num < bitsOf (s.pairs[p].gateEntry n.toNat) 45 44) := by
    rcases hk with rfl | rfl
    all_goals simp only [Fin.val_one, Fin.val_two] at hle ⊢; omega
  have htarget : (if k.val = 1 then Level.supervisor else .monitor) = if k = 1 then .supervisor else .monitor := by
    rcases hk with rfl | rfl <;> rfl
  exact congrArg Host.Outcome.next (State.issue_of_placed h (by
    simp only [State.sysBody, ht, if_neg hnotRefused, harg, htarget]))

/-! ## ERET (R467) -/

theorem exec_opEret_of_frame (h : s.Issues p 1 .control) {x u : State} {r r' : Pair} {w sp : Word} {f : List Word}
    (hx : x = s.onPair p Pair.flush) (hr : r = x.pairs[p]) (hd : ¬ (r.level = .monitor ∧ r.doubleFault = true))
    (hpop : r.popEntry r.level = .ok (w, r')) (hkind : entryKind w = 1)
    (hread : (x.onPair p (fun _ => r')).readFrame p r.level 10 (r.g15[r.level.idx]) = .ok (u, f))
    (hlevel : bitsOf (f.getD 0 0) 31 30 ≤ bitsOf w 45 44) (hframe : frameAdmitted r.level (f.getD 0 0) = true)
    (hsp : optrAdd r.g15[r.level.idx] 60 = some sp) :
    exec (.opEret p) s =
      .next ((u.onPair p (fun q => { q with g15 := q.g15.set r.level.idx sp }.restore f)).retire p) := by
  subst hr hx
  have hkind' : ¬ entryKind w ≠ 1 := not_not.mpr hkind
  exact congrArg Host.Outcome.next (State.issue_of_placed h (by
    simp only [State.eretBody, if_neg hd, hpop, if_neg hkind', hread, if_pos (And.intro hlevel hframe), hsp]))

/-! ## Illegal instructions and interrupts (R430, R475) -/

theorem exec_illegalInstruction {a b : BitVec 24} (hab : illegalParcels a b = true) (h : s.Issues p (parcelCount a) .plain) :
    exec (.illegalInstruction p a b) s = .next (s.takeFault p illegalTrap) :=
  congrArg Host.Outcome.next ((if_pos hab).trans (State.issue_of_trap h rfl))

theorem exec_interrupt_of_stopped (h : s.runs p = false) : exec (.interrupt p) s = .next s :=
  congrArg Host.Outcome.next (if_pos (by rw [h]; rfl))

theorem exec_interrupt_of_none (h : s.runs p = true) (hk : s.pairs[p].interruptDue = none) :
    exec (.interrupt p) s = .next s := by
  simp only [exec, execInterrupt, State.takeInterrupt, h, Bool.not_true, Bool.false_eq_true, if_false, hk]

theorem exec_interrupt_of_due (h : s.runs p = true) {k : Nat} (hk : s.pairs[p].interruptDue = some k) :
    exec (.interrupt p) s = .next ((s.drawFree.2.onPair p (fun q =>
      if q.waiting then (q.perf 0x0E s.drawFree.1.toNat).perf 0x0A 1 else q.perf 0x0A 1)).enterException p
        { cause := 0x10 + k, sub := k, detail := 0, pointer := s.pairs[p].ip, ds := false, target := sourceTarget k,
          ml := some (BitVec.ofNat 3 (s.pairs[p].priority k)), gate := none }) := by
  simp only [exec, execInterrupt, State.takeInterrupt, h, Bool.not_true, Bool.false_eq_true, if_false, hk]

end System

/-- Settles O54: each command's admitted and refused cases. -/
theorem systemInstructionsAndEntries : Obligations.SystemInstructionsAndEntries := by
  intro s p n q
  refine ⟨fun h => ⟨exec_opBrk h, exec_opWait h, fun l hm hl => ?spill⟩, fun h => ⟨?sys, ?eret⟩, ?illegal, ?stopped, ?interrupt⟩
  case spill => exact ⟨exec_opRsspill_of_empty h hm hl, fun r he hs => exec_opRsspill_of_spilled h hm hl he hs⟩
  case sys =>
    rintro e rfl
    exact ⟨exec_opSys_of_absent h, fun k hk hn ht hle hmin harg => exec_opSys_of_admitted h hk hn ht hle hmin harg⟩
  case eret =>
    exact fun x r w r' u f sp hx hr hd hpop hkind hread hlevel hframe hsp =>
      exec_opEret_of_frame h hx hr hd hpop hkind hread hlevel hframe hsp
  case illegal => exact fun a b hab h => exec_illegalInstruction hab h
  case stopped => exact exec_interrupt_of_stopped
  case interrupt => exact fun h => ⟨fun k hk => exec_interrupt_of_due h hk, exec_interrupt_of_none h⟩

end Sys2Proof.Machine

/-! SUPPORT. What a completed instruction leaves of its pair and of the rest of the block (R420, R421, R440, R487). -/

namespace Sys2Proof.Machine

/-! ## What the registers' machinery keeps of a pair -/

/-- The parts of a pair that neither a register's value nor a counter of R487 is, and every interrupt but 11. -/
structure Pair.KeepsControl (q r : Pair) : Prop where
  ip : r.ip = q.ip
  mem : r.mem = q.mem
  fetched : r.fetched = q.fetched
  level : r.level = q.level
  stack : r.stack = q.stack
  rsp : r.rsp = q.rsp
  dsl : r.dsl = q.dsl
  branch : r.branch = q.branch
  doubleFault : r.doubleFault = q.doubleFault
  ipend : ∀ k : Fin 16, k ≠ 11 → r.ipend.getLsbD k.val = q.ipend.getLsbD k.val

theorem Pair.KeepsControl.refl (q : Pair) : q.KeepsControl q := ⟨rfl, rfl, rfl, rfl, rfl, rfl, rfl, rfl, rfl, fun _ _ => rfl⟩

theorem Pair.KeepsControl.trans {q r u : Pair} (h : q.KeepsControl r) (k : r.KeepsControl u) : q.KeepsControl u :=
  ⟨k.ip.trans h.ip, k.mem.trans h.mem, k.fetched.trans h.fetched, k.level.trans h.level, k.stack.trans h.stack,
    k.rsp.trans h.rsp, k.dsl.trans h.dsl, k.branch.trans h.branch, k.doubleFault.trans h.doubleFault,
    fun i hi => (k.ipend i hi).trans (h.ipend i hi)⟩

/-- A register that takes a value changes the pair's registers alone. -/
theorem Pair.store_eq (t : Target) (l : Level) (v : Word) (q : Pair) :
    ∃ g g15 cy mh ls le lc setLevel ml, q.store t l v = { q with g, g15, cy, mh, ls, le, lc, setLevel, ml } := by
  cases t with
  | g n =>
    simp only [Pair.store]
    split
    · exact ⟨_, _, _, _, _, _, _, _, _, rfl⟩
    · split <;> exact ⟨_, _, _, _, _, _, _, _, _, rfl⟩
  | _ => exact ⟨_, _, _, _, _, _, _, _, _, rfl⟩

theorem Pair.keepsControl_store (t : Target) (l : Level) (v : Word) (q : Pair) : q.KeepsControl (q.store t l v) := by
  obtain ⟨g, g15, cy, mh, ls, le, lc, setLevel, ml, h⟩ := Pair.store_eq t l v q
  rw [h]
  exact ⟨rfl, rfl, rfl, rfl, rfl, rfl, rfl, rfl, rfl, fun _ _ => rfl⟩

/-- A general register that takes a value leaves every other kind of register. -/
theorem Pair.store_g_eq (n : Fin 16) (l : Level) (v : Word) (q : Pair) :
    ∃ g g15, q.store (.g n) l v = { q with g, g15 } := by
  simp only [Pair.store]
  split
  · exact ⟨_, _, rfl⟩
  · split <;> exact ⟨_, _, rfl⟩

theorem Pair.reg_store_same (n : Fin 16) (v : Word) (q : Pair) :
    (q.store (.g n) q.level v).reg n = if n = 0 then 0 else v := by
  by_cases hzero : n = 0
  · simp [Pair.reg, hzero]
  · by_cases h : n.val < 15 <;> simp [Pair.store, Pair.reg, hzero, h]

theorem Pair.reg_store_other {t : Target} {n : Fin 16} (h : t ≠ .g n) (l : Level) (v : Word) (q : Pair) :
    (q.store t l v).reg n = q.reg n := by
  cases t with
  | g m =>
    have hmn : m.val ≠ n.val := fun e => h (congrArg Target.g (Fin.ext e))
    by_cases hzero : m = 0
    · simp [Pair.store, hzero]
    · by_cases hm : m.val < 15 <;> by_cases hn : n.val < 15 <;> simp [Pair.store, Pair.reg, hzero, hm, hn, hmn]
      omega
  | _ => rfl

/-! ## Writes in flight (R440, R441) -/

/-- One write in flight, as an instruction executes. -/
def advanceOne (acc : List InFlight × Pair) (e : InFlight) : List InFlight × Pair :=
  if e.left ≤ 1 then (acc.1.filter (fun x => !x.same e), acc.2.store e.target e.level e.value)
  else (acc.1 ++ [{ e with left := e.left - 1 }], acc.2)

theorem Pair.advance_eq (q : Pair) :
    q.advance = { (q.inFlight.foldl advanceOne ([], q)).2 with inFlight := (q.inFlight.foldl advanceOne ([], q)).1 } := rfl

theorem keepsControl_advanceOne (acc : List InFlight × Pair) (e : InFlight) : acc.2.KeepsControl (advanceOne acc e).2 := by
  unfold advanceOne
  split
  · exact Pair.keepsControl_store ..
  · exact .refl _

theorem keepsControl_foldl_advanceOne (l : List InFlight) (acc : List InFlight × Pair) :
    acc.2.KeepsControl (l.foldl advanceOne acc).2 := by
  induction l generalizing acc with
  | nil => exact .refl _
  | cons e rest ih => exact (keepsControl_advanceOne acc e).trans (ih _)

theorem reg_foldl_advanceOne {n : Fin 16} (l : List InFlight) (h : ∀ e ∈ l, e.target ≠ .g n) (acc : List InFlight × Pair) :
    (l.foldl advanceOne acc).2.reg n = acc.2.reg n := by
  induction l generalizing acc with
  | nil => rfl
  | cons e rest ih =>
    have hone : (advanceOne acc e).2.reg n = acc.2.reg n := by
      unfold advanceOne
      split
      · exact Pair.reg_store_other (h e List.mem_cons_self) ..
      · rfl
    rw [List.foldl_cons, ih (fun x hx => h x (List.mem_cons_of_mem _ hx)), hone]

theorem Pair.keepsControl_advance (q : Pair) : q.KeepsControl q.advance := by
  have h := keepsControl_foldl_advanceOne q.inFlight ([], q)
  exact ⟨h.ip, h.mem, h.fetched, h.level, h.stack, h.rsp, h.dsl, h.branch, h.doubleFault, h.ipend⟩

/-- The pair as its earlier writes in flight leave it, before the last one, a general register's at distance 1. -/
theorem Pair.advance_write (q : Pair) (rd : Fin 16) (v : Word) :
    (q.write rd v).advance =
      { (q.inFlight.foldl advanceOne ([], q.write rd v)).2.store (.g rd) q.level v with
        inFlight := (q.inFlight.foldl advanceOne ([], q.write rd v)).1.filter (fun x =>
          !x.same { target := .g rd, level := q.level, value := v, left := 1 }) } := by
  have hlist : (q.write rd v).inFlight = q.inFlight ++ [{ target := .g rd, level := q.level, value := v, left := 1 }] := rfl
  rw [Pair.advance_eq, hlist, List.foldl_append]
  rfl

/-- The next instruction reads the value just written. -/
theorem Pair.reg_advance_write_same (q : Pair) (rd : Fin 16) (v : Word) :
    (q.write rd v).advance.reg rd = if rd = 0 then 0 else v := by
  have hlevel : (q.inFlight.foldl advanceOne ([], q.write rd v)).2.level = q.level :=
    (keepsControl_foldl_advanceOne q.inFlight ([], q.write rd v)).level
  rw [Pair.advance_write, ← hlevel]
  exact Pair.reg_store_same ..

/-- A register that no write in flight names reads as before. -/
theorem Pair.reg_advance_write_other {q : Pair} {rd r : Fin 16} (v : Word) (hr : r ≠ rd) (hq : q.quiet r) :
    (q.write rd v).advance.reg r = q.reg r := by
  have htarget : Target.g rd ≠ .g r := fun e => hr (Target.g.inj e).symm
  calc (q.write rd v).advance.reg r
      = ((q.inFlight.foldl advanceOne ([], q.write rd v)).2.store (.g rd) q.level v).reg r := by rw [Pair.advance_write]; rfl
    _ = (q.inFlight.foldl advanceOne ([], q.write rd v)).2.reg r := Pair.reg_store_other htarget ..
    _ = q.reg r := reg_foldl_advanceOne q.inFlight hq ([], q.write rd v)

/-- With no other write in flight, the registers that are not general ones stay. -/
theorem Pair.advance_write_of_empty {q : Pair} (h : q.inFlight = []) (rd : Fin 16) (v : Word) :
    ∃ g g15, (q.write rd v).advance = { q with g, g15, inFlight := [] } := by
  obtain ⟨g, g15, hstore⟩ := Pair.store_g_eq rd q.level v (q.write rd v)
  refine ⟨g, g15, ?_⟩
  rw [Pair.advance_write, h]
  simp only [List.foldl_nil, List.filter_nil, hstore]
  rfl

/-! ## Performance counters and completion (R448, R487) -/

/-- A counted event changes the counters, their overflow bits and interrupt 11. -/
theorem Pair.perf_eq (e n : Nat) (q : Pair) : ∃ pc pcovf ipend, q.perf e n = { q with pc, pcovf, ipend } ∧
    ∀ k : Fin 16, k ≠ 11 → ipend.getLsbD k.val = q.ipend.getLsbD k.val := by
  unfold Pair.perf Pair.overflowRaise
  dsimp only
  split
  · refine ⟨_, _, _, rfl, fun k hk => ?_⟩
    have hbit : (1#16 <<< 11).getLsbD k.val = false := by
      revert k
      decide
    rw [BitVec.getLsbD_or, hbit, Bool.or_false]
  · exact ⟨_, _, _, rfl, fun _ _ => rfl⟩

theorem Pair.perf_perf_eq (e n e' n' : Nat) (q : Pair) : ∃ pc pcovf ipend,
    (q.perf e n).perf e' n' = { q with pc, pcovf, ipend } ∧
    ∀ k : Fin 16, k ≠ 11 → ipend.getLsbD k.val = q.ipend.getLsbD k.val := by
  obtain ⟨pc, pcovf, ipend, hperf, hpend⟩ := Pair.perf_eq e n q
  obtain ⟨pc', pcovf', ipend', hperf', hpend'⟩ := Pair.perf_eq e' n' { q with pc, pcovf, ipend }
  exact ⟨pc', pcovf', ipend', by rw [hperf, hperf'], fun k hk => (hpend' k hk).trans (hpend k hk)⟩

/-- A pair that retires an instruction is the one that advanced, with its counters and interrupt 11 as the count leaves them. -/
theorem State.pair_retire (s : State) (p : Fin 4) : ∃ pcins pccyc pc pcovf ipend,
    (s.retire p).pairs[p] = { (s.pairs[p]).advance with pcins, pccyc, pc, pcovf, ipend, waiting := false } ∧
    ∀ k : Fin 16, k ≠ 11 → ipend.getLsbD k.val = (s.pairs[p]).advance.ipend.getLsbD k.val := by
  have hpair : (s.retire p).pairs[p] = _ := State.onPair_same s.drawFree.2 p _
  obtain ⟨pc, pcovf, ipend, hperf, hpend⟩ := Pair.perf_perf_eq 2 1 1 s.drawFree.1.toNat { s.pairs[p].advance with
    pcins := s.pairs[p].advance.pcins + 1, pccyc := s.pairs[p].advance.pccyc + s.drawFree.1, waiting := false }
  exact ⟨s.pairs[p].advance.pcins + 1, s.pairs[p].advance.pccyc + s.drawFree.1, pc, pcovf, ipend, hpair.trans hperf, hpend⟩

theorem State.pair_retire_other (s : State) {p o : Fin 4} (h : o ≠ p) : (s.retire p).pairs[o] = s.pairs[o] :=
  State.onPair_other s.drawFree.2 p o _ (Ne.symm h)

theorem Pair.nextInSequence_of_noLoop {q : Pair} (n : Nat) (h0 : q.atLoopEnd 0 = false) (h1 : q.atLoopEnd 1 = false) :
    q.nextInSequence n = { q with ip := q.ip + BitVec.ofNat 48 n } := by
  simp [Pair.nextInSequence, h0, h1]

/-- An update reads the pair that it finds alone. -/
theorem State.onPair_congr {s : State} {p : Fin 4} {f g : Pair → Pair} (h : f s.pairs[p] = g s.pairs[p]) :
    s.onPair p f = s.onPair p g := by
  rw [State.onPair, State.onPair, h]

/-- Outside delay slots and loop ends an instruction goes on behind its parcels. -/
theorem State.complete_in_sequence {s : State} {p : Fin 4} (n : Nat) (hb : s.pairs[p].branch = none)
    (h0 : s.pairs[p].atLoopEnd 0 = false) (h1 : s.pairs[p].atLoopEnd 1 = false) :
    s.complete p n none = (s.onPair p (fun q => { q with ip := q.ip + BitVec.ofNat 48 n })).retire p := by
  have hnext := Pair.nextInSequence_of_noLoop n h0 h1
  rw [State.complete]
  exact congrArg (State.retire p) (State.onPair_congr (by
    simp only [hb, Option.isSome_none, Bool.false_eq_true, if_false, hnext]))

/-! ## The frame of AND, OR, XOR, ANDN and MOVI -/

/-- The state after an instruction that writes one general register at distance 1, in sequence. -/
theorem State.afterOp_write {s : State} {p : Fin 4} (n : Nat) (rd : Fin 16) (v : Word) (hb : s.pairs[p].branch = none)
    (h0 : s.pairs[p].atLoopEnd 0 = false) (h1 : s.pairs[p].atLoopEnd 1 = false) :
    s.afterOp p n (s.pairs[p].write rd v) =
      (s.onPair p (fun q => { q with ip := q.ip + BitVec.ofNat 48 n }.write rd v)).retire p := by
  rw [State.afterOp, hb, State.complete_in_sequence, State.onPair_onPair]
  · rfl
  all_goals rw [State.onPair_same]
  · exact hb
  · exact h0
  · exact h1

/-- A pair moved on by n parcels, with rd written at distance 1 and every write in flight advanced. -/
def Pair.afterWrite (q : Pair) (n : Nat) (rd : Fin 16) (v : Word) : Pair :=
  ({ q with ip := q.ip + BitVec.ofNat 48 n }.write rd v).advance

section AfterWrite

variable {q u : Pair} {n : Nat} {rd : Fin 16} {v : Word} {pcins pccyc : Word} {pc : Vector Word 4} {pcovf : BitVec 4}
  {ipend : BitVec 16}

theorem Pair.keepsControl_afterWrite :
    ({ q with ip := q.ip + BitVec.ofNat 48 n } : Pair).KeepsControl (q.afterWrite n rd v) := by
  have h := Pair.keepsControl_advance ({ q with ip := q.ip + BitVec.ofNat 48 n }.write rd v)
  exact ⟨h.ip, h.mem, h.fetched, h.level, h.stack, h.rsp, h.dsl, h.branch, h.doubleFault, h.ipend⟩

theorem Pair.reg_afterWrite_same : (q.afterWrite n rd v).reg rd = if rd = 0 then 0 else v := Pair.reg_advance_write_same ..

theorem Pair.reg_afterWrite_other {r : Fin 16} (hr : r ≠ rd) (hq : q.quiet r) : (q.afterWrite n rd v).reg r = q.reg r :=
  Pair.reg_advance_write_other (q := { q with ip := q.ip + BitVec.ofNat 48 n }) v hr hq

theorem Pair.afterWrite_of_empty (h : q.inFlight = []) :
    ∃ g g15, q.afterWrite n rd v = { q with ip := q.ip + BitVec.ofNat 48 n, g, g15, inFlight := [] } :=
  Pair.advance_write_of_empty (q := { q with ip := q.ip + BitVec.ofNat 48 n }) h rd v

/-- The pair's own part of the frame, once the instruction is counted. -/
theorem Pair.frame_afterWrite (hb : q.branch = none)
    (hu : u = { q.afterWrite n rd v with pcins, pccyc, pc, pcovf, ipend, waiting := false })
    (hpend : ∀ k : Fin 16, k ≠ 11 → ipend.getLsbD k.val = (q.afterWrite n rd v).ipend.getLsbD k.val) (r : Fin 16) :
    u.ip = q.ip + BitVec.ofNat 48 n ∧ u.reg rd = (if rd = 0 then 0 else v) ∧ (r ≠ rd → q.quiet r → u.reg r = q.reg r) ∧
    u.mem = q.mem ∧ u.fetched = q.fetched ∧ u.level = q.level ∧ u.stack = q.stack ∧ u.rsp = q.rsp ∧ u.dsl = q.dsl ∧
    u.branch = none ∧ u.waiting = false ∧ (∀ k : Fin 16, k ≠ 11 → u.ipend.getLsbD k.val = q.ipend.getLsbD k.val) ∧
    u.doubleFault = q.doubleFault ∧
    (q.inFlight = [] → u.cy = q.cy ∧ u.mh = q.mh ∧ u.ls = q.ls ∧ u.le = q.le ∧ u.lc = q.lc ∧ u.ml = q.ml ∧
      u.inFlight = []) := by
  subst hu
  have hkeeps := Pair.keepsControl_afterWrite (q := q) (n := n) (rd := rd) (v := v)
  refine ⟨hkeeps.ip, Pair.reg_afterWrite_same, Pair.reg_afterWrite_other, hkeeps.mem, hkeeps.fetched, hkeeps.level,
    hkeeps.stack, hkeeps.rsp, hkeeps.dsl, hkeeps.branch.trans hb, rfl, fun k hk => (hpend k hk).trans (hkeeps.ipend k hk),
    hkeeps.doubleFault, fun hempty => ?_⟩
  obtain ⟨g, g15, h⟩ := Pair.afterWrite_of_empty (n := n) (rd := rd) (v := v) hempty
  exact ⟨(congrArg Pair.cy h :), (congrArg Pair.mh h :), (congrArg Pair.ls h :), (congrArg Pair.le h :), (congrArg Pair.lc h :),
    (congrArg Pair.ml h :), (congrArg Pair.inFlight h :)⟩

end AfterWrite

/-- Settles O50: the pair's writes in flight advance, with the new one the last of them, and only the pair is touched. -/
theorem registerInstructionsKeepTheRest : Obligations.RegisterInstructionsKeepTheRest := by
  intro s t p o rd ra rb r mv i n v q hmem hissue hb h0 h1 hexec u
  have hleaves : Leaves s p i n (q.write rd v) := by
    simp only [List.mem_cons, List.not_mem_nil, or_false, Prod.mk.injEq] at hmem
    rcases hmem with ⟨rfl, rfl, rfl⟩ | ⟨rfl, rfl, rfl⟩ | ⟨rfl, rfl, rfl⟩ | ⟨rfl, rfl, rfl⟩ | ⟨rfl, rfl, rfl⟩ <;>
      exact ⟨_, rfl, rfl⟩
  rw [exec_of_leaves hleaves hissue, State.afterOp_write n rd v hb h0 h1, Host.Outcome.next.injEq] at hexec
  obtain ⟨pcins, pccyc, pc, pcovf, ipend, hpair, hpend⟩ :=
    State.pair_retire (s.onPair p (fun q => { q with ip := q.ip + BitVec.ofNat 48 n }.write rd v)) p
  rw [hexec, State.onPair_same] at hpair
  rw [State.onPair_same] at hpend
  have hother : o ≠ p → t.pairs[o] = s.pairs[o] := fun ho =>
    hexec ▸ (State.pair_retire_other _ ho).trans (State.onPair_other s p o _ (Ne.symm ho))
  obtain ⟨ip, same, other, mem, fetched, level, stack, rsp, dsl, branch, waiting, pend, fault, empty⟩ :=
    Pair.frame_afterWrite hb hpair hpend r
  refine ⟨ip, same, other, mem, fetched, level, stack, rsp, dsl, branch, waiting, pend, fault, empty, hother, ?_⟩
  rw [← hexec]
  exact ⟨rfl, rfl, rfl, rfl, rfl, rfl, rfl, rfl⟩

end Sys2Proof.Machine

/-! SUPPORT. Alarm sources, a ledger commit, the registers of a ring, and the SPDM responder (R217 to R219, R234, R255, R391). -/

namespace Sys2Proof.Machine

/-! ## Alarm sources (R391) -/

section Source

variable (s : State) (n : Nat)

theorem State.source_onSource_same (f : Source → Source) : (s.onSource n f).source n = f (s.source n) := by
  simp [State.source, State.onSource, kupd]

theorem State.source_onSource_other (f : Source → Source) {m : Nat} (h : m ≠ n) : (s.onSource n f).source m = s.source m := by
  simp only [State.source, State.onSource, State.onTamper_tamper, kupd, kget_kset_other _ _ _ _ (Ne.symm h)]

@[simp] theorem State.source_arise (source response : Nat) (raised : Bool) (detail : Word) :
    (s.arise source response raised detail).source n = s.source n := rfl

@[simp] theorem State.source_bumpWord (key k i c : Nat) : (s.bumpWord key k i c).source n = s.source n := rfl

@[simp] theorem State.source_onPower (f : Power → Power) : (s.onPower f).source n = s.source n := rfl

@[simp] theorem State.source_respond (m r : Nat) : (s.respond m r).source n = s.source n := by
  unfold State.source State.respond State.onTamper
  dsimp only
  split <;> rfl

/-- The state of the sources after a raising: only the one that was not raised changes. -/
theorem State.source_raiseSource (m : Nat) (d : Word) (h : (s.source n).raised = false) :
    (s.raiseSource n d).source m = (s.onSource n (fun x => { x with raised := true })).source m := by
  simp only [State.raiseSource, h, Bool.false_eq_true, if_false, State.source_respond, State.source_arise, State.source_bumpWord]
  split <;> rfl

theorem State.raiseSource_of_raised (d : Word) (h : (s.source n).raised = true) : s.raiseSource n d = s := if_pos h

theorem State.clearSource_of_cleared (d : Word) (h : (s.source n).raised = false) : s.clearSource n d = s :=
  if_neg (by rw [h]; decide)

theorem State.source_clearSource (m : Nat) (d : Word) (h : (s.source n).raised = true) :
    (s.clearSource n d).source m = (s.onSource n (fun x => { x with raised := false })).source m := by
  rw [State.clearSource, if_pos h, State.source_arise]

end Source

/-- Settles O42: by whether the source stands raised. -/
theorem raisingIsOncePerRaise : Obligations.RaisingIsOncePerRaise := by
  intro s n m d
  refine ⟨State.raiseSource_of_raised s n d, State.clearSource_of_cleared s n d, ?_⟩
  cases h : (s.source n).raised with
  | true =>
    simp only [State.raiseSource_of_raised s n d h, State.source_clearSource s n _ d h, State.source_onSource_same]
    exact ⟨h, trivial, fun hm => ⟨trivial, State.source_onSource_other s n _ hm⟩⟩
  | false =>
    simp only [State.clearSource_of_cleared s n d h, State.source_raiseSource s n _ d h, State.source_onSource_same]
    exact ⟨trivial, h, fun hm => ⟨State.source_onSource_other s n _ hm, trivial⟩⟩

/-! ## The commit of a ledger record (R234) -/

/-- Programming a word of flash changes the flash alone. -/
theorem State.programWord_eq (b off : Nat) (w : Word) (s : State) : ∃ flash, s.programWord b off w = { s with flash } := by
  unfold State.programWord
  split
  · exact ⟨_, rfl⟩
  · split
    · exact ⟨_, rfl⟩
    · exact ⟨_, rfl⟩

theorem State.programRing_eq (q : Nat) (e : Nat × Word) (s : State) : ∃ flash, s.programRing q e = { s with flash } := by
  unfold State.programRing
  dsimp only
  split
  · obtain ⟨flash, h⟩ := State.programWord_eq 1 (e.1 - 1) (BitVec.ofNat 48 q) s
    obtain ⟨flash', h'⟩ := State.programWord_eq 1 e.1 e.2 { s with flash }
    exact ⟨flash', by rw [h, h']⟩
  · exact State.programWord_eq 1 e.1 e.2 s

/-- Settles O33: the commit word changes the flash alone, and the rest is one update of the ledger. -/
theorem commitMovesTheLedgerOn : Obligations.CommitMovesTheLedgerOn := by
  intro s a t
  obtain ⟨flash, hring⟩ := State.programRing_eq a.sequence
    (commitAt (a.start.getD s.ledger.head) a.record.length, BitVec.ofNat 48 a.sequence) s
  have htail : s.ledger.records ≠ [] → t.ledger.tail = s.ledger.tail := fun hne => by
    have hempty : s.ledger.records.isEmpty = false := by simpa using hne
    simp only [t, State.commitState, hring, State.onLedger_ledger, hempty, Bool.false_eq_true, if_false]
  simp only [t, State.commitState, hring, State.onLedger_ledger] at htail ⊢
  exact ⟨trivial, trivial, trivial, trivial, ⟨_, rfl, rfl, rfl, rfl, rfl⟩, htail, rfl, rfl, rfl⟩

/-! ## Export rings (R255) -/

section Ring

variable {s : State} {r o : Fin 2}

theorem State.ring_onRing_same (f : ExportRing → ExportRing) : (s.onRing r f).ledger.rings[r] = f s.ledger.rings[r] := by
  simp [State.onRing]

theorem State.ring_onRing_other (f : ExportRing → ExportRing) (h : o ≠ r) :
    (s.onRing r f).ledger.rings[o] = s.ledger.rings[o] := by
  have hval : r.val ≠ o.val := fun e => h (Fin.ext e.symm)
  simp [State.onRing, hval]

/-- An update that leaves a ring as it is leaves the state. -/
theorem State.onRing_of_fixed {f : ExportRing → ExportRing} (h : f s.ledger.rings[r] = s.ledger.rings[r]) : s.onRing r f = s := by
  simp only [Fin.getElem_fin] at h
  simp [State.onRing, State.onLedger, h]

end Ring

/-- An enabled ring keeps every register but CTRL. -/
theorem ExportRing.write_of_enabled {x : ExportRing} (h : x.ctrl.getLsbD 0 = true) {reg : RingReg} (hr : reg ≠ .ctrl)
    (v : BitVec 32) : x.write reg v = x := by
  cases reg with
  | ctrl => exact absurd rfl hr
  | _ => simp only [ExportRing.write, h, if_true]

/-- Settles O34: a write goes to one ring, which its enable bit closes. -/
theorem ringRegistersLockWhileEnabled : Obligations.RingRegistersLockWhileEnabled := by
  intro s r o reg v hlive
  have hexec : exec (.ringCtrlWrite r reg v) s = .next (s.onRing r (ExportRing.write reg v)) :=
    congrArg Host.Outcome.next (State.whenLive_of_live s _ hlive)
  refine ⟨hexec, fun henabled hreg => ?locked, fun t ht => ⟨fun ho => ?other, fun hdisabled => ?written⟩⟩
  case locked => rw [hexec, State.onRing_of_fixed (ExportRing.write_of_enabled henabled hreg v)]
  case other =>
    rw [hexec, Host.Outcome.next.injEq] at ht
    rw [← ht, State.ring_onRing_other _ ho]
  case written =>
    rw [hexec, Host.Outcome.next.injEq] at ht
    rw [← ht, State.ring_onRing_same]
    refine ⟨?_, ?_, ?_⟩ <;> rintro rfl <;> simp only [ExportRing.write, hdisabled, Bool.false_eq_true, if_false]
    split <;> rfl

/-! ## The SPDM responder (R195, R217 to R219) -/

section Responder

variable {s : State} {port : SpdmPort} {req : List Byte} {f : State → State} {ok : SpdmConnection → Bool}

theorem State.whenResponds_of_restart (hl : s.live = true) (h : s.modes.hotRestart.isSome = true) :
    s.whenResponds port req f = s.spdmFails port req errorBusy := by
  rw [State.whenResponds, State.whenLive_of_live _ _ hl, if_pos h]

theorem State.whenResponds_of_silent (hl : s.live = true) (h : s.modes.hotRestart = none) (hm : s.modes.mode.responds = false) :
    s.whenResponds port req f = s.spdmFails port req errorUnspecified := by
  simp [State.whenResponds, State.whenLive_of_live _ _ hl, h, hm]

theorem State.whenResponds_of_responds (hl : s.live = true) (h : s.modes.hotRestart = none) (hm : s.modes.mode.responds = true) :
    s.whenResponds port req f = f s := by
  simp [State.whenResponds, State.whenLive_of_live _ _ hl, h, hm]

theorem State.whenConnected_of_ok (hl : s.live = true) (h : s.modes.hotRestart = none) (hm : s.modes.mode.responds = true)
    (hok : ok (s.connection port) = true) : s.whenConnected port req ok f = f s :=
  (State.whenResponds_of_responds hl h hm).trans (if_pos hok)

/-- The code of an error that precedes the look at a request. -/
theorem State.whenResponds_of_error {e : Byte} (hl : s.live = true) (he : (s.modes.hotRestart.isSome = true ∧ e = errorBusy) ∨
    (s.modes.hotRestart = none ∧ s.modes.mode.responds = false ∧ e = errorUnspecified)) :
    s.whenResponds port req f = s.spdmFails port req e := by
  rcases he with ⟨h, rfl⟩ | ⟨h, hm, rfl⟩
  · exact State.whenResponds_of_restart hl h
  · exact State.whenResponds_of_silent hl h hm

end Responder

/-- Settles O31: every request is looked at through `whenResponds`. -/
theorem spdmErrorsByMode : Obligations.SpdmErrorsByMode := by
  intro s port req asyms hashes slot i j b hlive e he t
  have hfails : ∀ f : State → State, Host.Outcome.next (s.whenResponds port req f) = (.next t : Host.Outcome State Fault Refusal) :=
    fun f => congrArg Host.Outcome.next (State.whenResponds_of_error hlive he)
  exact ⟨hfails _, hfails _, hfails _, hfails _, hfails _, hfails _, hfails _, hfails _, hfails _⟩

/-- Settles O30: each request at its point of the connection. -/
theorem spdmRequestsAreAnswered : Obligations.SpdmRequestsAreAnswered := by
  intro s port req hlive hrestart hmode
  have hresponds : ∀ f : State → State, s.whenResponds port req f = f s := fun f =>
    State.whenResponds_of_responds hlive hrestart hmode
  have hconnected : ∀ (ok : SpdmConnection → Bool) (f : State → State), ok (s.connection port) = true →
      s.whenConnected port req ok f = f s := fun ok f => State.whenConnected_of_ok hlive hrestart hmode
  refine ⟨?version, fun hc => ?capabilities, fun asyms hashes hc ha hh => ?algorithms, fun hc => ⟨?digests, fun offset len ho => ?portion,
    fun slot hs offset len => ?otherSlot, ?challenge, ?summary, ?count, ?all, fun i h1 h6 => ?block⟩, ?ready, ?unsupported, fun i => ?doe⟩
  case version => exact congrArg Host.Outcome.next (hresponds _)
  case capabilities => exact congrArg Host.Outcome.next (hconnected _ _ hc)
  case algorithms => simp only [exec, execNegotiateAlgorithms, hconnected _ _ hc, ha, hh, if_true, Bool.and_self]
  case digests => exact congrArg Host.Outcome.next (hconnected _ _ hc)
  case portion =>
    have hin : ((0 : Fin 8) != 0 || decide (s.certSlot.length < offset)) = false := by simpa using ho
    simp only [exec, execGetCertificate, hconnected _ _ hc, hin, Bool.false_eq_true, if_false]
  case otherSlot =>
    have hout : (slot != 0 || decide (s.certSlot.length < offset)) = true := by simp [hs]
    simp only [exec, execGetCertificate, hconnected _ _ hc, hout, if_true]
  case challenge => simp [exec, execChallenge, hconnected _ _ hc]
  case summary => simp [exec, execChallenge, hconnected _ _ hc]
  case count => simp [exec, execGetMeasurements, hconnected _ _ hc]
  case all => simp [exec, execGetMeasurements, hconnected _ _ hc]
  case block =>
    have hsome : (decide (6 < i) && i != 0xFF) = false := by simp; omega
    have hzero : i ≠ 0 := by omega
    have hff : i ≠ 0xFF := by omega
    simp only [exec, execGetMeasurements, hconnected _ _ hc, hsome, Bool.false_eq_true, if_false, if_neg hzero, if_neg hff, if_true]
  case ready => exact congrArg Host.Outcome.next (hresponds _)
  case unsupported => exact congrArg Host.Outcome.next (hresponds _)
  case doe => exact congrArg Host.Outcome.next (State.whenLive_of_live s _ hlive)

end Sys2Proof.Machine

/-! SUPPORT. Frames of the dictionary: reads, writes, command objects, aborts, sessions, mailbox slots, the field network and
publishing (R46, R47, R52 to R73, R376, R583, R608). -/

namespace Sys2Proof.Machine

/-! ## Received frames -/

section Received

variable {f : Frame} {s r : State} {a : Asker} {p : List Byte}

/-- An admitted write of a command object comes to the checks of its action. -/
theorem State.runCmd_eq_beginAction {key : Nat} {x : Action} {v : List Byte} (h : s.CmdAdmitted key f x a v r) :
    s.runCmd key f x = r.beginAction key f a v x := by
  obtain ⟨hkind, hkey, q, p, d, n, hreceive, htarget, hadmitted, hwhole, rfl⟩ := h
  simp [State.runCmd, hkind, hkey, hreceive, State.writeCmd, htarget, hadmitted, hwhole]

theorem State.runRead_of_received {mine : Nat → Bool} (hkind : f.kind = kindRead) (hmine : mine f.key = true)
    (h : s.receive f = (r, .request a p)) : s.runRead mine f = r.readRequest f a := by
  simp [State.runRead, hkind, hmine, h]

theorem State.runWrite_of_received {mine : Nat → Bool} {held : Option (Fin 32)} {bits : List Byte} (hkind : f.kind = kindWrite)
    (hmine : mine f.key = true) (h : (s.countFreezeWrite f).receive f = (r, .request a p)) :
    s.runWrite mine held bits f = r.writeRequest held bits f a p := by
  simp [State.runWrite, hkind, hmine, h]

/-- A write of 0x5100:13 that is no abort runs as a command object's. -/
theorem State.runWrite_rawCapture {bits : List Byte} (hkind : f.kind = kindWrite) (hkey : f.key = okey 0x5100 0x13)
    (hsub : f.sub ≠ 0xFE) : s.runWrite (fun k => k == okey 0x5100 0x13) none bits f =
      (s.countFreezeWrite f).runCmd (okey 0x5100 0x13) f (captureAction bits) := by
  cases hreceive : (s.countFreezeWrite f).receive f with
  | mk r receipt =>
    cases receipt with
    | ended => simp [State.runWrite, State.runCmd, hkind, hkey, hreceive]
    | request a p =>
      rw [State.runWrite_of_received hkind (by simp [hkey]) hreceive, State.writeRequest, if_neg hsub]
      simp [State.runCmd, hkind, hkey, hreceive]

theorem State.readRequest_of_admitted {d : Desc} {b : List Byte} (hd : s.readAdmitted a f.key = .ok d)
    (hb : s.readValue a d = .ok b) : s.readRequest f a =
      (if inSegments d then
        if b.length < f.offset.toNat then s.answer f offsetRange
        else
          let x := (b.drop f.offset.toNat).take (min f.length.toNat 1024)
          let e := f.offset.toNat + x.length
          (s.moveWindow a d.key e).answerAs kindResponse f codeOk x (e < b.length)
      else if f.offset != 0 then s.answer f offsetRange
      else if f.length.toNat < b.length then s.answer f typeMismatch
      else s.answer f codeOk b) := by
  simp only [State.readRequest, hd, State.answerRead, hb]

end Received

/-! ## Command objects (R46, R608) -/

section BeginAction

variable {key : Nat} {f : Frame} {a : Asker} {v : List Byte} {x : Action} {s : State}

theorem State.beginAction_of_busy (h : s.busy key = true) : s.beginAction key f a v x = s.answer f busyCode := if_pos h

theorem State.beginAction_of_contended (h : s.busy key = false) (ht : s.alreadyWritten key = true) :
    s.beginAction key f a v x = (s.bump (okey 0x1100 3)).answer f objectContended := by
  simp [State.beginAction, h, ht]

theorem State.beginAction_of_refused (h : s.busy key = false) (ht : s.alreadyWritten key = false) (hg : x.guard a v s ≠ 0) :
    s.beginAction key f a v x = s.answer f (x.guard a v s) := by
  simp [State.beginAction, h, ht, hg]

end BeginAction

/-- Settles O6: by the rows of `beginAction`. -/
theorem commandObjectsStartOrRefuse : Obligations.CommandObjectsStartOrRefuse := by
  refine ⟨fun c f key x s r a v hrow hadm hbusy htouch hguard => ?_, fun c f key x s r a v hrow hadm => ?_⟩
  · rw [exec_of_cmdRow c f key x s hrow, State.runCmd_of_admitted key f x s r a v hadm hbusy htouch hguard]
  · rw [exec_of_cmdRow c f key x s hrow, State.runCmd_eq_beginAction hadm]
    exact ⟨fun hbusy => by rw [State.beginAction_of_busy hbusy],
      fun hbusy htouch => by rw [State.beginAction_of_contended hbusy htouch],
      fun hbusy htouch hguard => by rw [State.beginAction_of_refused hbusy htouch hguard]⟩

/-- Settles O8: by the rows of R608, all of which the write passes. -/
theorem writesWaitForTheTick : Obligations.WritesWaitForTheTick := by
  intro c f mine held s r a p v d n hrow hkind hmine hsub hkey haction hreceive hadmitted hwhole hheld
  rw [exec_of_writeRow c f mine held s hrow, State.runWrite_of_received hkind hmine hreceive]
  simp only [State.writeRequest, if_neg hsub, if_neg hkey, haction, State.plainWrite, hadmitted, hwhole, hheld, Bool.false_and,
    Bool.false_eq_true, if_false]

/-- Settles O7: by whether the object is read in segments. -/
theorem readsReturnTheValue : Obligations.ReadsReturnTheValue := by
  intro f s r a p b d hkind hreceive hadmitted hvalue
  have hread (mine : Nat → Bool) (hmine : mine f.key = true) : s.runRead mine f = r.readRequest f a :=
    State.runRead_of_received hkind hmine hreceive
  have hown (h : ownRead f.key = false) : exec (.dexRead f) s = .next (r.readRequest f a) :=
    congrArg Host.Outcome.next (hread (fun k => !ownRead k) (by simp [h]))
  have hwindow (h : f.key = okey 0x3100 0x11) : exec (.windowRecordRead f) s = .next (r.readRequest f a) :=
    congrArg Host.Outcome.next (hread (fun k => k == okey 0x3100 0x11) (by simp [h]))
  have hevent (h : f.key = okey 0x6200 4) : exec (.eventWindowRead f) s = .next (r.readRequest f a) :=
    congrArg Host.Outcome.next (hread (fun k => k == okey 0x6200 4) (by simp [h]))
  have hanswer := State.readRequest_of_admitted hadmitted hvalue
  refine ⟨fun hplain hoffset hlength => ?_, fun hsegments hoffset => ?_⟩
  · simp only [hplain, hoffset, bne_self_eq_false, Nat.not_lt.mpr hlength, Bool.false_eq_true, if_false] at hanswer
    exact ⟨fun h => hanswer ▸ hown h, fun h => hanswer ▸ hwindow h, fun h => hanswer ▸ hevent h⟩
  · simp only [hsegments, Nat.not_lt.mpr hoffset, if_true, if_false] at hanswer
    exact ⟨fun h => hanswer ▸ hown h, fun h => hanswer ▸ hwindow h, fun h => hanswer ▸ hevent h⟩

/-! ## Aborts, captures, frames of forbidden kinds, FREEZE -/

theorem State.abortRequest_of_busy {f : Frame} {a : Asker} {s : State}
    (h : ((cmdsOf f.index.toNat).filter (fun d => s.busy d.key)).any (fun d => s.abortCode a d == 0) = true) :
    s.abortRequest f a = ((s.touch a f.key).answer f codeOk).abortIndex f.index.toNat := by
  have hbusy : ((cmdsOf f.index.toNat).filter (fun d => s.busy d.key)).isEmpty = false := by
    cases hf : (cmdsOf f.index.toNat).filter (fun d => s.busy d.key) with
    | nil => simp [hf] at h
    | cons => rfl
  have hall : (cmdsOf f.index.toNat).isEmpty = false := by
    cases hc : cmdsOf f.index.toNat with
    | nil => simp [hc] at h
    | cons => rfl
  simp only [State.abortRequest, hall, hbusy, Bool.false_eq_true, if_false, h, if_true]

theorem State.receive_of_forbidden {f : Frame} {s : State} (harrives : s.arrives f = true)
    (h : (f.kind == kindResponse || f.kind == kindPublished || f.kind == kindError) = true) :
    s.receive f = (s.dropFrame (okey 0x1100 4) f, .ended) := by
  simp only [State.receive, harrives, h, Bool.not_true, Bool.false_eq_true, if_false, if_true]

/-- Settles O9: each frame by its row. -/
theorem freezeAbortCaptureAndForbiddenFrames : Obligations.FreezeAbortCaptureAndForbiddenFrames := by
  refine ⟨fun f s r a p v bits => ⟨?abort, ?capture, ?forbidden⟩, ?freeze⟩
  case abort =>
    intro hkind hkey hsub hreceive hbusy
    exact congrArg Host.Outcome.next ((State.runWrite_of_received hkind (by simp [hkey]) hreceive).trans
      ((if_pos hsub).trans (State.abortRequest_of_busy hbusy)))
  case capture =>
    intro hadm hsub hbusy htouch
    obtain ⟨hkind, hkey, -⟩ := id hadm
    exact congrArg Host.Outcome.next ((State.runWrite_rawCapture hkind hkey hsub).trans
      (State.runCmd_of_admitted _ f (captureAction bits) _ r a v hadm hbusy htouch rfl))
  case forbidden =>
    intro harrives hkind
    have h : (f.kind == kindResponse || f.kind == kindPublished || f.kind == kindError) = true := by
      simpa [or_assoc] using hkind
    exact congrArg Host.Outcome.next ((if_pos h).trans (congrArg Prod.fst (State.receive_of_forbidden harrives h)))
  case freeze =>
    intro f s r a v hadm hbusy htouch hguard
    exact congrArg Host.Outcome.next (State.runCmd_of_admitted _ f freezeAction _ r a v hadm hbusy htouch hguard)

/-! ## Setups, elevation and the ends of sessions (R52 to R56, R62, R63, R612) -/

section Setups

variable {f : Frame} {s : State} {p b : List Byte}

theorem State.setupRequest_of_whole (htag : f.transport ≠ .tag) (hsub : f.sub = 1) (hindex : f.index = 0)
    (hblank : s.modes.mode ≠ .blank) (hrecover : s.modes.mode ≠ .recover) (hroom : s.setupsFull f.transport = false) :
    s.setupRequest f p = s.takeStep1 f p := by
  simp [State.setupRequest, htag, hsub, hindex, hblank, hrecover, hroom]

theorem State.takeStep1_of_whole
    (hb : b = (if f.offset = 0 then [] else ((s.dict.setups.find? (arriving f.transport)).map Setup.partialStep).getD []) ++ p)
    (hoffset : f.offset.toNat + p.length = b.length) (hlast : f.flags.getLsbD 1 = false) (hlength : b.length = step1Length) :
    s.takeStep1 f p = s.answerStep1 f b := by
  unfold State.takeStep1
  dsimp only
  rw [← hb, if_neg, if_neg (ne_true_of_eq_false hlast), if_neg (by simp [hlength])]
  have := congrArg List.length hb
  rw [List.length_append] at this
  have : f.offset.toNat = (if f.offset = 0 then [] else
    ((s.dict.setups.find? (arriving f.transport)).map Setup.partialStep).getD []).length := by omega
  simp only [← this, hlength, bne_self_eq_false, lt_irrefl, decide_false, Bool.or_false, Bool.false_eq_true, not_false_eq_true]

theorem State.takeStep3_of_granted {x : Setup} {secret : BitVec 512} {role : Role} {prov : Bool} (hsub : f.sub = 3)
    (hindex : f.index = 0) (hb : b = (if f.offset = 0 then [] else x.partialStep) ++ p)
    (hoffset : f.offset.toNat + p.length = b.length) (hshort : b.length ≤ 12288) (hlast : f.flags.getLsbD 1 = false)
    (hrole : s.grantedRole x b = some (role, prov)) : s.takeStep3 f x secret p = s.openSession f x secret role prov b := by
  unfold State.takeStep3
  dsimp only
  rw [← hb, if_neg (by simp [hsub, hindex, hoffset, Nat.not_lt.mpr hshort]), if_neg (ne_true_of_eq_false hlast), hrole]

theorem State.elevateRequest_of_session {a : Asker} {x : Session} (hx : a.session.bind s.session = some x)
    (hb : b = (if f.offset = 0 then [] else ((s.segment (elevateKey x.id)).map SegWrite.octets).getD []) ++ p)
    (hoffset : f.offset.toNat + p.length = b.length) : s.elevateRequest f a p =
      (if f.flags.getLsbD 1 then (s.keepSegment a (elevateKey x.id) b).answer f codeOk
       else (s.endSegment (elevateKey x.id)).elevateWith f x b) := by
  have hlength := congrArg List.length hb
  rw [List.length_append] at hlength
  have hbefore : f.offset.toNat =
    (if f.offset = 0 then [] else ((s.segment (elevateKey x.id)).map SegWrite.octets).getD []).length := by omega
  unfold State.elevateRequest
  rw [hx]
  dsimp only
  rw [← hb, if_neg (by simp only [← hbefore, bne_self_eq_false, Bool.false_eq_true, not_false_eq_true])]

end Setups

/-- Settles O10: by the rows of the two setup steps and of ELEVATE. -/
theorem setupAndElevationOpenSessions : Obligations.SetupAndElevationOpenSessions := by
  refine ⟨fun f s r a p b => ⟨?step1, ?step3⟩, ?elevate⟩
  case step1 =>
    intro hkind hsession hreceive htag hsub hindex hb hoffset hlast hblank hrecover hroom hlength
    simp only [exec, execSetupStep1, hkind, hsession, bne_self_eq_false, Option.isSome_none, Bool.or_self, Bool.false_eq_true,
      if_false, hreceive]
    rw [State.setupRequest_of_whole htag hsub hindex hblank hrecover hroom, State.takeStep1_of_whole hb hoffset hlast hlength]
  case step3 =>
    intro id x secret role prov hkind hsession hnone harrives hfind hsecret hopen hfresh hheader hrestart hsub hindex hb hoffset
      hshort hlast w y q hrole
    have hvalue : x.secret.getD 0 = secret := by rw [hsecret, Option.getD_some]
    simp only [exec, execSetupStep3, hsession, hkind, bne_self_eq_false, Bool.false_eq_true, if_false, hnone, Option.isSome_none,
      harrives, Bool.not_true, State.protectedSetup, hfind, hvalue, hopen, hfresh, hheader, State.onDict_dict, hrestart]
    exact congrArg Host.Outcome.next (State.takeStep3_of_granted (x := y) hsub hindex hb hoffset hshort hlast hrole)
  case elevate =>
    intro f s r a p b x hkind hreceive hx hb hoffset
    simp only [exec, execElevate, hkind, bne_self_eq_false, Bool.false_eq_true, if_false, hreceive,
      State.elevateRequest_of_session hx hb hoffset]
    exact ⟨fun hmore => by rw [if_pos hmore],
      fun e hlast helevators => by simp only [hlast, Bool.false_eq_true, if_false, State.elevateWith, helevators]⟩

/-- Settles O11. -/
theorem timeoutsEndSetupsSessionsAndSegments : Obligations.TimeoutsEndSetupsSessionsAndSegments := by
  intro s id index sub hlive
  refine ⟨congrArg Host.Outcome.next (State.whenLive_of_live s _ hlive), fun x hx hidle => ?_,
    congrArg Host.Outcome.next (State.whenLive_of_live s _ hlive)⟩
  refine congrArg Host.Outcome.next ((State.whenLive_of_live s _ hlive).trans ?_)
  simp only [hx, if_pos hidle]

/-! ## Mailbox slots, the field network, publishing (R66 to R73, R609) -/

theorem State.mailbox_onMailbox_fill_stat (s : State) (k : Fin 4) (b : List Byte) :
    (s.onMailbox k (Mailbox.fill b)).dict.mailbox[k].stat = s.dict.mailbox[k].stat := by
  simp only [State.onMailbox, State.onDict_dict, Mailbox.fill, Fin.getElem_fin, Vector.getElem_set_self]

/-- Settles O13: by the state of the slot. -/
theorem mailboxAndNetworkFollowTheirRules : Obligations.MailboxAndNetworkFollowTheirRules := by
  refine ⟨fun s k value buffer hlive => ?_, fun s why data => ⟨by cases why <;> rfl, fun hlive => ?_, fun b hlive hb => ?_⟩⟩
  · intro q
    refine ⟨fun hbit hfree => ?_, fun hbit hfree => ?_, fun hready => ?_, fun hother => ?_⟩ <;>
      refine congrArg Host.Outcome.next ((State.whenLive_of_live s _ hlive).trans ?_)
    · simp only [hbit, State.mailbox_onMailbox_fill_stat, hfree, Bool.not_true, Bool.false_eq_true, if_false, beq_self_eq_true,
        if_true]
      rfl
    · simp only [hbit, State.mailbox_onMailbox_fill_stat, beq_eq_false_iff_ne.mpr hfree, Bool.not_true, Bool.false_eq_true,
        if_false]
      rfl
    · exact if_pos ⟨rfl, hready⟩
    · exact if_neg (by tauto)
  · exact congrArg Host.Outcome.next (State.whenLive_of_live s _ hlive)
  · refine congrArg Host.Outcome.next ((State.whenLive_of_live s _ hlive).trans ?_)
    simp only [hb]
    rfl

theorem exec_publish_of_live {s : State} (who : Publisher) (hlive : s.live = true) :
    exec (.publish who) s = .next (if s.dict.restarting || s.modes.starting then s else s.publish who) :=
  congrArg Host.Outcome.next (State.whenLive_of_live s _ hlive)

/-- Settles O14: by the publisher and the destination it holds. -/
theorem subscriptionsArePublished : Obligations.SubscriptionsArePublished := by
  intro s hlive
  refine ⟨fun who hrestart => ?_, fun hrestart hstart => ⟨fun id x hx => ⟨fun hdest => ?_, fun hdest => ?_⟩, fun t => ?_⟩⟩
  · simp [exec_publish_of_live who hlive, hrestart]
  · simp only [exec_publish_of_live _ hlive, hrestart, hstart, Bool.or_self, Bool.false_eq_true, if_false, State.publish, hx,
      hdest, if_true]
  · simp only [exec_publish_of_live _ hlive, hrestart, hstart, Bool.or_self, Bool.false_eq_true, if_false, State.publish, hx,
      hdest, if_true, OfNat.ofNat_ne_one]
  · intro a hdest
    simp only [exec_publish_of_live _ hlive, hrestart, hstart, Bool.or_self, Bool.false_eq_true, if_false]
    exact congrArg Host.Outcome.next (if_pos hdest)

end Sys2Proof.Machine

/-! SUPPORT. Supplies, resets and modes; Gate's scan and the raw verdict; scrub, saves and functions; the emulated state of a host
port (R26 to R38, R83 to R116, R130 to R137, R157, R158, R587 to R601). -/

namespace Sys2Proof.Machine

/-- What a gated command answers while the device is live. -/
theorem next_whenLive {s t : State} {f : State → State} (hlive : s.live = true) (h : f s = t) :
    (Host.Outcome.next (s.whenLive f) : Host.Outcome State Fault Refusal) = .next t := by
  rw [State.whenLive_of_live s f hlive, h]

/-! ## Supplies -/

/-- What a start finds Busy of the vigil domain's own actions changes the dictionary alone. -/
theorem State.vigilBusy_eq (s : State) : ∃ d, s.vigilBusy = { s with dict := d } := by
  unfold State.vigilBusy
  split
  · exact ⟨s.dict, rfl⟩
  · dsimp only
    split <;> split <;> exact ⟨_, rfl⟩

section ClearDevice

variable (s : State) (vpea : Bool)

/-- A device cleared by a loss of power holds nothing in its hub, its entropy unit, its pairs and the commons. -/
theorem State.clearDevice_power : (s.clearDevice true vpea).hub = JobHub.initial ∧
    (s.clearDevice true vpea).ent = Entropy.initial ∧ (s.clearDevice true vpea).commons = [] ∧
    ∀ p : Fin 4, (s.clearDevice true vpea).pairs[p] = Pair.initial := by
  unfold State.clearDevice
  dsimp only
  obtain ⟨d, hd⟩ := State.vigilBusy_eq _
  rw [hd]
  refine ⟨rfl, rfl, rfl, fun p => ?_⟩
  simp only [Fin.getElem_fin, Vector.getElem_map, Bool.true_or, if_true]

/-- A loss of main power clears the device and releases every hold. -/
theorem State.powerLoss_of_power {s : State} (h : s.modes.mainPower = true) : ∃ q : State, s.powerLoss =
    (q.clearDevice true false).onModes (fun m =>
      { m with mode := .vigil, starting := false, mainPower := false, vio33 := false, pfail := false, holdMask := 0,
               holds := Vector.replicate 16 .hiZ, options := OptionInForce.none }) :=
  ⟨_, if_neg (by simp [h])⟩

end ClearDevice

/-- Settles O15: each supply by its row. -/
theorem suppliesDriveTheDevice : Obligations.SuppliesDriveTheDevice := by
  intro s env
  refine ⟨fun h => ?_, rfl, ⟨_, rfl, ?_⟩, fun h => ?_, fun hmain hpfail hfrozen => ?_, fun hmain hpfail hfrozen => ?_,
    fun hmain => ⟨_, rfl, ?_⟩, fun h => ⟨?_, ?_⟩⟩
  · exact congrArg Host.Outcome.next (if_neg (by simp [h]))
  · cases s.modes.mainPower with
    | false => exact ⟨rfl, rfl, fun h => absurd h Bool.false_ne_true, rfl, rfl⟩
    | true => exact ⟨rfl, rfl, fun _ => rfl, rfl, rfl⟩
  · exact congrArg Host.Outcome.next (if_neg (by simp [h]))
  · have hlive : (s.onModes (fun m => { m with pfail := true })).live = true := by simp [State.live, hmain, hfrozen]
    intro halted woken saved q
    have hexec : exec .pfailNFall s = .next s.pfailFall := rfl
    rw [hexec, State.pfailFall, if_neg (by simp [hmain, hpfail])]
    dsimp only
    rw [State.whenLive_of_live _ _ hlive]
  · have hlive : (s.onModes (fun m => { m with pfail := false })).live = true := by simp [State.live, hmain, hfrozen]
    exact (congrArg Host.Outcome.next (if_pos (by simp [hmain, hpfail]))).trans (next_whenLive hlive rfl)
  · obtain ⟨q, hq⟩ := State.powerLoss_of_power hmain
    obtain ⟨hhub, hent, hcommons, hpairs⟩ := State.clearDevice_power q false
    rw [hq]
    generalize q.clearDevice true false = r at hhub hent hcommons hpairs ⊢
    exact ⟨rfl, rfl, rfl, rfl, rfl, hcommons, hhub, hent, hpairs⟩
  · exact congrArg Host.Outcome.next (if_neg (by simp [h]))
  · exact congrArg Host.Outcome.next (if_neg (by simp [h]))

/-! ## Resets, restarts, board boot -/

/-- Settles O16: each row by its conditions. -/
theorem resetsRestartsAndBoardBoot : Obligations.ResetsRestartsAndBoardBoot := by
  refine ⟨fun s env hlive => ⟨fun hstart => ?_, fun hunlock => ?_, fun i b hrestart huds himage => ?_,
    fun i hrestart huds => ?_⟩, fun s hlive => ⟨?_, ?_, ?_, fun hperst hopt hserving hboot => ?_⟩⟩
  · intro q chosen
    exact next_whenLive hlive (if_neg (by simp [hstart]))
  · exact next_whenLive hlive (if_pos hunlock)
  · refine next_whenLive hlive ?_
    simp only [State.endHotRestart, hrestart, huds, himage, Bool.not_true, Bool.false_eq_true, if_false]
  · refine next_whenLive hlive ?_
    simp only [State.endHotRestart, hrestart, huds, Bool.not_false, if_true]
  · exact next_whenLive hlive rfl
  · exact next_whenLive hlive rfl
  · exact next_whenLive hlive rfl
  · refine next_whenLive hlive (if_pos ?_)
    rw [hperst, hopt, hserving, hboot]
    rfl

/-! ## Mode requests and limits (R83, R87) -/

/-- A row of R83 without refusal names a role that it admits, with a glove pair where it asks for one. -/
theorem requestCode_eq_zero {a : Asker} {row : Option (Bool × Bool)} (h : requestCode a row = 0) :
    ∃ operator glove, row = some (operator, glove) ∧ (a.role = .officer ∨ (operator = true ∧ a.role = .operator)) ∧
      (glove = true → a.glovePair = true) := by
  match row with
  | none =>
    have : transitionRefused = 0 := h
    exact absurd this (by decide)
  | some (operator, glove) =>
    refine ⟨operator, glove, rfl, ?_⟩
    have hcode : (if !(a.role == .officer || (operator && a.role == .operator)) then accessDenied
      else if glove && !a.glovePair then presenceRequired else 0) = 0 := h
    split at hcode
    · exact absurd hcode (by decide)
    · rename_i hrole
      split at hcode
      · exact absurd hcode (by decide)
      · rename_i hglove
        exact ⟨by simpa [or_iff_not_imp_left] using hrole, by simpa using hglove⟩

section Limits

variable {s : State}

theorem State.leaveForServe_of_busy (hmode : s.modes.mode = .maintain ∨ s.modes.mode = .ceremony) (h : s.operationBusy = true) :
    s.leaveForServe = s.onModes (fun m => { m with limitExpired := true }) := (if_pos hmode).trans (if_pos h)

theorem State.leaveForServe_of_idle (hmode : s.modes.mode = .maintain ∨ s.modes.mode = .ceremony) (h : s.operationBusy = false) :
    s.leaveForServe =
      (s.onModes (fun m => { m with mode := .serve, limitExpired := false })).confirmTrial.doneCmd (okey 0x1200 3) :=
  (if_pos hmode).trans ((if_neg (ne_true_of_eq_false h)).trans (if_pos hmode))

end Limits

/-- Settles O17: by the rows of R83 and the two limits. -/
theorem modeRequestsAndLimits : Obligations.ModeRequestsAndLimits := by
  refine ⟨fun s a b t ht => ⟨fun hcode => ?_, fun hcode hmode => ?_, fun hcode hforensic hlocked => ?_⟩, fun s hlive =>
    ⟨fun hmode hbusy => ?_, fun hmode hidle => ?_, fun hmode hbusy => ?_, fun hmode hidle => ?_, fun hmode => ?_, fun hmode => ?_⟩⟩
  · simp only [modeRequestAction, ht, bne_iff_ne, ne_eq, hcode, not_false_eq_true, if_true]
  · have hact : modeRequestAction.act a b s = (s.onModes (fun m => { m with mode := t, limitExpired := false }), .done) := by
      rcases hmode with rfl | rfl <;> simp only [modeRequestAction, ht, hcode, bne_self_eq_false, Bool.false_eq_true, if_false]
    obtain ⟨operator, glove, hrow, hrole, -⟩ := requestCode_eq_zero hcode
    rcases hmode with rfl | rfl <;> cases hm : s.modes.mode <;> simp only [hm, requestRow, reduceCtorEq] at hrow
    · cases hrow
      exact ⟨rfl, hrole.imp_right (fun h => ⟨rfl, h.2⟩), hact⟩
    · cases hrow
      exact ⟨rfl, .inl (hrole.resolve_right (fun h => Bool.false_ne_true h.1)), hact⟩
  · obtain ⟨operator, glove, hrow, hrole, hglove⟩ := requestCode_eq_zero hcode
    rw [hforensic, hlocked] at hrow
    cases hrow
    exact ⟨hrole.resolve_right (fun h => Bool.false_ne_true h.1), hglove rfl⟩
  · exact next_whenLive hlive ((if_pos hmode).trans (State.leaveForServe_of_busy (.inl hmode) hbusy))
  · exact next_whenLive hlive ((if_pos hmode).trans (State.leaveForServe_of_idle (.inl hmode) hidle))
  · exact next_whenLive hlive ((if_pos hmode).trans (State.leaveForServe_of_busy (.inr hmode) hbusy))
  · exact next_whenLive hlive ((if_pos hmode).trans (State.leaveForServe_of_idle (.inr hmode) hidle))
  · exact next_whenLive hlive (if_neg hmode)
  · exact next_whenLive hlive (if_neg hmode)

/-! ## Gate -/

/-- Settles O18: each row of the scan by its conditions. -/
theorem gateScansAChannel : Obligations.GateScansAChannel := by
  intro s n hlive
  refine ⟨fun k q hpending hkeys hdraw => next_whenLive hlive ?_, fun hgate hon => ⟨fun cs r hinit => ⟨fun hq => ?_, fun hq => ?_⟩,
    fun hundecided => ?_⟩, fun r d b hscan hgate hphase hready => ⟨fun h0 h1 hb hroom hbase hpinned => ?_, fun hretries => ?_,
    fun hretries => ?_⟩⟩
  · simp only [State.tryGate, hpending, hkeys, bne_self_eq_false, Bool.not_true, Bool.or_self, Bool.false_eq_true, if_false, hdraw]
  · exact next_whenLive hlive ((if_neg (by simp [hgate, hon, hinit])).trans (if_neg (ne_true_of_eq_false hq)))
  · exact next_whenLive hlive ((if_neg (by simp [hgate, hon, hinit])).trans (if_pos hq))
  · refine next_whenLive hlive (if_neg ?_)
    simp only [Fin.getElem_fin] at hundecided ⊢
    rw [hgate, hon, hundecided]
    decide
  · refine next_whenLive hlive ?_
    have hempty : b.isEmpty = false := by simpa using hb
    simp only [State.prescan, hscan, hgate, hphase, h0, h1, hready, hempty, Nat.not_lt.mpr hroom, hbase, hpinned, decide_true,
      decide_false, bne_self_eq_false, Bool.not_true, Bool.or_self, Bool.false_eq_true, if_false]
  · refine next_whenLive hlive ?_
    simp only [State.prescanStall, hscan, hgate, hphase, hready, decide_true, bne_self_eq_false, Bool.not_true, Bool.or_self,
      Bool.false_eq_true, if_false, ge_iff_le, Nat.not_le.mpr hretries]
  · refine next_whenLive hlive ?_
    simp only [State.prescanStall, hscan, hgate, hphase, hready, decide_true, bne_self_eq_false, Bool.not_true, Bool.or_self,
      Bool.false_eq_true, if_false, ge_iff_le, hretries, if_true]

/-- Settles O19: by the rows of the verdict. -/
theorem rawVerdictsFollowTheManifest : Obligations.RawVerdictsFollowTheManifest := by
  intro s n r d
  refine ⟨fun h => if_pos h, fun h hpolicy => (if_neg (ne_true_of_eq_false h)).trans (if_pos hpolicy), fun h hpolicy => ?_⟩
  have hentry : s.rawVerdict n r d =
      (match s.manifestEntry n d with | none => 4 | some e => if e.digest = (s.region n r).digest then 1 else 3) :=
    (if_neg (ne_true_of_eq_false h)).trans (if_neg hpolicy)
  refine ⟨fun hnone => ?_, fun e he => ⟨fun hdigest => ?_, fun hdigest => ?_⟩⟩
  · rw [hentry, hnone]
  · rw [hentry, he]
    exact if_pos hdigest
  · rw [hentry, he]
    exact if_neg hdigest

/-! ## Scrub, keys, saves, functions -/

theorem State.reckon_now (s : State) : s.reckon.now = s.now := by
  unfold State.reckon
  split <;> rfl

/-- Settles O21: each row by its conditions. -/
theorem scrubKeysSavesAndFunctions : Obligations.ScrubKeysSavesAndFunctions := by
  refine ⟨fun s m hlive => ⟨fun hclass => ⟨?_, ?_, ?_, ?_⟩, fun hdelivered => ?_, ?_⟩, fun s i hlive => ⟨fun h => ?_, fun h => ?_,
    fun h => ?_, fun h => ?_⟩⟩
  · exact next_whenLive hlive (if_neg (Nat.not_lt.mpr hclass))
  · exact next_whenLive hlive (if_neg (Nat.not_lt.mpr hclass))
  · exact next_whenLive hlive (if_neg (Nat.not_lt.mpr hclass))
  · exact next_whenLive hlive (if_neg (Nat.not_lt.mpr hclass))
  · exact next_whenLive hlive (if_pos hdelivered)
  · rw [State.reckon_now]
    exact next_whenLive hlive rfl
  · exact next_whenLive hlive (if_neg (by simp [h]))
  · exact next_whenLive hlive (if_pos (by simpa using h))
  · exact next_whenLive hlive (if_neg (by simp [h]))
  · exact next_whenLive hlive (if_pos (by simpa using h))

/-! ## Host ports (R157, R158) -/

section Emu

variable (s : State) (n : Fin 12) (cs : Fin 2)

theorem State.onEmu_onEmu (f g : EmuDevice → EmuDevice) :
    (s.onEmu n cs f).onEmu n cs g = s.onEmu n cs (fun e => g (f e)) := by
  simp only [State.onEmu, State.onChan, Fin.getElem_fin, Vector.getElem_set_self, Vector.set_set]

end Emu

/-- Settles O22: each command by its effect on the emulated device. -/
theorem hostCommandsKeepEmulatedState : Obligations.HostCommandsKeepEmulatedState := by
  intro s n cs hlive hanswers hawake
  have hcommand (op : Nat) (f : State → State) {g : EmuDevice → EmuDevice} (hf : f s = s.onEmu n cs g) :
      (Host.Outcome.next (s.hostCommand n cs op f) : Host.Outcome State Fault Refusal) =
        .next (s.onEmu n cs (fun e => { g e with resetArmed := op == 0x66 })) := by
    rw [State.hostCommand_of_answers n cs op f s hlive hanswers hawake, hf, State.onEmu_onEmu]
  refine ⟨hcommand _ _ rfl, hcommand _ _ rfl, hcommand _ _ rfl, hcommand _ _ rfl, hcommand _ _ rfl, ?_, fun harmed => ?_,
    fun data hdata hlatch hmasks => ?_⟩
  · exact congrArg Host.Outcome.next (State.hostCommand_of_answers n cs _ _ s hlive hanswers hawake)
  · exact hcommand 0x99 _ (if_pos harmed)
  · refine hcommand 0x8D _ (if_pos ⟨?_, hlatch, hmasks⟩)
    exact hdata.imp (fun h => by rw [h]; rfl) (fun h => by rw [h]; rfl)

end Sys2Proof.Machine

/-! SUPPORT. Channels while they serve, fill-ins and training, attestation slots (R153 to R180, R201 to R208). -/

namespace Sys2Proof.Machine

/-! ## Channels while they serve -/

section Retrain

variable {s : State} {n : Fin 12} {cs : Fin 2} {taps : List Bool} {tapSize : Nat}

theorem State.retrain_of_powerFail (h : s.modes.pfail = true) : s.retrain n cs taps tapSize = s := if_pos (by simp [h])

/-- A training of a ready flash on a serving channel acts by the width of its window. -/
theorem State.retrain_of_serving (hserving : s.modes.mode.serving = true) (hphase : s.chans[n].phase = 5)
    (hready : s.chans[n].flash[cs].ready = true) (hpfail : s.modes.pfail = false) : s.retrain n cs taps tapSize =
      if (dqsWindow taps).2 < 8 then s.flashFaulty n cs 2
      else (s.trained n cs (moveDelay s.chans[n].flash[cs].delay (dqsWindow taps).1) (dqsWindow taps).2 tapSize).marginLow n
        cs.val (dqsWindow taps).2 := by
  refine if_neg ?_
  rw [hserving, hphase, hready, hpfail]
  decide

end Retrain

/-- A reload of a region that awaits one acts by the digest of its content. -/
theorem State.reloadComplete_of_reloading {s : State} {n : Fin 12} {r : Nat} {d : RegionDef} {b : List Byte}
    (hserving : s.modes.mode.serving = true) (hd : s.regionDef n r = some d) (hreloading : (s.region n r).reloading = true) :
    s.reloadComplete n r b =
      if regionHash d.digest b = (s.region n r).digest then
        (s.closeStream n).onRegion n r (fun x =>
          { x with reloading := false, pinned := b, fromCommons := x.verdict != 7 && x.verdict != 8 })
      else
        ((s.closeStream n).onRegion n r (fun x => { x with reloading := false, reloadFailed := true })).event (0x40 + n.val)
          (detailOf 6 (r * 2 ^ 32)) := by
  simp only [State.reloadComplete, hd, hreloading, hserving, Bool.not_true, Bool.or_self, Bool.false_eq_true, if_false]

/-- A serving mode takes its channels from the options in force, not from the dictionary. -/
theorem State.chanDesc_of_serving {s t : State} (hmodes : t.modes = s.modes) (h : s.modes.mode.serving = true) (n : Fin 12) :
    t.chanDesc n = s.chanDesc n := by
  have hpass : s.modes.mode.passThrough = false := by
    cases hm : s.modes.mode <;> simp [hm, Mode.serving, Mode.passThrough] at h ⊢
  simp only [State.chanDesc, State.chanConfig, hmodes, hpass, Bool.false_eq_true, if_false]

/-- Settles O25: each row by its conditions. -/
theorem channelEventsWhileServing : Obligations.ChannelEventsWhileServing := by
  intro s n cs hlive
  refine ⟨fun hport => ?_, fun kHz hanswers hfast => ?_, ?_, fun hpfail r b => ?_, fun hpfail taps tapSize => ?_,
    fun hserving => ⟨fun r d b hpfail hd hreloading => ⟨fun hdigest => ?_, fun hdigest => ?_⟩,
      fun taps tapSize hpfail hphase hready => ⟨fun hwide => ?_, fun hnarrow => ?_⟩, fun hon hphase => ?_⟩, fun r0 r1 hphase => ?_⟩
  · exact next_whenLive hlive (if_pos (by simp [hport]))
  · exact next_whenLive hlive (if_pos ⟨hanswers, hfast⟩)
  · exact next_whenLive hlive rfl
  · exact next_whenLive hlive (if_pos hpfail)
  · exact next_whenLive hlive (State.retrain_of_powerFail hpfail)
  · exact next_whenLive hlive ((if_neg (ne_true_of_eq_false hpfail)).trans
      ((State.reloadComplete_of_reloading hserving hd hreloading).trans (if_pos hdigest)))
  · exact next_whenLive hlive ((if_neg (ne_true_of_eq_false hpfail)).trans
      ((State.reloadComplete_of_reloading hserving hd hreloading).trans (if_neg hdigest)))
  · exact next_whenLive hlive ((State.retrain_of_serving hserving hphase hready hpfail).trans (if_neg (Nat.not_lt.mpr hwide)))
  · exact next_whenLive hlive ((State.retrain_of_serving hserving hphase hready hpfail).trans (if_pos hnarrow))
  · refine next_whenLive hlive (if_neg ?_)
    have hmode : (s.bumpBy (ckey 2 n 8) 24 1).modes = s.modes := rfl
    have hdesc : ((s.bumpBy (ckey 2 n 8) 24 1).chanDesc n) = s.chanDesc n := State.chanDesc_of_serving hmode hserving n
    have hchan : (s.bumpBy (ckey 2 n 8) 24 1).chans = s.chans := rfl
    rw [hdesc, hmode, hchan, hserving, hon, beq_eq_false_iff_ne.mpr hphase]
    decide
  · exact next_whenLive hlive (if_neg (by rw [hphase]; decide))

/-! ## Fill-ins and age visits -/

/-- A training moves a delay toward its centre by at most two taps and never past it. -/
theorem moveDelay_bounds (delay centre : Nat) : moveDelay delay centre ≤ delay + 2 ∧ delay ≤ moveDelay delay centre + 2 ∧
    (delay ≤ centre → delay ≤ moveDelay delay centre ∧ moveDelay delay centre ≤ centre) ∧
    (centre ≤ delay → centre ≤ moveDelay delay centre ∧ moveDelay delay centre ≤ delay) := by
  unfold moveDelay
  split
  · omega
  · split <;> omega

/-- Settles O27: each row by its conditions, and the move of a delay by its cases. -/
theorem fillInsTrainingAndAgeVisits : Obligations.FillInsTrainingAndAgeVisits := by
  refine ⟨fun s n hlive hpfail b => ?_, fun s n hlive hserving => ⟨fun e rest k b hpfail hfill hkey hlength => ?_, ?_⟩,
    moveDelay_bounds⟩
  · exact next_whenLive hlive (if_neg (by simp [hpfail]))
  · refine next_whenLive hlive ((if_pos (by simp [hpfail, hserving])).trans ?_)
    simp only [State.fillIn, hfill, hkey, hlength, bne_self_eq_false, Bool.false_eq_true, if_false]
  · exact next_whenLive hlive (if_pos hserving)

/-! ## Attestation -/

/-- Settles O28: each row by its conditions. -/
theorem discoveryAddressesTheDevices : Obligations.DiscoveryAddressesTheDevices := by
  intro s hlive
  refine ⟨fun found hgate hfresh hphase => ?_, fun hgate => ?_, fun identity => ?_, fun eid => ?_, fun k hvalid hpcie hfound => ?_⟩
  · exact next_whenLive hlive (if_neg (by simp [hgate, hfresh, hphase]))
  · exact next_whenLive hlive (if_pos hgate)
  · exact next_whenLive hlive rfl
  · exact next_whenLive hlive rfl
  · exact next_whenLive hlive (if_pos (by simp [hvalid, hpcie, hfound]))

section SlotReply

variable {s : State} {k : Nat} {w : SpdmAwait} {before octets : List Byte}

/-- A reply whose octets the transcript takes is a reply to the request that awaits it. -/
theorem State.spdmReply_of_noted {y : Responder} {reply : SpdmReply} (hawait : (s.responder k).await = some w)
    (hnoted : (s.responder k).noted octets = some y) (hwaiting : (s.responder k).waiting = none) :
    s.spdmReply k reply octets =
      (s.onSlot k (fun _ => y)).slotReply k w (s.responder k).transcript octets reply := by
  simp only [State.spdmReply, hawait, hnoted, hwaiting, Option.isSome_none, Bool.false_eq_true, if_false]

/-- Every request may be answered Busy. -/
theorem State.slotReply_busy : s.slotReply k w before octets .busy =
    if (s.responder k).busyWaits < 3 then
      s.onSlot k (fun x => { x with waiting := some none, busyWaits := x.busyWaits + 1 })
    else s.endSlot k 4 := by
  cases w <;> rfl

end SlotReply

/-- Settles O29: each row by its conditions. -/
theorem slotsFollowTheirExchange : Obligations.SlotsFollowTheirExchange := by
  refine ⟨fun s k octets w y hlive hawait hnoted hwaiting => ?_, fun s k hlive => ⟨fun hbusy hwaiting =>
    ⟨fun hresends => ?_, fun hresends => ?_⟩, fun hwaiting => ?_, fun r hwaiting => ?_, fun hphase hbusy => ?_, fun hphase => ?_,
    fun hphase => ⟨?_, ?_⟩⟩⟩
  · intro q
    have hreply (reply : SpdmReply) : exec (.spdmResponse k reply octets) s =
        .next (q.slotReply k.val w (s.responder k.val).transcript octets reply) :=
      next_whenLive hlive (State.spdmReply_of_noted hawait hnoted hwaiting)
    refine ⟨fun hw => ?_, fun hw => ?_, fun hwaits => ?_, fun hwaits => ?_⟩
    · rw [hreply, hw]; rfl
    · rw [hreply, hw]; rfl
    · rw [hreply, State.slotReply_busy, if_pos hwaits]
    · rw [hreply, State.slotReply_busy, if_neg (Nat.not_lt.mpr hwaits)]
  · refine next_whenLive hlive ?_
    simp only [State.spdmTimeout, hbusy, hwaiting, hresends, Bool.not_true, Option.isSome_none, Bool.or_self, Bool.false_eq_true,
      if_false, if_true]
  · refine next_whenLive hlive ?_
    simp only [State.spdmTimeout, hbusy, hwaiting, Nat.not_lt.mpr hresends, Bool.not_true, Option.isSome_none, Bool.or_self,
      Bool.false_eq_true, if_false]
  · refine next_whenLive hlive ?_
    simp only [State.spdmRetry, hwaiting]
  · refine next_whenLive hlive ?_
    simp only [State.spdmRetry, hwaiting]
  · exact next_whenLive hlive (if_pos ⟨hphase, hbusy⟩)
  · exact next_whenLive hlive (if_pos hphase)
  · exact next_whenLive hlive (if_neg (fun h => hphase h.1))
  · exact next_whenLive hlive (if_neg hphase)

end Sys2Proof.Machine

/-! SUPPORT. The ledger's appends, the hub's own moves, faults and self-tests of instances, key windows, the entropy queue (R226 to
R248, R274 to R291, R311 to R341, R358 to R375). -/

namespace Sys2Proof.Machine

/-! ## The boot ledger -/

section LedgerCommit

variable {s : State} {a : Append}

/-- The commit word of a programmed append commits its record. -/
theorem State.ledgerCommit_of_programmed (happend : s.ledger.append = some a) (hstage : a.stage = .programmed) :
    s.ledgerCommit true =
      let q := ((if a.request.kind = .rollover then (s.commitState a).commitRollover a
        else if a.request.kind = .supplement then (s.commitState a).commitSupplement a else s.commitState a).watchHighWater)
      if a.rest.isEmpty then q.endAppendCmd a.request cmdDone 0 else q.furtherSupplement a := by
  simp only [State.ledgerCommit, happend, hstage, bne_self_eq_false, Bool.not_true, Bool.false_eq_true, if_false]

end LedgerCommit

/-- Settles O32: each row by the stage of the append. -/
theorem ledgerStepsFollowTheAppend : Obligations.LedgerStepsFollowTheAppend := by
  intro s hlive
  refine ⟨fun t ht hdue => ?_, fun hperiod hdue => ?_, fun k => ?_, fun a happend => ⟨fun hstage => ?_, fun hstage hroom => ?_,
    fun hstage => ⟨?_, fun hrest hkind => ?_, fun hrest hkind => ?_⟩⟩, fun x hx hmay => ?_⟩
  · refine next_whenLive hlive ?_
    simp only [ht, if_pos hdue]
  · exact next_whenLive hlive (if_neg (by omega))
  · exact next_whenLive hlive rfl
  · refine next_whenLive hlive (congrArg State.afterAppend ?_)
    simp only [State.roomAvailable, happend, hstage]
  · refine next_whenLive hlive (congrArg State.afterAppend ?_)
    simp only [State.roomAvailable, happend, hstage, hroom, if_true]
  · refine next_whenLive hlive (congrArg State.afterAppend ?_)
    simp only [State.ledgerCommit, happend, hstage, bne_self_eq_false, Bool.not_false, Bool.false_eq_true, if_false, if_true]
  · refine next_whenLive hlive (congrArg State.afterAppend ((State.ledgerCommit_of_programmed happend hstage).trans ?_))
    simp only [hkind, hrest, List.isEmpty_nil, reduceCtorEq, if_false, if_true]
  · refine next_whenLive hlive (congrArg State.afterAppend ((State.ledgerCommit_of_programmed happend hstage).trans ?_))
    simp only [hkind, hrest, List.isEmpty_nil, if_true]
  · refine next_whenLive hlive ?_
    simp only [State.preEraseLedger, hx, hmay, if_true]

/-! ## The job hub -/

/-- A map over the values of a sparse map is read value by value. -/
theorem kget_map_values {α β : Type} (f : α → β) (m : KMap α) (q : Nat) :
    kget (m.map (fun e => (e.1, f e.2))) q = (kget m q).map f := by
  induction m with
  | nil => rfl
  | cons e rest ih =>
    obtain ⟨k, v⟩ := e
    by_cases h : k = q
    · simp [kget, h]
    · simp [kget, h, ih]

/-- Aging counts one period for a job that waits for a place. -/
def Job.age (j : Job) : Job := if j.st.placeable then { j with aged := j.aged + 1 } else j

theorem exec_urgencyAging {s : State} (hlive : s.live = true) : exec .urgencyAging s = .next (s.onHub (fun h =>
    { h with slots := h.slots.map (fun e => (e.1, Job.age e.2)) })) := next_whenLive hlive rfl

/-- Settles O37: each move by its conditions. -/
theorem hubPlacesAndEndsJobs : Obligations.HubPlacesAndEndsJobs := by
  intro s slot hlive
  refine ⟨fun p x j hpfail hpair hbest => ?_, fun cls hcls => ?_, fun r hstale => ?_,
    fun r j hstale hjob hrunning hcls hstream hplace hepoch => ?_, fun j key octets hjob hkey hmay hboundary => ?_,
    fun t ht n => ?_, exec_urgencyAging hlive, fun j hjob hrunning hcls => ?_, fun j hjob hcls haborting => ?_, ?_⟩
  · refine next_whenLive hlive ?_
    change State.placeJob 5 s = _
    simp only [State.placeJob, hpfail, hpair, hbest, Bool.false_eq_true, if_false, if_true]
  · have hne : cls.val ≠ 5 := fun h => hcls (Fin.ext h)
    refine ⟨fun hpfail => next_whenLive hlive (if_pos hpfail), fun code x j hpfail hcode hbest => next_whenLive hlive ?_⟩
    simp only [State.placeJob, hpfail, hne, hcode, hbest, Bool.false_eq_true, if_false]
  · exact next_whenLive hlive (if_pos hstale)
  · refine next_whenLive hlive ?_
    simp only [State.engineDone, hstale, Bool.false_eq_true, if_false, hjob]
    exact if_pos ⟨hrunning, hcls, hstream, hplace, hepoch⟩
  · refine next_whenLive hlive ?_
    simp only [State.suspendJob, hjob, hkey, hmay, hboundary, Bool.and_self, if_true]
  · cases (exec_urgencyAging hlive).symm.trans ht
    exact kget_map_values Job.age s.hub.slots n
  · refine next_whenLive hlive ?_
    simp only [hjob]
    exact if_pos ⟨hrunning, hcls⟩
  · refine next_whenLive hlive ?_
    simp only [hjob]
    exact if_pos ⟨hcls, haborting⟩
  · exact next_whenLive hlive rfl

/-! ## Lanes and units -/

/-- Settles O38: each row by whether the lane or unit is in service, worn, or due for its test. -/
theorem faultsAndSelfTestsOfInstances : Obligations.FaultsAndSelfTestsOfInstances := by
  intro s i u hlive
  refine ⟨fun hservice hstreams => ?_, fun hdue hstreams => ⟨?_, ?_⟩, fun hservice => ?_, fun hdue => ⟨?_, ?_⟩, fun hdue b => ?_,
    fun hservice => ?_⟩
  · intro q hworn
    refine next_whenLive hlive ((if_neg (by simp [hservice])).trans ?_)
    rw [hstreams]
    exact if_neg (ne_true_of_eq_false hworn)
  · refine next_whenLive hlive ?_
    simp only [State.laneTested, hdue, hstreams, List.isEmpty_nil, Bool.not_true, Bool.false_and, Bool.or_self, Bool.false_eq_true,
      if_false, if_true]
  · refine next_whenLive hlive ?_
    simp only [State.laneTested, hdue, hstreams, List.isEmpty_nil, Bool.not_true, Bool.false_and, Bool.or_self, Bool.false_eq_true,
      if_false]
    rfl
  · intro q
    refine ⟨fun hworn => ?_, fun hworn => ?_⟩ <;> refine next_whenLive hlive ((if_neg (by simp [hservice])).trans ?_)
    · exact if_neg (ne_true_of_eq_false hworn)
    · exact if_pos hworn
  · exact next_whenLive hlive ((if_neg (by simp [hdue])).trans rfl)
  · exact next_whenLive hlive ((if_neg (by simp [hdue])).trans rfl)
  · exact next_whenLive hlive (if_pos (by simp [hdue]))
  · exact next_whenLive hlive (if_pos (by simp [hservice]))

/-! ## Key windows -/

theorem State.live_of_pairAt {s : State} {p : Fin 4} {l : Level} (h : s.pairAt p l = true) : s.live = true := by
  simp only [State.pairAt, State.runs, Bool.and_eq_true] at h
  tauto

section KeyGo

variable {s q : State} {g : KeyCmd} {p : Fin 4} {l : Level}

theorem State.kuGo_of_busy (h : s.keys.windows[windowIndex p l].st = .busy) :
    s.kuGo g p l = s.onKeyWindow p l (fun w => { w with code := commandBusy }) := if_pos h

variable (h : s.keys.windows[windowIndex p l].st ≠ .busy)
include h

theorem State.kuGo_of_done (hrun : s.runKeyCmd g p l s.keys.windows[windowIndex p l] = (q, .ends 0)) :
    s.kuGo g p l = q.endKeyCommand p l .done 0 := by
  rw [State.kuGo, if_neg h, hrun]
  rfl

theorem State.kuGo_of_failed {c : Nat} (hc : c ≠ 0)
    (hrun : s.runKeyCmd g p l s.keys.windows[windowIndex p l] = (q, .ends c)) :
    s.kuGo g p l = q.endKeyCommand p l .failed c := by
  rw [State.kuGo, if_neg h, hrun]
  cases c with
  | zero => exact absurd rfl hc
  | succ => rfl

theorem State.kuGo_of_waits {k : KeyWait} (hrun : s.runKeyCmd g p l s.keys.windows[windowIndex p l] = (q, .waits k)) :
    s.kuGo g p l = q.onKeyWindow p l (fun w => { w with st := .busy, code := 0, waits := some k }) := by
  rw [State.kuGo, if_neg h, hrun]

end KeyGo

/-- The command that writes a code to KU_GO runs it at the pair's level. -/
theorem exec_of_keyCmd {s : State} {p : Fin 4} {l : Level} {g : KeyCmd} {i : Instr} (h : s.pairAt p l = true)
    (hmem : (g, i) ∈ [(KeyCmd.load, Instr.kuLoad p l), (.wrap, .kuWrap p l), (.generate, .kuGenerate p l), (.derive, .kuDerive p l),
      (.clear, .kuClear p l), (.info, .kuInfo p l), (.pubKey, .kuPublic p l), (.importKey, .kuImport p l)]) :
    exec i s = .next (s.kuGo g p l) := by
  simp only [List.mem_cons, List.not_mem_nil, or_false, Prod.mk.injEq] at hmem
  rcases hmem with ⟨rfl, rfl⟩ | ⟨rfl, rfl⟩ | ⟨rfl, rfl⟩ | ⟨rfl, rfl⟩ | ⟨rfl, rfl⟩ | ⟨rfl, rfl⟩ | ⟨rfl, rfl⟩ | ⟨rfl, rfl⟩ <;>
    exact congrArg Host.Outcome.next (if_pos h)

/-- Settles O39: by the state of the window and the end of the command. -/
theorem keyWindowsRunTheirCommands : Obligations.KeyWindowsRunTheirCommands := by
  intro s p l g i hat hmem w
  have hgo := exec_of_keyCmd hat hmem
  have habort : exec (.kuAbort p l) s = .next (s.kuAbort p l) := congrArg Host.Outcome.next (if_pos hat)
  have hlive := State.live_of_pairAt hat
  refine ⟨fun hbusy => ⟨?_, ?_⟩, fun hidle => ⟨?_, fun q hrun => ?_, fun q c hc hrun => ?_, fun q k hrun => ?_⟩,
    fun n k hk => ⟨fun hdue => ?_, fun hdue => ?_⟩⟩
  · rw [hgo, State.kuGo_of_busy hbusy]
  · exact habort.trans (congrArg Host.Outcome.next (if_pos hbusy))
  · exact habort.trans (congrArg Host.Outcome.next (if_neg hidle))
  · rw [hgo, State.kuGo_of_done hidle hrun]
  · rw [hgo, State.kuGo_of_failed hidle hc hrun]
  · rw [hgo, State.kuGo_of_waits hidle hrun]
  · refine next_whenLive hlive ?_
    simp only [hk]
    exact if_pos (by simpa using hdue)
  · refine next_whenLive hlive ?_
    simp only [hk]
    exact if_neg (by simpa [or_iff_not_imp_left] using hdue)

/-! ## Entropy -/

/-- A generation in state 1 with 64 places free adds 64 words behind those that wait and leaves the state. -/
theorem State.generateCall_of_room {s : State} (hst : s.ent.st = 1) (hroom : s.ent.queue.length ≤ 960)
    (hcalls : s.objNum (okey 0x5100 8) < 1048576) : s.generateCall =
      ((s.onEnt (fun e =>
        { e with queue := e.queue ++ (List.range 64).map (Config.drbgWord s.ent.drbg), drbg := Config.drbgNext s.ent.drbg,
                 delivered := true })).putNum (okey 0x5100 8) (s.objNum (okey 0x5100 8) + 1)).serveKeyWaits.drawContextKey := by
  have hst' : (if s.ent.st = 2 ∧ s.objNum (okey 0x5100 8) + 1 ≥ 1048576 then 3 else s.ent.st) = s.ent.st :=
    if_neg (by omega)
  unfold State.generateCall
  dsimp only
  rw [if_neg, if_neg (Nat.not_le.mpr hcalls)]
  · simp only [State.onEnt, hst']
  · simp only [hst, Bool.or_eq_true, decide_eq_true_eq, Nat.not_lt.mpr hroom, or_false]
    decide

/-- A raw block of a cell in service is judged by its repetitions and its proportion of ones. -/
theorem State.rawBlock_of_inService {s : State} {c : Fin 4} {bits : BitVec 1024} (h : s.ent.cells[c].inService = true) :
    s.rawBlock c bits =
      (let l := s.rawBits bits
       let r := repetition (repetitionCutoff (s.cellValue 4 c)) l s.ent.cells[c].lastBit s.ent.cells[c].run false
       let q := s.onCell c (fun x => { x with lastBit := r.1, run := r.2.1 })
       if r.2.2 || proportionHit (q.cellValue 5 c) l then q.blockFails c
       else if s.ent.cells[c].startBlocks < 4 then
         (q.onCell c (fun x => { x with startBlocks := x.startBlocks + 1 })).checkDegraded
       else q.blockPasses c l (s.cellValue 4 c)) := by
  unfold State.rawBlock
  generalize s.rawBits bits = l
  exact if_neg (by simp only [h, Bool.not_true, Bool.false_eq_true, not_false_eq_true])

/-- Settles O40: each row by its conditions. -/
theorem entropyFlowsThroughTheQueue : Obligations.EntropyFlowsThroughTheQueue := by
  intro s p l hlive
  refine ⟨fun hat => ⟨fun x q htake => ?_, fun htake => ?_⟩, fun hwait hempty => ?_, fun a b hst htested htwo hblocks => ?_, ?_,
    fun a b hst hblocks => ?_, fun hst hroom hcalls => ?_, fun hfull => ?_, fun c bits => ⟨fun hservice => ?_, fun hservice => ?_⟩⟩
  · refine congrArg Host.Outcome.next ((if_pos hat).trans ?_)
    simp only [State.entTake, htake]
  · refine congrArg Host.Outcome.next ((if_pos hat).trans ?_)
    simp only [State.entTake, htake]
  · exact next_whenLive hlive (if_pos (by rw [hwait, hempty]; rfl))
  · refine next_whenLive hlive ?_
    simp only [if_true, State.instantiate, hst, htested, Nat.not_lt.mpr htwo, hblocks, bne_self_eq_false, Bool.not_true,
      decide_false, Bool.or_self, Bool.false_eq_true, if_false]
  · exact next_whenLive hlive rfl
  · refine next_whenLive hlive ?_
    simp only [State.reseed, hst, if_false, hblocks]
  · exact next_whenLive hlive (State.generateCall_of_room hst hroom hcalls)
  · exact next_whenLive hlive (if_pos (by rw [Bool.or_eq_true, decide_eq_true_eq]; exact .inr hfull))
  · exact next_whenLive hlive (if_pos (by rw [hservice]; rfl))
  · have hblock := State.rawBlock_of_inService (bits := bits) hservice
    generalize s.rawBits bits = l at hblock ⊢
    refine ⟨fun hfails => ?_, fun hrun hproportion hstart => ?_⟩
    · exact next_whenLive hlive (hblock.trans (if_pos (by simpa only [Bool.or_eq_true] using hfails)))
    · refine next_whenLive hlive (hblock.trans ((if_neg ?_).trans (if_neg (Nat.not_lt.mpr hstart))))
      simp only [hrun, hproportion, Bool.or_self, Bool.false_eq_true, not_false_eq_true]

end Sys2Proof.Machine

/-! SUPPORT. The tamper watch's samples, the vigil domain, the event log's flush, vigil time and the clocks (R381 to R397, R404,
R408 to R410, R569 to R577). -/

namespace Sys2Proof.Machine

/-! ## Samples with main power -/

section Samples

variable {s : State}

theorem State.sensorSample_mesh_of_fitted {i : Fin 4} (r : MeshReading) (h : s.meshFitted i = true) :
    s.sensorSample (.mesh i r) = s.watch (0x11 + i.val) (r != .intact) (detailOf (meshCode r) 0) := if_pos h

theorem State.sensorSample_mesh_of_unfitted {i : Fin 4} (r : MeshReading) (h : s.meshFitted i = false) :
    s.sensorSample (.mesh i r) = s := if_neg (ne_true_of_eq_false h)

/-- A recalibration whose targets are out of bounds is held. -/
theorem State.recalibrate_of_outOfBounds {k : Fin 9} {ca cb : Int}
    (h : targetsOk (calGain ((s.objWords (okey 0x6000 4)).getD k.val 0)) (calOffset ((s.objWords (okey 0x6000 4)).getD k.val 0)) ca
      (cb - ca) (s.referenceValue k.val 1 - s.referenceValue k.val 0) (s.referenceValue k.val 0) = false) :
    s.recalibrate k ca cb =
      ((s.onTamper (fun t => { t with calHeld := t.calHeld.set k true })).raiseSource 0x2C 0).writeRawThresholds := by
  simp only [State.recalibrate, h, Bool.false_eq_true, if_false]

end Samples

/-- Settles O41: each input by its row. -/
theorem samplesWatchTheirSources : Obligations.SamplesWatchTheirSources := by
  intro s hlive
  refine ⟨fun k code hk => ?_, fun code => next_whenLive hlive rfl, fun i r => ⟨fun h => ?_, fun h => ?_, ?_⟩, ?_, fun hpll => ?_,
    fun good => ?_, ?_, fun b => ?_, fun k ca cb => ?_⟩
  · intro v q r
    have hzero : code.toNat = 0 ↔ code = 0 := by bv_omega
    have hones : code.toNat = 0xFFFF ↔ code = 0xFFFF := by bv_omega
    have hne : k.val ≠ 7 := fun h => hk (Fin.ext h)
    have hsample : s.sensorSample (.analog k code) =
        if code = 0 ∨ code = 0xFFFF then r.raiseSource 0x2C (analogDetail v code.toNat)
        else r.settleSensorFault k.val code.toNat v := by
      simp only [State.sensorSample, State.analogSample, if_neg hne, hzero, hones]
      rfl
    exact ⟨fun h => next_whenLive hlive (hsample.trans (if_pos h)),
      fun h0 h1 => next_whenLive hlive (hsample.trans (if_neg (not_or.mpr ⟨h0, h1⟩)))⟩
  · exact next_whenLive hlive (State.sensorSample_mesh_of_fitted r h)
  · exact next_whenLive hlive (State.sensorSample_mesh_of_unfitted r h)
  · exact next_whenLive hlive rfl
  · exact next_whenLive hlive rfl
  · exact next_whenLive hlive (if_neg (by simpa using hpll))
  · exact next_whenLive hlive rfl
  · exact next_whenLive hlive rfl
  · exact next_whenLive hlive rfl
  · intro w0 hbounds
    exact next_whenLive hlive (State.recalibrate_of_outOfBounds hbounds)

/-! ## The vigil domain -/

section Vigil

variable {s : State}

/-- What a command of the supplied vigil domain answers. -/
theorem next_whenWatching {t : State} {f : State → State} (hwatch : s.watching = true) (h : f s = t) :
    (Host.Outcome.next (if s.watching then f s else s) : Host.Outcome State Fault Refusal) = .next t := by
  rw [if_pos hwatch, h]

/-- A switch is watched by its alarm level when it is fitted. -/
theorem State.switchSample_eq (s : State) (i : Fin 4) (level : Bool) : s.switchSample i level =
    let q := s.onTamper (fun t => { t with switchLevels := t.switchLevels.set i level })
    if s.switchFitted i then q.vigilWatch (0x15 + i.val) (s.switchAlarm i level) (if level then 1 else 0) else q := rfl

/-- A window that is not open stays closed. -/
theorem State.closeCellWindow_of_closed (reason : Nat) (h : s.vigil.windowSince = none) : s.closeCellWindow reason = s :=
  if_pos (by rw [h]; rfl)

end Vigil

/-! ## The flush of the event log -/

@[simp] theorem State.tamper_doneCmd (s : State) (key : Nat) : (s.doneCmd key).tamper = s.tamper := by
  unfold State.doneCmd State.endCmd
  split <;> rfl

/-- A flush that finds nothing to program ends with an empty buffer and no flush due. -/
theorem State.flushRows_of_empty {s : State} (key : BitVec 256) (row : Option Nat) (fuel i : Nat) (h : s.tamper.buffer = []) :
    s.flushRows key row (fuel + 1) i = s.flushEnd := by
  rw [State.flushRows, if_pos (by rw [h]; rfl)]

/-- Settles O43: the vigil domain's rows by their conditions, and the flush by what it finds. -/
theorem vigilDomainWatchesAndFlushes : Obligations.VigilDomainWatchesAndFlushes := by
  refine ⟨fun s hwatch => ⟨fun i r => ⟨fun h => ?_, ?_⟩, fun code hdead => ?_, fun code hlive => ⟨?_, ?_, ?_⟩, fun good => ?_,
    fun i level => ?_, fun n => ⟨fun h => ?_, fun h => ?_⟩, ?_, fun h => ?_, fun h => ?_, fun h => ?_⟩,
    fun s row hlive => ⟨fun key hdue hkey => ?_, fun hdue => ?_, fun t ht => ⟨fun hold => ?_, fun hyoung => ?_⟩,
      fun key q hkey hdue hempty hq => ?_⟩⟩
  · exact next_whenWatching hwatch (if_pos h)
  · exact next_whenWatching hwatch rfl
  · exact next_whenWatching hwatch (if_neg (ne_true_of_eq_false hdead))
  · exact next_whenWatching hwatch (if_pos hlive)
  · exact next_whenWatching hwatch (if_pos hlive)
  · exact next_whenWatching hwatch (congrArg (State.cellRemoved true) (if_pos hlive))
  · exact next_whenWatching hwatch rfl
  · intro q
    refine ⟨fun hfitted => ⟨?_, rfl⟩, fun hfitted => ?_⟩
    · exact next_whenWatching hwatch ((State.switchSample_eq s i level).trans (if_pos hfitted))
    · exact next_whenWatching hwatch ((State.switchSample_eq s i level).trans (if_neg (ne_true_of_eq_false hfitted)))
  · exact congrArg Host.Outcome.next (if_pos (by rw [hwatch, h]; rfl))
  · exact congrArg Host.Outcome.next (if_neg (by simp [h]))
  · rfl
  · exact congrArg Host.Outcome.next (if_pos h)
  · exact congrArg Host.Outcome.next (if_neg (ne_true_of_eq_false h))
  · exact congrArg Host.Outcome.next (State.closeCellWindow_of_closed 1 h)
  · refine next_whenLive hlive ((if_pos hdue).trans ?_)
    simp only [State.flushLog, hkey]
  · exact next_whenLive hlive (if_neg (ne_true_of_eq_false hdue))
  · refine next_whenLive hlive ?_
    simp only [ht, if_pos hold]
  · refine next_whenLive hlive ?_
    simp only [ht, if_neg (Nat.not_le.mpr hyoung)]
  · have hend : exec (.eventLogFlush row) s = .next s.flushEnd := by
      refine next_whenLive hlive ((if_pos hdue).trans ?_)
      simp only [State.flushLog, hkey, State.flushRows_of_empty key row _ _ hempty]
    cases hend.symm.trans hq
    rw [State.flushEnd, State.tamper_doneCmd]
    exact ⟨rfl, hempty⟩

/-! ## Vigil time -/

/-- An edge gives at most two ticks. -/
theorem trimStep_ticks_le (phase trim : Int) : (trimStep phase trim).2 ≤ 2 := by
  unfold trimStep
  dsimp only
  split
  · exact le_refl 2
  · split
    · exact Nat.zero_le 2
    · exact Nat.le_succ 1

section Clocks

variable {s : State}

theorem State.copyTime_of_dead (h : s.live = false) : s.copyTime = s := if_neg (ne_true_of_eq_false h)

theorem State.live_copyTime (s : State) : s.copyTime.live = s.live := by
  unfold State.copyTime
  split <;> rfl

/-- A step of a running slew that leaves a remainder reaches the copy. -/
theorem State.slewStep_of_running (hwatch : s.watching = true) (hslew : s.vigil.slew ≠ 0) (hwithhold : s.vigil.withhold = false) :
    s.slewStep =
      let q := s.onVigil (fun v =>
        if 0 < v.slew then { v with time := (v.time + 1) % 2 ^ 48, slew := v.slew - 1 }
        else { v with withhold := true, slew := v.slew + 1 })
      if q.vigil.slew = 0 then q.copyTime.doneCmd (okey 0x9000 7) else q.copyTime := by
  refine if_neg ?_
  simp only [hwatch, hwithhold, beq_eq_false_iff_ne.mpr hslew, Bool.not_true, Bool.or_self, Bool.false_eq_true, not_false_eq_true]

theorem State.pllLost_of_locked (h : s.power.pll ≠ 2) : s.pllLost = (s.onPower (fun p => { p with pll := 2 })).raiseSource 0x1F 0 :=
  if_neg h

/-- A measured window counts; an unspoiled one moves the entry of its band. -/
theorem State.crystalMeasured_eq (count : Nat) (mean : Int) (s : State) : s.crystalMeasured count mean =
    let q := (s.putNum (okey 0x9000 0x0A) count).onPower (fun p => { p with windowSpoiled := false })
    let e := q.trimEntry (trimBand mean)
    let v := if q.bandMeasured (trimBand mean) then e + roundHalfEven (measuredTrim count - e) 4 else measuredTrim count
    if s.power.windowSpoiled || (s.source 0x1F).raised || (s.source 0x21).raised then q
    else (q.putOctetsAt (okey 0x9000 5) (3 * trimBand mean) (beOctets 3 (unsigned 24 v))).putNum (okey 0x9000 6)
      (q.objNum (okey 0x9000 6) ||| 2 ^ trimBand mean) := rfl

end Clocks

/-- Settles O44: the edge by its ticks, each row by its conditions. -/
theorem vigilTimeAndClocks : Obligations.VigilTimeAndClocks := by
  intro s hwatch
  refine ⟨?edge, fun hlive => ?_, fun hdead => ?_, fun hwithhold hslew => ?_, fun hwithhold hslew => ?_, fun hwithhold hslew => ?_,
    fun b hb => ?_, ?_, fun hstopped => ?_, fun hlive => ⟨?measure, fun href hpll => ?_, fun href hpll => ?_, fun href hpll => ?_,
      fun hpll => ?_, fun hpll => ?_, fun hcopy => ?_, fun hcopy => ?_⟩⟩
  case edge =>
    rintro r rfl
    refine ⟨fun hwithhold => ⟨?_, rfl, trimStep_ticks_le _ _⟩, fun hwithhold hticks => ⟨?_, ?_⟩⟩
    · simp only [Vigil.edge, hwithhold, Bool.false_and, Bool.false_eq_true, if_false, Nat.sub_zero]
    · simp only [Vigil.edge, hwithhold, hticks, decide_true, Bool.and_self, if_true]
    · simp only [Vigil.edge, hwithhold, hticks, decide_true, Bool.and_self, Bool.not_true, Bool.and_false]
  case measure =>
    intro count mean
    refine ⟨fun hspoiled => ?_, fun hspoiled h1 h2 => ?_⟩
    · exact next_whenLive hlive ((State.crystalMeasured_eq count mean s).trans (if_pos (by simpa [or_assoc] using hspoiled)))
    · exact next_whenLive hlive ((State.crystalMeasured_eq count mean s).trans (if_neg (by simp [hspoiled, h1, h2])))
  · have hcopy : ((s.onVigil Vigil.edge).copyTime).live = true := (State.live_copyTime _).trans hlive
    refine congrArg Host.Outcome.next ((if_neg (by simp [hwatch])).trans ?_)
    exact congrArg State.keepIssued (if_pos hcopy)
  · have hedge : (s.onVigil Vigil.edge).live = false := hdead
    refine congrArg Host.Outcome.next ((if_neg (by simp [hwatch])).trans ?_)
    simp only [State.copyTime_of_dead hedge, hedge, State.keepIssued, Bool.and_false, Bool.false_eq_true, if_false]
  · refine congrArg Host.Outcome.next ((State.slewStep_of_running hwatch (by omega) hwithhold).trans ?_)
    have hpos : 0 < s.vigil.slew := by omega
    have hrest : s.vigil.slew - 1 ≠ 0 := by omega
    simp only [State.onVigil, hpos, if_true, hrest, if_false]
  · refine congrArg Host.Outcome.next ((State.slewStep_of_running hwatch (by omega) hwithhold).trans ?_)
    have hneg : ¬ 0 < s.vigil.slew := by omega
    have hrest : s.vigil.slew + 1 ≠ 0 := by omega
    simp only [State.onVigil, hneg, if_false, hrest]
  · refine congrArg Host.Outcome.next ((State.slewStep_of_running hwatch (by omega) hwithhold).trans ?_)
    simp only [State.onVigil, hslew, Int.zero_lt_one, if_true, Int.sub_self]
  · refine next_whenWatching hwatch ?_
    simp only [State.updateTrim, hb]
  · exact congrArg Host.Outcome.next (if_pos hwatch)
  · exact congrArg Host.Outcome.next (if_pos (by rw [hwatch, hstopped]; rfl))
  · exact next_whenLive hlive ((if_neg (by simp [href])).trans (if_pos hpll))
  · exact next_whenLive hlive ((if_neg (by simp [href])).trans (if_pos hpll))
  · exact next_whenLive hlive ((if_neg (by simp [href])).trans (State.pllLost_of_locked hpll))
  · exact next_whenLive hlive (State.pllLost_of_locked hpll)
  · exact next_whenLive hlive (if_neg (by simp [hpll]))
  · exact next_whenLive hlive (if_neg hcopy)
  · exact next_whenLive hlive (if_pos hcopy)

end Sys2Proof.Machine

/-! SUPPORT. The hub's windows, and the registers, timers and lockstep of the pairs (R270 to R284, R462, R480 to R487). -/

namespace Sys2Proof.Machine

/-! ## Windows of the hub -/

/-- The epoch of the job that a submission takes for its parent, 0 without one. -/
def State.epochOf (s : State) (h : BitVec 24) : Nat := match (s.slotOf h).bind s.job with | some k => k.epoch | none => 0

section Submit

variable {s : State} {p : Fin 4} {l : Level}

/-- A submission that fails a check leaves its code in JH_RESULT, and counts a full quota or hub. -/
theorem State.submit_of_refused {c : Nat} (hc : s.submitCheck p l (jobOfWords s.hub.windows[windowIndex p l].desc p.val l) = c)
    (h : c ≠ 0) : s.submit p l = (if c = quotaExceeded ∨ c = jhFull then s.bump (okey 0x4000 6) else s).onHubWindow
      (windowIndex p l) (fun x => { x with result := (0, c) }) := by
  unfold State.submit
  dsimp only
  rw [hc]
  exact if_pos (by simpa using h)

/-- An accepted submission that is granted a slot leaves its handle in JH_RESULT. -/
theorem State.submit_of_granted {q : State} {slot : Nat} {j : Job} (hj : jobOfWords s.hub.windows[windowIndex p l].desc p.val l = j)
    (hc : s.submitCheck p l j = 0)
    (h : s.allocate { j with parent := s.hub.current[p], parentEpoch := s.epochOf s.hub.current[p] } = (q, some slot)) :
    s.submit p l = ((q.startWaiting slot).failUnavailable j.cls).onHubWindow (windowIndex p l) (fun x =>
      { x with result := (q.handleOf slot, 0) }) := by
  unfold State.epochOf at h
  unfold State.submit
  dsimp only
  rw [hj, hc, if_neg (by decide)]
  cases hk : (s.slotOf s.hub.current[p]).bind s.job with
  | none => simp only [hk] at h; simp only [h]
  | some k => simp only [hk] at h; simp only [h]

end Submit

section Windows

variable {s : State} {p : Fin 4} {l : Level} {value : Word}

theorem State.jhPop_of_empty (h : s.hub.windows[windowIndex p l].queue = []) : s.jhPop p l = (s, 0) := by
  unfold State.jhPop
  dsimp only
  rw [h]

theorem State.jhPop_of_entry {e : Completion} {rest : List Completion} {slot : Nat}
    (h : s.hub.windows[windowIndex p l].queue = e :: rest)
    (hslot : (s.onHubWindow (windowIndex p l) (fun x => { x with queue := rest, popped := some e })).slotOf e.handle = some slot) :
    s.jhPop p l = ((s.onHubWindow (windowIndex p l) (fun x => { x with queue := rest, popped := some e })).freeSlot slot,
      BitVec.ofNat 48 (e.handle.toNat * 2 ^ 24 + e.code)) := by
  unfold State.jhPop
  dsimp only
  rw [h]
  dsimp only
  rw [hslot]

theorem State.jhAbort_of_running {slot : Nat} {k : Job} (hslot : s.slotOf (value.setWidth 24) = some slot)
    (hjob : s.job slot = some k) (hfinal : k.st.isFinal = false) (hown : l = .monitor ∨ s.owns p l 64 slot = true) :
    s.jhAbort p l value =
      (s.abortJob slot).onHubWindow (windowIndex p l) (fun x => { x with result := (value.setWidth 24, 0) }) := by
  have hmine : ¬ ((l != Level.monitor && !s.owns p l 64 slot) = true) := by
    rcases hown with rfl | h
    · simp
    · simp [h]
  simp only [State.jhAbort, hslot, if_neg hmine, hjob, hfinal, Bool.false_eq_true, if_false]

theorem State.jhAbort_of_noJob (h : s.slotOf (value.setWidth 24) = none) : s.jhAbort p l value =
    s.onHubWindow (windowIndex p l) (fun x => { x with result := (value.setWidth 24, noSuchJob) }) := by
  simp only [State.jhAbort, h]

theorem State.jhTake_of_empty (h : s.hub.placed[p] = []) : s.jhTake p = (s, 0) := by
  rw [State.jhTake, h]

theorem State.jhTake_of_placed {x : BitVec 24} {rest : List (BitVec 24)} (h : s.hub.placed[p] = x :: rest) :
    s.jhTake p = (s.onHub (fun u => { u with placed := u.placed.set p rest }), BitVec.ofNat 48 x.toNat) := by
  rw [State.jhTake, h]

/-- JH_DONE of a running job of the pair ends it by its code. -/
theorem State.jhDone_of_running {slot : Nat} {j : Job} (hslot : s.slotOf (BitVec.ofNat 24 (bitsOf value 47 24)) = some slot)
    (hjob : s.job slot = some j) (hcls : j.cls = 5) (hplace : j.placement = 0x50 + p.val) (hst : j.st = .running) :
    s.jhDone p value = if bitsOf value 23 0 = 0 then s.endJob slot .done 0 0 else s.failJob slot (bitsOf value 23 0) := by
  have hfinal : JobState.running.isFinal = false := rfl
  simp only [State.jhDone, hslot, hjob, hcls, hplace, hst, hfinal, bne_self_eq_false, Bool.or_self, Bool.false_eq_true, if_false,
    reduceCtorEq]

theorem State.jhDone_of_noJob (h : s.slotOf (BitVec.ofNat 24 (bitsOf value 47 24)) = none) :
    s.jhDone p value = s.bump (okey 0x4000 3) := by
  simp only [State.jhDone, h]
  rfl

/-- JH_CHECKPOINT of a job of the pair acts by whether the job has children. -/
theorem State.jhCheckpoint_of_pairJob {slot : Nat} {j : Job}
    (hslot : s.slotOf (BitVec.ofNat 24 (bitsOf value 47 24)) = some slot) (hjob : s.job slot = some j) (hcls : j.cls = 5)
    (hplace : j.placement = 0x50 + p.val) : s.jhCheckpoint p l value =
      if !(s.childrenOf (BitVec.ofNat 24 (bitsOf value 47 24))).isEmpty then
        s.onHubWindow (windowIndex p l) (fun x => { x with result := (BitVec.ofNat 24 (bitsOf value 47 24), checkpointRefused) })
      else s.onJob slot (fun j =>
        { j with checkpoint := some (bitsOf value 21 0),
                 words := j.words.set 3 (BitVec.ofNat 48 (j.words[3].toNat / 2 ^ 28 * 2 ^ 28 +
                   (0x100000 + bitsOf value 21 0) * 8)) }) := by
  simp only [State.jhCheckpoint, hslot, hjob, hcls, hplace, bne_self_eq_false, Bool.or_self, Bool.false_eq_true, if_false]

end Windows

/-- What a command of Monitor's window answers. -/
theorem next_atMonitor {s t r : State} {p : Fin 4} (hat : s.pairAt p .monitor = true) (h : t = r) :
    (Host.Outcome.next (if s.pairAt p .monitor && Level.monitor == Level.monitor then t else s) :
      Host.Outcome State Fault Refusal) = .next r := by
  rw [if_pos (by rw [hat]; rfl), h]

/-- What a command of a pair at its level answers. -/
theorem next_atLevel {s t r : State} {p : Fin 4} {l : Level} (hat : s.pairAt p l = true) (h : t = r) :
    (Host.Outcome.next (if s.pairAt p l then t else s) : Host.Outcome State Fault Refusal) = .next r := by
  rw [if_pos hat, h]

/-- Settles O36: each register by what its window or job stands at. -/
theorem hubWindowsAndThePairsJobs : Obligations.HubWindowsAndThePairsJobs := by
  refine ⟨fun s p l value hat => ?_, fun s p value hat => ⟨fun hempty => ?_, fun h rest hplaced => ?_, ?_,
    fun slot j hslot hjob hcls hplace hst => ⟨fun hcode => ?_, fun hcode => ?_, fun hchildren => ?_, fun hchildren => ?_⟩,
    fun hslot => ?_⟩⟩
  · intro w j c parent parentEpoch
    refine ⟨fun h0 hquota hfull => ?_, fun hfull => ?_, fun q slot h0 hgrant => ?_, fun hempty => ?_, fun e rest slot hqueue => ?_,
      fun slot k hslot hjob hfinal hown => ?_, fun hslot => ?_, ?_⟩
    · refine next_atLevel hat (congrArg (State.onPair p (Pair.perf 0x0D 1)) ((State.submit_of_refused rfl h0).trans ?_))
      rw [if_neg (not_or.mpr ⟨hquota, hfull⟩)]
    · have h0 : c ≠ 0 := by rcases hfull with h | h <;> rw [h] <;> decide
      refine next_atLevel hat (congrArg (State.onPair p (Pair.perf 0x0D 1)) ((State.submit_of_refused rfl h0).trans ?_))
      rw [if_pos hfull]
    · exact next_atLevel hat (congrArg (State.onPair p (Pair.perf 0x0D 1)) (State.submit_of_granted rfl h0 hgrant))
    · refine next_atLevel hat ?_
      rw [State.jhPop_of_empty hempty]
    · intro q hslot
      refine next_atLevel hat ?_
      rw [State.jhPop_of_entry hqueue hslot]
    · exact next_atLevel hat (State.jhAbort_of_running hslot hjob hfinal hown)
    · exact next_atLevel hat (State.jhAbort_of_noJob hslot)
    · exact next_atLevel hat rfl
  · refine next_atMonitor hat ?_
    rw [State.jhTake_of_empty hempty]
  · refine next_atMonitor hat ?_
    rw [State.jhTake_of_placed hplaced]
  · exact next_atMonitor hat rfl
  · exact next_atMonitor hat ((State.jhDone_of_running hslot hjob hcls hplace hst).trans (if_pos hcode))
  · exact next_atMonitor hat ((State.jhDone_of_running hslot hjob hcls hplace hst).trans (if_neg hcode))
  · exact next_atMonitor hat ((State.jhCheckpoint_of_pairJob hslot hjob hcls hplace).trans (if_neg (by rw [hchildren]; decide)))
  · exact next_atMonitor hat ((State.jhCheckpoint_of_pairJob hslot hjob hcls hplace).trans (if_pos (by simpa using hchildren)))
  · exact next_atMonitor hat (State.jhDone_of_noJob hslot)

/-! ## Registers of the pairs -/

section PairWrite

variable {s t : State} {p : Fin 4} {l : Level} {off : Nat} {v : Word}

theorem State.pairWrite_of_other (h : s.pairAt p l = false) : s.pairWrite p l off v = s := if_pos (by rw [h]; rfl)

theorem State.pairWrite_of_trap {x : Trap} (hat : s.pairAt p l = true)
    (h : s.accessTrap p l (0x1000000 + off) .write (BitVec.ofNat 48 ((0x1000000 + off) * 8)) = some x) :
    s.pairWrite p l off v = s.takeFault p x := by
  simp only [State.pairWrite, hat, h, Bool.not_true, Bool.false_eq_true, if_false]

theorem State.pairWrite_of_admitted (hat : s.pairAt p l = true)
    (h : s.accessTrap p l (0x1000000 + off) .write (BitVec.ofNat 48 ((0x1000000 + off) * 8)) = none)
    (hwrite : s.regWrite p l off v = some t) : s.pairWrite p l off v = t := by
  simp only [State.pairWrite, hat, h, hwrite, Bool.not_true, Bool.false_eq_true, if_false]

end PairWrite

/-- A row that is a write of one register writes it at its offset. -/
theorem exec_of_registerRow {s : State} {p : Fin 4} {l : Level} {v : Word} {i : Instr} {off : Nat} {gate : Fin 14} {rule : Fin 16}
    (hmem : (i, off) ∈ [(Instr.iclear p l v, 0x3007 + 0x100 * p.val), (.doorbell p l v, 0x300B + 0x100 * p.val),
      (.pcovfWrite p l v, 0x3027 + 0x100 * p.val), (.gauntletRuleWrite p l gate rule v, 0x6001 + 0x20 * gate.val + 2 * rule.val)]) :
    exec i s = .next (s.pairWrite p l off v) := by
  simp only [List.mem_cons, List.not_mem_nil, or_false, Prod.mk.injEq] at hmem
  rcases hmem with ⟨rfl, rfl⟩ | ⟨rfl, rfl⟩ | ⟨rfl, rfl⟩ | ⟨rfl, rfl⟩ <;> rfl

/-- Settles O55: each row by its conditions. -/
theorem pairRegistersTimersAndLockstep : Obligations.PairRegistersTimersAndLockstep := by
  intro s p l v i off gate rule k hmem hlive
  have hwrite := exec_of_registerRow (s := s) hmem
  refine ⟨fun hat => ⟨fun t htrap => ?_, fun t hadmitted ht => ?_⟩, fun hother => ?_, fun m o => ?_, fun htimer => ?_,
    fun htimer => ?_, fun hservice => ?_, fun hservice hrestart hstart => ?_⟩
  · rw [hwrite, State.pairWrite_of_trap hat htrap]
  · rw [hwrite, State.pairWrite_of_admitted hat hadmitted ht]
  · rw [hwrite, State.pairWrite_of_other hother]
  · exact next_whenLive hlive rfl
  · exact next_whenLive hlive (if_neg htimer)
  · exact next_whenLive hlive (if_pos htimer)
  · exact next_whenLive hlive (if_pos hservice)
  · refine next_whenLive hlive (if_neg ?_)
    simp only [hservice, hrestart, hstart, Bool.or_self, Bool.false_eq_true, not_false_eq_true]

end Sys2Proof.Machine

/-! SUPPORT. The tag in its field, the officer reader and the card bus (R402, R520 to R529, R534 to R556). -/

namespace Sys2Proof.Machine

/-! ## The tag -/

section Tag

variable {s : State}

/-- A tag that stays in its state on an unexpected frame does not change. -/
theorem State.tagUnexpected_of_stays (h : s.tag.st.unexpected = s.tag.st) : s.tagUnexpected = s := by
  rw [State.tagUnexpected, State.onTag, h]

theorem State.tagUnexpected_eq {x : TagState} (h : s.tag.st.unexpected = x) : s.tagUnexpected = s.tagState x := by
  rw [State.tagUnexpected, State.tagState, State.onTag, State.onTag, h]

variable (hfield : s.tag.field = true) (hmay : s.tagMay = true)
include hfield hmay

/-- What the tag does on a frame in a field that it may answer in. -/
theorem next_whenTag {t : State} {f : State → State} (h : f s = t) :
    (Host.Outcome.next (s.whenTag f) : Host.Outcome State Fault Refusal) = .next t := by
  rw [State.whenTag, if_pos (by rw [hfield, hmay]; rfl), h]

/-- What an activated tag does on a command of its protocol. -/
theorem next_whenProtocol {t : State} {f : State → State} (hst : s.tag.st = .protocol) (h : f s.settleWrites = t) :
    (Host.Outcome.next (s.whenProtocol f) : Host.Outcome State Fault Refusal) = .next t :=
  next_whenTag hfield hmay ((if_pos hst).trans h)

end Tag

/-- Settles O57: each frame by the state that the tag stands in. -/
theorem tagAnswersItsReader : Obligations.TagAnswersItsReader := by
  intro s hfield hmay
  refine ⟨fun hidle => ⟨?_, ?_⟩, fun hhalt => ⟨?_, ?_⟩, fun hready uid bits huid => ⟨?_, ?_, fun hprefix => ?_⟩,
    fun hready uid huid => ?_, fun hactive => ⟨?_, ?_, ?_⟩, rfl,
    fun hst => ⟨?_, fun a => ?_, ?_, fun aid haid => ?_, ?_, fun hselected => ?_⟩, rfl⟩
  · exact next_whenTag hfield hmay (if_pos hidle)
  · exact next_whenTag hfield hmay (if_pos hidle)
  · have hidle : s.tag.st ≠ .idle := by rw [hhalt]; decide
    exact next_whenTag hfield hmay ((if_neg hidle).trans (State.tagUnexpected_of_stays (by rw [hhalt]; rfl)))
  · have hidle : s.tag.st ≠ .idle := by rw [hhalt]; decide
    exact next_whenTag hfield hmay ((if_neg hidle).trans (if_pos hhalt))
  · refine next_whenTag hfield hmay ((if_neg ?_).trans ?_)
    · rw [hready, huid]
      simp [TagState.atLevel]
    · rw [hready]
      rfl
  · refine next_whenTag hfield hmay ((if_pos ?_).trans (State.tagUnexpected_eq (by rw [hready]; rfl)))
    rw [hready]
    rfl
  · refine next_whenTag hfield hmay ((if_neg ?_).trans (if_pos hprefix))
    rw [hready]
    decide
  · refine next_whenTag hfield hmay ((if_neg ?_).trans ?_)
    · rw [hready, huid]
      simp [TagState.atLevel]
    · rw [hready]
      rfl
  · exact next_whenTag hfield hmay (if_pos hactive)
  · exact next_whenTag hfield hmay (if_pos hactive)
  · exact next_whenTag hfield hmay (if_pos hactive)
  · exact next_whenTag hfield hmay (if_pos hst)
  · exact next_whenTag hfield hmay ((if_neg (by simp [hst])).trans (if_pos (beq_self_eq_true _)))
  · exact next_whenProtocol hfield hmay hst (if_pos rfl)
  · exact next_whenProtocol hfield hmay hst (if_neg haid)
  · exact next_whenProtocol hfield hmay hst rfl
  · exact next_whenProtocol hfield hmay hst (if_neg (ne_true_of_eq_false hselected))

/-! ## The officer reader -/

section Authenticate

variable {s : State} {p : Presentation} {t : TokenReply}

/-- A token of the open presentation is taken from the selected ones, and goes on by what it answers. -/
theorem State.authenticate_of_selected (hp : s.tag.presentation = some p) (ht : s.tag.selectedTokens.contains t.uid = true) :
    s.authenticate t =
      let q := s.onTag (fun x => { x with selectedTokens := x.selectedTokens.filter (fun u => u != t.uid) })
      if t.left then q
      else match t.failedStep with
      | some n => q.rejectToken t.uid n
      | none => if s.tag.purpose = purposeEnrolment then q.authenticateAdd p t else q.authenticatePair p t := by
  simp only [State.authenticate, hp, ht, Bool.not_true, Bool.false_eq_true, if_false]
  rfl

end Authenticate

/-! ## The card bus -/

section CardStatus

variable {s : State} {o : CardOp}

/-- A response to the command of a card that is not busy is judged by its status bits. -/
theorem State.cardStatus_of_response (ho : s.cards.op = some o) (hidle : o.busy = false) (bits : BitVec 32) :
    s.cardStatus (.response bits) =
      if cardErrors bits then s.failCard o
      else if bits.toNat / 2 ^ 9 % 16 ≠ 4 then s.send (.card o.index [0x4D])
      else if o.step = 3 then s.writeLabel o
      else s.finishCard o o.index := by
  simp only [State.cardStatus, ho, hidle, Bool.false_eq_true, if_false]

end CardStatus

/-- Settles O59: each row by what the presentation, the bus or the journal stands at. -/
theorem readerAndCardsFollowTheirSteps : Obligations.ReaderAndCardsFollowTheirSteps := by
  intro s hlive
  refine ⟨fun hopen l => ⟨?_, ?_⟩, fun p t hp ht => ?_, fun hpurpose => ?_, fun hpurpose => ?_,
    fun k i c hon hempty hready hfree => ?_, fun k l hon hseated => ?_, fun hperiod => ?_, fun hperiod hfree hcard => ?_,
    fun o ho => ⟨fun hbusy => ⟨?_, ?_⟩, ?_, fun hidle => ⟨?_, fun bits herror => ?_, fun bits herror hstate =>
      ⟨fun hstep => ?_, fun hstep => ?_⟩⟩⟩, fun i e c l ok hdoubt hon hmode hop hrecovery hlength hdigest hlabel => ?_⟩
  · exact next_whenLive hlive ((if_neg (by simp [hopen])).trans rfl)
  · exact next_whenLive hlive ((if_neg (by simp [hopen])).trans rfl)
  · intro q
    have hauth := State.authenticate_of_selected hp ht
    refine ⟨fun hleft => ?_, fun n hleft hstep => ?_, fun hleft hstep hpurpose => ?_⟩
    · exact next_whenLive hlive (hauth.trans (if_pos hleft))
    · refine next_whenLive hlive (hauth.trans ((if_neg (ne_true_of_eq_false hleft)).trans ?_))
      rw [hstep]
    · refine next_whenLive hlive (hauth.trans ((if_neg (ne_true_of_eq_false hleft)).trans ?_))
      rw [hstep]
      exact if_neg hpurpose
  · exact next_whenLive hlive (congrArg (State.closePresentation cmdFailed elevationFailed) (if_neg hpurpose))
  · exact next_whenLive hlive (congrArg (State.closePresentation cmdFailed elevationFailed) (if_pos hpurpose))
  · refine next_whenLive hlive ((if_neg ?_).trans ((if_neg (by simp [hready])).trans ?_))
    · rw [hon, hempty]
      decide
    · have hfind : cardIndexes.find? (fun i =>
          ((s.onCards (fun x => { x with detect := x.detect.set k true })).card i).isNone) = some i := hfree
      simp only [hfind]
  · refine next_whenLive hlive (congrArg State.turnCards (if_neg ?_))
    rw [hon, hseated]
    decide
  · exact next_whenLive hlive (if_pos (.inl hperiod))
  · refine next_whenLive hlive ((if_neg (by simp [hperiod, hfree])).trans ?_)
    simp only [hcard]
  · refine next_whenLive hlive ?_
    simp only [State.busyEnd, ho, hbusy, if_true]
  · refine next_whenLive hlive ?_
    simp only [ho, hbusy, if_true]
  · refine next_whenLive hlive ?_
    simp only [State.cardStatus, ho]
  · refine next_whenLive hlive ?_
    simp only [State.cardStatus, ho, hidle, Bool.false_eq_true, if_false]
  · exact next_whenLive hlive ((State.cardStatus_of_response ho hidle bits).trans (if_pos herror))
  · exact next_whenLive hlive ((State.cardStatus_of_response ho hidle bits).trans ((if_neg (ne_true_of_eq_false herror)).trans
      ((if_neg (not_not.mpr hstate)).trans (if_pos hstep))))
  · exact next_whenLive hlive ((State.cardStatus_of_response ho hidle bits).trans ((if_neg (ne_true_of_eq_false herror)).trans
      ((if_neg (not_not.mpr hstate)).trans (if_neg hstep))))
  · refine next_whenLive hlive ?_
    simp only [State.resolveEntry, hdoubt, hon, hmode, hop, hrecovery, hlength, hdigest, hlabel, Option.isSome_none, Bool.not_true,
      Bool.or_self, Bool.false_eq_true, ne_eq, not_true_eq_false, decide_false, decide_true, if_false]

end Sys2Proof.Machine

/-! SUPPORT. The flash controller's commands (R494 to R514). -/

namespace Sys2Proof.Machine

section FlashCommands

variable {s : State} {p : Fin 4}

/-- A row of a controller command runs it on its path. -/
theorem exec_of_flashRow {k : FlashCmd} {i : FlashVia → Instr}
    (hmem : (k, i) ∈ [(FlashCmd.wordProgram, Instr.wordProgram), (.rowProgram, .rowProgram), (.sectorErase, .sectorErase),
      (.eraseSuspend, .eraseSuspend), (.eraseResume, .eraseResume), (.retireWord, .retireWord), (.marginRead, .marginRead),
      (.counterIncrement, .counterIncrement), (.counterSet, .counterSet), (.optionRewrite, .optionRewrite),
      (.lifecycleAdvance, .flashLifecycleAdvance)]) (via : FlashVia) :
    exec (i via) s = .next (s.flashCommand k via) := by
  simp only [List.mem_cons, List.not_mem_nil, or_false, Prod.mk.injEq] at hmem
  rcases hmem with ⟨rfl, rfl⟩ | ⟨rfl, rfl⟩ | ⟨rfl, rfl⟩ | ⟨rfl, rfl⟩ | ⟨rfl, rfl⟩ | ⟨rfl, rfl⟩ | ⟨rfl, rfl⟩ | ⟨rfl, rfl⟩ |
    ⟨rfl, rfl⟩ | ⟨rfl, rfl⟩ | ⟨rfl, rfl⟩ <;> rfl

theorem State.flashCommand_direct {k : FlashCmd} {b : Fin 2} {t : Bool} (h : s.atMonitor p = true) :
    s.flashCommand k (.direct p b t) = s.directFlash k b.val t := if_pos h

/-- The enabled queue takes its next descriptor when it holds the command. -/
theorem State.flashCommand_queue {k : FlashCmd} {x : Nat} {rest : List Nat} {o : FlashOp} (hlive : s.live = true)
    (hon : s.flash.fqCtrl.getLsbD 0 = true) (hnext : s.takeable = x :: rest) (hdesc : s.descOp x = some o) (hcmd : o.cmd = k) :
    s.flashCommand k .queue = s.takeDesc x := by
  refine (if_pos (by rw [hlive, hon]; rfl)).trans ?_
  rw [hnext]
  dsimp only
  rw [hdesc]
  exact if_pos hcmd

/-! ## The direct path -/

section Direct

variable {k : FlashCmd} {b : Nat} {t : Bool}

theorem State.directFlash_of_locked (h : s.flash.locked = true) : s.directFlash k b t =
    s.onFlash (fun c => { c with fcState := flashFailed, fcCode := pathLocked, keyStage := 0 }) := if_pos h

theorem State.directFlash_of_keyOpen (h : s.flash.locked = false) (hkey : s.flash.keyStage ≠ 2) :
    s.directFlash k b t = s.keyFailure := (if_neg (ne_true_of_eq_false h)).trans (if_pos (by simp [hkey]))

/-- With the keys in order a free path submits the operation, or the erase control acts and ends Done. -/
theorem State.directFlash_of_ready (h : s.flash.locked = false) (hkey : s.flash.keyStage = 2)
    (hfree : s.flash.fcState ≠ flashBusy) : s.directFlash k b true =
      let q := s.onFlash (fun c => { c with fcState := flashBusy, fcCode := 0, keyStage := 0, keyFails := 0 })
      if k = .eraseSuspend ∨ k = .eraseResume then (q.eraseControl k b).reportFlash .direct flashDone 0
      else q.submitFlash (q.directOp k b) := by
  refine (if_neg (ne_true_of_eq_false h)).trans ((if_neg (by rw [hkey]; decide)).trans ((if_neg hfree).trans ?_))
  cases k <;> simp only [reduceCtorEq, or_self, or_true, true_or, if_true, if_false]

end Direct

theorem State.fcKeyWrite_eq (v : Word) (s : State) : s.fcKeyWrite v = s.onFlash (fun c =>
    { c with keyStage := if v = 0x6E2F41 then 1 else if v = 0x91D0BE && c.keyStage = 1 then 2 else 0 }) := rfl

/-- The abort of a descriptor that has not been taken ends it at once. -/
theorem State.fqAbort_of_takeable {tag x : Nat} (hfind : s.flash.fqOpen.find? (fun i => bitsOf (s.descWord i 3) 23 0 == tag) = some x)
    (htake : s.takeable.contains x = true) : s.fqAbort tag = s.reportFlash (.queue x) flashStopped flashAborted := by
  simp only [State.fqAbort, hfind, htake, Bool.true_or, if_true]

/-- What a command of the controller's registers answers. -/
theorem next_atController {t r : State} (hat : s.atMonitor p = true) (h : t = r) :
    (Host.Outcome.next (if s.atMonitor p then t else s) : Host.Outcome State Fault Refusal) = .next r := by
  rw [if_pos hat, h]

/-! ## The end of an operation -/

section Complete

variable {b : Nat} {o : FlashOp}

theorem State.flashComplete_verified (h : (s.bank b).running = some o) : s.flashComplete b .verified = s.flashVerified b o := by
  simp only [State.flashComplete, h]

theorem State.flashComplete_failed (h : (s.bank b).running = some o) : s.flashComplete b .failed = s.flashBroken b o := by
  simp only [State.flashComplete, h]

theorem State.flashComplete_of_idle (e : FlashEnd) (h : (s.bank b).running = none) : s.flashComplete b e = s := by
  simp only [State.flashComplete, h]

/-- Only a row program yields to a more urgent operation. -/
theorem State.yields_of_wordProgram (h : o.cmd = .wordProgram) : s.yields o = false := by
  simp [State.yields, h]

theorem State.flashVerified_wordProgram (h : o.cmd = .wordProgram) : s.flashVerified b o =
    (s.programWords b (o.addr + o.progress) (o.words.drop o.progress)).endFlash b o flashDone 0 := by
  simp only [State.flashVerified, h, State.yields_of_wordProgram h, Bool.false_eq_true, if_false]

theorem State.flashVerified_counterIncrement (h : o.cmd = .counterIncrement) : s.flashVerified b o =
    (s.counterInc (o.addr % 8)).endFlash b o flashDone 0 := by
  simp only [State.flashVerified, h]

end Complete

end FlashCommands

/-- Settles O56: by the path of the command and the state of the controller. -/
theorem flashCommandsRun : Obligations.FlashCommandsRun := by
  intro s p k i b v hlive hmem
  have hrow := exec_of_flashRow (s := s) hmem
  refine ⟨fun hat => ⟨fun hlocked t => ?_, fun hopen hkey t => ?_, fun hopen hkey hfree => ?_, ?_, fun hbusy => ?_, fun hfree => ?_,
    ?_, fun x hfind htake => ?_⟩, fun x rest o hon hnext hdesc hcmd => ?_, fun o hrunning => ⟨?_, ?_, fun hcmd => ?_,
      fun hcmd => ?_, fun herase => ?_⟩, fun hidle e => ?_, fun n c hpower => ?_⟩
  · rw [hrow, State.flashCommand_direct hat, State.directFlash_of_locked hlocked]
  · rw [hrow, State.flashCommand_direct hat, State.directFlash_of_keyOpen hopen hkey]
  · intro q
    rw [hrow, State.flashCommand_direct hat, State.directFlash_of_ready hopen hkey hfree]
  · exact next_atController hat (State.fcKeyWrite_eq v s)
  · exact next_atController hat (if_pos hbusy)
  · exact next_atController hat (if_neg hfree)
  · exact next_atController hat rfl
  · exact next_atController hat (State.fqAbort_of_takeable hfind htake)
  · rw [hrow, State.flashCommand_queue hlive hon hnext hdesc hcmd]
  · exact next_whenLive hlive (State.flashComplete_verified hrunning)
  · exact next_whenLive hlive (State.flashComplete_failed hrunning)
  · exact next_whenLive hlive ((State.flashComplete_verified hrunning).trans (State.flashVerified_wordProgram hcmd))
  · exact next_whenLive hlive ((State.flashComplete_verified hrunning).trans (State.flashVerified_counterIncrement hcmd))
  · refine next_whenLive hlive ?_
    simp only [hrunning, herase, if_true]
  · exact next_whenLive hlive (State.flashComplete_of_idle e hidle)
  · exact next_whenLive hlive (if_neg (ne_true_of_eq_false hpower))

end Sys2Proof.Machine

/-! SUPPORT. The step and the state after reset. -/

namespace Sys2Proof.Machine

theorem memWf_nil : memWf [] = true := rfl

/-- Settles O1: the step takes the queue's front command. -/
theorem stepRunsFrontCommand : Obligations.StepRunsFrontCommand := fun _ _ _ => rfl

/-- Settles O2: the fields of the reset state, read off. -/
theorem resetAndIdleAreTheModels : Obligations.ResetAndIdleAreTheModels := by
  refine ⟨fun s hempty => ?_, rfl, rfl, rfl, rfl, fun h => ?_, fun p => ?_, rfl, rfl⟩
  · rw [step, hempty]
  · simp [State.reset, Modes.initial]
  · simp [State.reset, Pair.initial]

/-- Settles O4: every memory of the reset state is empty. -/
theorem resetMemoriesCanonical : Obligations.ResetMemoriesCanonical := by
  refine ⟨memWf_nil, fun p => ?_, fun k => ?_⟩
  · simp [State.reset, Pair.initial, memWf_nil]
  · simp [State.reset, Dictionary.initial, Mailbox.initial, memWf_nil]

end Sys2Proof.Machine

/-! SUPPORT. What every command keeps: the queue, and the canonical form of the addressed memories (R32, R66,
spec/95). A state follows another when it holds the same queue, and canonical memories if the other does. One
lemma per operation of the model says that its result follows whatever its argument follows; its proof goes
along the operation's own definition. Their elaboration is not concurrent: a thread for each of so many short
proofs takes the memory of all their stacks. -/

namespace Sys2Proof.Machine

set_option Elab.async false

/-! ## Canonical parts -/

/-- The memories of a pair are canonical. -/
def Pair.Canonical (q : Pair) : Prop := memWf q.mem = true ∧ memWf q.fetched = true

/-- The mailbox request buffers are canonical. -/
def Dictionary.Canonical (d : Dictionary) : Prop := ∀ k : Fin 4, memWf d.mailbox[k].reqBuf = true

/-- A mailbox slot set to one with a canonical request buffer. -/
theorem Dictionary.Canonical.set {d : Dictionary} (hd : d.Canonical) {k : Fin 4} {m : Mailbox}
    (hm : memWf m.reqBuf = true) :
    ({ d with mailbox := d.mailbox.set k m } : Dictionary).Canonical := by
  intro j
  by_cases hj : k = j
  · subst hj
    simpa using hm
  · simpa [Vector.getElem_set_ne, Fin.val_ne_of_ne hj] using hd j

theorem Dictionary.Canonical.replicate {d : Dictionary} :
    ({ d with mailbox := Vector.replicate 4 Mailbox.initial } : Dictionary).Canonical := fun k => by
  simp only [Fin.getElem_fin, Vector.getElem_replicate]
  rfl

/-- A state that holds the queue of another, and canonical memories if the other does. -/
structure State.Follows (s₀ s : State) : Prop where
  pending : s.pending = s₀.pending
  canonical : s₀.memoriesCanonical → s.memoriesCanonical

namespace State

variable {s₀ s : State}

theorem Follows.refl (s : State) : s.Follows s := ⟨rfl, id⟩

/-! ## Parts of the state -/

/-- A state that differs in no memory and not in the queue follows what the other follows. -/
theorem Follows.same (h : s₀.Follows s) {t : State} (hpending : t.pending = s.pending := by rfl)
    (hcommons : t.commons = s.commons := by rfl) (hpairs : t.pairs = s.pairs := by rfl)
    (hmailbox : t.dict.mailbox = s.dict.mailbox := by rfl) : s₀.Follows t := by
  refine ⟨hpending.trans h.pending, fun h₀ => ?_⟩
  have hs := h.canonical h₀
  unfold memoriesCanonical at hs ⊢
  rw [hcommons, hpairs, hmailbox]
  exact hs

theorem Follows.onDict {f : Dictionary → Dictionary} (h : s₀.Follows s)
    (hf : ∀ d : Dictionary, d.Canonical → (f d).Canonical := by exact fun _ hd => hd) : s₀.Follows (s.onDict f) :=
  ⟨h.pending, fun h₀ => ⟨(h.canonical h₀).1, (h.canonical h₀).2.1, hf _ (h.canonical h₀).2.2⟩⟩

/-- The pairs of a state that follows a canonical one. -/
theorem Follows.pair {p : Fin 4} (h : s₀.Follows s) (h₀ : s₀.memoriesCanonical) : s.pairs[p].Canonical :=
    (h.canonical h₀).2.1 p

theorem Follows.onPair_at {p : Fin 4} {f : Pair → Pair} (h : s₀.Follows s)
    (hf : s.pairs[p].Canonical → (f s.pairs[p]).Canonical) : s₀.Follows (s.onPair p f) := by
  refine ⟨h.pending, fun h₀ => ?_⟩
  obtain ⟨hcommons, hpairs, hmailbox⟩ := h.canonical h₀
  refine ⟨hcommons, fun q => ?_, hmailbox⟩
  by_cases hq : q = p
  · rw [hq, State.onPair_same]
    exact hf (hpairs p)
  · rw [State.onPair_other s p q f (Ne.symm hq)]
    exact hpairs q

theorem Follows.onPair {p : Fin 4} {f : Pair → Pair} (h : s₀.Follows s)
    (hf : ∀ q : Pair, q.Canonical → (f q).Canonical := by exact fun _ hq => hq) : s₀.Follows (s.onPair p f) :=
      h.onPair_at (hf _)

theorem Follows.onPairs {f : Vector Pair 4 → Vector Pair 4} (h : s₀.Follows s)
    (hf : ∀ v : Vector Pair 4, (∀ p : Fin 4, v[p].Canonical) → ∀ p : Fin 4, (f v)[p].Canonical) :
      s₀.Follows (s.onPairs f) :=
  ⟨h.pending, fun h₀ => ⟨(h.canonical h₀).1, hf _ (h.canonical h₀).2.1, (h.canonical h₀).2.2⟩⟩

theorem Follows.onCommons {f : List Host.Cell → List Host.Cell} (h : s₀.Follows s)
    (hf : ∀ m, memWf m = true → memWf (f m) = true) : s₀.Follows (s.onCommons f) :=
  ⟨h.pending, fun h₀ => ⟨hf _ (h.canonical h₀).1, (h.canonical h₀).2⟩⟩

/-- The same change made to every pair. -/
theorem Follows.onPairs_map {f : Pair → Pair} (h : s₀.Follows s) (hf : ∀ q : Pair, q.Canonical → (f q).Canonical) :
    s₀.Follows (s.onPairs (·.map f)) :=
  h.onPairs fun v hv p => by simpa using hf v[p] (hv p)

theorem Follows.onPairs_mapIdx {f : Nat → Pair → Pair} (h : s₀.Follows s)
    (hf : ∀ i, ∀ q : Pair, q.Canonical → (f i q).Canonical) :
    s₀.Follows (s.onPairs (·.mapIdx f)) :=
  h.onPairs fun v hv p => by simpa using hf p v[p] (hv p)

theorem Follows.storeCommons {p : Nat} {b : List Byte} (h : s₀.Follows s) :
    s₀.Follows (s.onCommons fun m => memStore m p b) :=
  h.onCommons fun m hm => memWf_memStore b m p hm

/-! ## Branches, repetitions and results -/

theorem Follows.branch {c : Prop} {_ : Decidable c} {a b : State} (ha : s₀.Follows a) (hb : s₀.Follows b) :
    s₀.Follows (if c then a else b) := by
  split
  · exact ha
  · exact hb

theorem Follows.foldl {α : Type} {l : List α} {f : State → α → State} (h : s₀.Follows s)
    (hf : ∀ t x, s₀.Follows t → s₀.Follows (f t x)) : s₀.Follows (l.foldl f s) := by
  induction l generalizing s with
  | nil => exact h
  | cons x rest ih => exact ih (hf s x h)

theorem Follows.forAll {α : Type} {l : List α} {f : α → State → State} (h : s₀.Follows s)
    (hf : ∀ x t, s₀.Follows t → s₀.Follows (f x t)) : s₀.Follows (s.forAll l f) := h.foldl fun t x => hf x t

theorem Follows.whenLive {f : State → State} (h : s₀.Follows s) (hf : ∀ t, s₀.Follows t → s₀.Follows (f t)) :
    s₀.Follows (s.whenLive f) := Follows.branch (hf s h) h

theorem Follows.fst {α : Type} {t : State} {x : α} (h : s₀.Follows t) : s₀.Follows (t, x).1 := h

theorem Follows.snd {α : Type} {t : State} {x : α} (h : s₀.Follows t) : s₀.Follows (x, t).2 := h

theorem Follows.of_some {t u : State} (h : s₀.Follows t) (hu : some t = some u) : s₀.Follows u := Option.some.inj hu ▸ h

theorem Follows.of_some_fst {α : Type} {t : State} {x : α} {r : State × α} (h : s₀.Follows t)
    (hr : some (t, x) = some r) :
    s₀.Follows r.1 := Option.some.inj hr ▸ h

/-- A state that stands first in a result. -/
theorem Follows.of_fst {α : Type} {r : State × α} {x : α} (h : s₀.Follows r.1) (hr : r = (s, x)) : s₀.Follows s := by
  rw [hr] at h
  exact h

end State

/-! ## Actions of command objects -/

/-- An action whose effect follows whatever its state follows. -/
def Action.Keeps (x : Action) : Prop :=
  ∀ (s₀ s : State) (a : Asker) (v : List Byte), s₀.Follows s → s₀.Follows (x.act a v s).1

theorem Action.Keeps.act {x : Action} (hx : x.Keeps) {s₀ s : State} {a : Asker} {v : List Byte} (h : s₀.Follows s) :
    s₀.Follows (x.act a v s).1 := hx s₀ s a v h

/-! ## Accesses and instructions -/

/-- An access whose state, where it gives one, follows. -/
def Access.Follows (s₀ : State) : Access → Prop
  | .ok s _ => s₀.Follows s
  | .trap s _ => s₀.Follows s
  | .stall => True

theorem Access.Follows.ok {s₀ s : State} {a : Access} {w : Word} (h : Access.Follows s₀ a) (ha : a = .ok s w) :
    s₀.Follows s := by
  subst ha
  exact h

theorem Access.Follows.trap {s₀ s : State} {a : Access} {t : Trap} (h : Access.Follows s₀ a) (ha : a = .trap s t) :
    s₀.Follows s := by
  subst ha
  exact h

/-- An instruction's result whose state follows. -/
def Issue.Follows (s₀ : State) : Issue → Prop
  | .done s => s₀.Follows s
  | .goto s _ => s₀.Follows s
  | .placed s => s₀.Follows s
  | .stay s => s₀.Follows s
  | .trap s _ => s₀.Follows s

/-! ## Commands -/

/-- A command that leads to a next state, which follows. -/
def Leads (s₀ : State) (o : Host.Outcome State Fault Refusal) : Prop := ∃ t, o = .next t ∧ s₀.Follows t

theorem leads_next {s₀ t : State} (h : s₀.Follows t) : Leads s₀ (.next t) := ⟨t, rfl, h⟩

end Sys2Proof.Machine

/-! SUPPORT. A pair's own operations keep its memories canonical: most touch neither, and a spill stores to the data
memory. -/

namespace Sys2Proof.Machine

set_option Elab.async false

variable {q : Pair}

/-- A pair with the memories of another. -/
theorem Pair.Canonical.same (hq : q.Canonical) {r : Pair} (hmem : r.mem = q.mem := by rfl)
    (hfetched : r.fetched = q.fetched := by rfl) : r.Canonical := by
  unfold Pair.Canonical
  rw [hmem, hfetched]
  exact hq

theorem Pair.Canonical.ite {c : Prop} {_ : Decidable c} {a b : Pair} (ha : a.Canonical) (hb : b.Canonical) :
    (if c then a else b).Canonical := by
  split
  · exact ha
  · exact hb

/-! ## Interrupts, counters and registers -/

theorem Pair.Canonical.interrupt (hq : q.Canonical) {i : Nat} : (q.interrupt i).Canonical := hq

theorem Pair.Canonical.overflowRaise (hq : q.Canonical) : q.overflowRaise.Canonical :=
    Pair.Canonical.ite hq.interrupt hq

theorem Pair.Canonical.perf (hq : q.Canonical) {e n : Nat} : (q.perf e n).Canonical := by
  obtain ⟨_, _, _, heq, -⟩ := Pair.perf_eq e n q
  rw [heq]
  exact hq

theorem Pair.Canonical.of_keepsControl (hq : q.Canonical) {r : Pair} (h : q.KeepsControl r) : r.Canonical :=
  hq.same h.mem h.fetched

theorem Pair.Canonical.store (hq : q.Canonical) {t : Target} {l : Level} {v : Word} : (q.store t l v).Canonical :=
  hq.of_keepsControl (Pair.keepsControl_store ..)

theorem Pair.Canonical.writeAfter (hq : q.Canonical) {d : Nat} {t : Target} {v : Word} :
    (q.writeAfter d t v).Canonical := hq

theorem Pair.Canonical.write (hq : q.Canonical) {n : Fin 16} {v : Word} : (q.write n v).Canonical := hq

theorem Pair.Canonical.setNow (hq : q.Canonical) {n : Fin 16} {v : Word} : (q.setNow n v).Canonical := by
  unfold Pair.setNow
  exact Pair.Canonical.store hq.same

theorem Pair.Canonical.advance (hq : q.Canonical) : q.advance.Canonical :=
    hq.of_keepsControl (Pair.keepsControl_advance q)

theorem Pair.Canonical.foldl_store {l : List InFlight} (hq : q.Canonical) :
    (l.foldl (fun acc e => acc.store e.target e.level e.value) q).Canonical := by
  induction l generalizing q with
  | nil => exact hq
  | cons e rest ih => exact ih hq.store

theorem Pair.Canonical.flush (hq : q.Canonical) : q.flush.Canonical := hq.foldl_store.same

/-- Part of a list of rising keys rises. -/
theorem krising_filter {α : Type} {m : KMap α} {f : Nat × α → Bool} (h : krising m = true) :
    krising (m.filter f) = true := by
  induction m with
  | nil => rfl
  | cons e rest ih =>
    obtain ⟨k, v⟩ := e
    rw [krising_cons, Bool.and_eq_true] at h
    obtain ⟨habove, hrest⟩ := h
    rw [List.filter_cons]
    split
    · rw [krising_cons, Bool.and_eq_true]
      exact ⟨List.all_eq_true.mpr fun x hx => List.all_eq_true.mp habove x (List.mem_of_mem_filter hx), ih hrest⟩
    · exact ih hrest

/-- Part of a canonical memory is canonical. -/
theorem memWf_filter {m : List Host.Cell} {f : Host.Cell → Bool} (h : memWf m = true) : memWf (m.filter f) = true := by
  obtain ⟨hrising, hall⟩ := Bool.and_eq_true_iff.mp h
  exact Bool.and_eq_true_iff.mpr ⟨krising_filter hrising,
    List.all_eq_true.mpr fun x hx => List.all_eq_true.mp hall x (List.mem_of_mem_filter hx)⟩

/-! ## Operations on registers that can fault -/

/-- An operation whose result, where it gives one, has canonical memories if its pair has. -/
def KeepsCanonical (f : Pair → Except Trap Pair) : Prop := ∀ q r : Pair, f q = .ok r → q.Canonical → r.Canonical

theorem keepsCanonical_ok {f : Pair → Pair}
    (hf : ∀ q : Pair, q.Canonical → (f q).Canonical := by exact fun _ hq => hq) :
    KeepsCanonical fun q => .ok (f q) := by
  intro q r hr hq
  cases hr
  exact hf q hq

/-! ## Entry, sequence and return -/

theorem Pair.initial_canonical : Pair.initial.Canonical := ⟨rfl, rfl⟩

theorem Pair.Canonical.bringUp (hq : q.Canonical) {w : Word} : (q.bringUp w).Canonical := hq

theorem Pair.Canonical.continueAt (hq : q.Canonical) {l : Level} {ml : Option (BitVec 3)} {ip : Word} :
    (q.continueAt l ml ip).Canonical := hq

/-- A pair whose memory takes a store. -/
theorem Pair.Canonical.memStore (hq : q.Canonical) (p : Nat) (b : List Byte) :
    ({ q with mem := Machine.memStore q.mem p b } : Pair).Canonical := ⟨memWf_memStore b q.mem p hq.1, hq.2⟩

theorem Pair.Canonical.nextInSequence (hq : q.Canonical) {n : Nat} : (q.nextInSequence n).Canonical := by
  unfold Pair.nextInSequence
  dsimp only
  split
  · rename_i hr
    obtain ⟨-, hr⟩ := Option.ite_none_right_eq_some.mp hr
    exact Option.some.inj hr ▸ hq.perf.same
  · have hset : (if q.atLoopEnd 1 then { q with lc := q.lc.set 1 0 } else q : Pair).Canonical :=
      Pair.Canonical.ite hq.same hq
    generalize (if q.atLoopEnd 1 then { q with lc := q.lc.set 1 0 } else q : Pair) = r at hset ⊢
    refine Pair.Canonical.ite hset.perf.same ?_
    split
    · exact hset.same
    · exact hset.same

/-! ## The return stack -/

theorem Pair.Canonical.spillTo {r : Pair} {l : Level} {n : Nat} (hq : q.Canonical) (hr : q.spillTo l n = .ok r) :
    r.Canonical := by
  unfold Pair.spillTo at hr
  dsimp only at hr
  split at hr
  · cases hr
  · split at hr
    · cases hr
    · cases hr
      exact hq.memStore ..

theorem Pair.Canonical.pushEntry {r : Pair} {l : Level} {w : Word} (hq : q.Canonical) (hr : q.pushEntry l w = .ok r) :
    r.Canonical := by
  unfold Pair.pushEntry at hr
  dsimp only at hr
  split at hr
  · cases hr
    exact hq
  · cases hspill : q.spillTo l 8 with
    | error t =>
      rw [hspill] at hr
      cases hr
    | ok a =>
      rw [hspill] at hr
      cases hr
      exact (hq.spillTo hspill).perf

theorem Pair.Canonical.fill {r : Pair} {l : Level} (hq : q.Canonical) (hr : q.fill l = .ok r) : r.Canonical := by
  unfold Pair.fill at hr
  dsimp only at hr
  split at hr
  · cases hr
    exact hq
  · split at hr
    · cases hr
    · split at hr
      · cases hr
      · cases hr
        exact Pair.Canonical.perf hq.same

theorem Pair.Canonical.popEntry {r : Pair} {w : Word} {l : Level} (hq : q.Canonical) (hr : q.popEntry l = .ok (w, r)) :
    r.Canonical := by
  unfold Pair.popEntry at hr
  cases hfill : q.fill l with
  | error t =>
    rw [hfill] at hr
    cases hr
  | ok a =>
    rw [hfill] at hr
    cases hr
    exact (hq.fill hfill).same

theorem Pair.Canonical.commitBranch {r : Pair} {b : Branch} {n : Nat} (hq : q.Canonical)
    (hr : q.commitBranch b n = .ok r) :
    r.Canonical := by
  unfold Pair.commitBranch at hr
  dsimp only at hr
  split at hr
  · cases hr
  · rename_i a hpush
    have ha : a.Canonical := by
      split at hpush
      · exact hq.pushEntry hpush
      · cases hpush
        exact hq
    split at hr
    · cases hr
    · rename_i c hpop
      have hc : c.Canonical := by
        split at hpop
        · cases hentry : a.popEntry a.level with
          | error t =>
            rw [hentry] at hpop
            cases hpop
          | ok e =>
            rw [hentry] at hpop
            cases hpop
            exact ha.popEntry hentry
        · cases hpop
          exact ha
      split at hr
      · cases hr
        exact hc.perf
      · cases hr
        exact hc.nextInSequence

end Sys2Proof.Machine

/-! SUPPORT. What follows a state through the queue, frames, command objects and alarm sources. -/

namespace Sys2Proof.Machine
namespace State

set_option Elab.async false

variable {s₀ s : State}

theorem Follows.onInteg {f : Integrity → Integrity} (h : s₀.Follows s) : s₀.Follows (s.onInteg f) :=
  h.same

theorem Follows.onModes {f : Modes → Modes} (h : s₀.Follows s) : s₀.Follows (s.onModes f) :=
  h.same

theorem Follows.onChan {n : Fin 12} {f : Channel → Channel} (h : s₀.Follows s) : s₀.Follows (s.onChan n f) :=
  h.same

theorem Follows.onChans {f : Vector Channel 12 → Vector Channel 12} (h : s₀.Follows s) : s₀.Follows (s.onChans f) :=
  h.same

theorem Follows.onCons {f : Consistency → Consistency} (h : s₀.Follows s) : s₀.Follows (s.onCons f) :=
  h.same

theorem Follows.onAtt {f : Attestation → Attestation} (h : s₀.Follows s) : s₀.Follows (s.onAtt f) :=
  h.same

theorem Follows.onLedger {f : Ledger → Ledger} (h : s₀.Follows s) : s₀.Follows (s.onLedger f) :=
  h.same

theorem Follows.onHub {f : JobHub → JobHub} (h : s₀.Follows s) : s₀.Follows (s.onHub f) :=
  h.same

theorem Follows.onEng {f : Engines → Engines} (h : s₀.Follows s) : s₀.Follows (s.onEng f) :=
  h.same

theorem Follows.onKeys {f : KeyUnit → KeyUnit} (h : s₀.Follows s) : s₀.Follows (s.onKeys f) :=
  h.same

theorem Follows.onEnt {f : Entropy → Entropy} (h : s₀.Follows s) : s₀.Follows (s.onEnt f) :=
  h.same

theorem Follows.onVigil {f : Vigil → Vigil} (h : s₀.Follows s) : s₀.Follows (s.onVigil f) :=
  h.same

theorem Follows.onTamper {f : Tamper → Tamper} (h : s₀.Follows s) : s₀.Follows (s.onTamper f) :=
  h.same

theorem Follows.onGaunt {f : Gauntlet → Gauntlet} (h : s₀.Follows s) : s₀.Follows (s.onGaunt f) :=
  h.same

theorem Follows.onFlash {f : FlashCtl → FlashCtl} (h : s₀.Follows s) : s₀.Follows (s.onFlash f) :=
  h.same

theorem Follows.onTag {f : TagIsland → TagIsland} (h : s₀.Follows s) : s₀.Follows (s.onTag f) :=
  h.same

theorem Follows.onCards {f : Cards → Cards} (h : s₀.Follows s) : s₀.Follows (s.onCards f) :=
  h.same

theorem Follows.onPower {f : Power → Power} (h : s₀.Follows s) : s₀.Follows (s.onPower f) :=
  h.same

theorem Follows.send {o : Output} (h : s₀.Follows s) : s₀.Follows (s.send o) := h.same

theorem Follows.drawFree (h : s₀.Follows s) : s₀.Follows s.drawFree.2 := by
  unfold State.drawFree
  exact h.same

theorem Follows.put {key : Nat} {v : Val} (h : s₀.Follows s) : s₀.Follows (s.put key v) := h.onDict

theorem Follows.putNum {key n : Nat} (h : s₀.Follows s) : s₀.Follows (s.putNum key n) := h.put

theorem Follows.bumpBy {key bits n : Nat} (h : s₀.Follows s) : s₀.Follows (s.bumpBy key bits n) := h.putNum

theorem Follows.bump {key : Nat} (h : s₀.Follows s) : s₀.Follows (s.bump key) := h.bumpBy

theorem Follows.wrapBy {key n : Nat} (h : s₀.Follows s) : s₀.Follows (s.wrapBy key n) := h.putNum

theorem Follows.bumpWord {key n i : Nat} {by_ : Nat} (h : s₀.Follows s) : s₀.Follows (s.bumpWord key n i by_) := h.put

theorem Follows.wrapWord {key n i : Nat} {by_ : Nat} (h : s₀.Follows s) : s₀.Follows (s.wrapWord key n i by_) := h.put

theorem Follows.setCmd {key status code : Nat} (h : s₀.Follows s) : s₀.Follows (s.setCmd key status code) := h.put

theorem Follows.endCmd {key status code : Nat} (h : s₀.Follows s) : s₀.Follows (s.endCmd key status code) :=
  Follows.branch h.setCmd h

theorem Follows.doneCmd {key : Nat} (h : s₀.Follows s) : s₀.Follows (s.doneCmd key) := h.endCmd

theorem Follows.failCmd {key code : Nat} (h : s₀.Follows s) : s₀.Follows (s.failCmd key code) := h.endCmd

theorem Follows.abortCmd {key code : Nat} (h : s₀.Follows s) : s₀.Follows (s.abortCmd key code) := h.endCmd

theorem Follows.onSession {id : Word} {f : Session → Session} (h : s₀.Follows s) : s₀.Follows (s.onSession id f) :=
  h.onDict

theorem Follows.onHolder {a : Asker} {f : Holder → Holder} (h : s₀.Follows s) : s₀.Follows (s.onHolder a f) := by
  unfold State.onHolder
  split
  · exact h.onSession
  · exact h.onDict

theorem Follows.slotReady {k : Fin 4} {b : List Byte} (h : s₀.Follows s) : s₀.Follows (s.slotReady k b) :=
  Follows.send (h.onDict fun _ hd => hd.set (hd k))

theorem Follows.sealFrame {f : Frame} {id : Option Word} (h : s₀.Follows s) : s₀.Follows (s.sealFrame f id).2 := by
  unfold State.sealFrame
  dsimp only
  split
  · exact h
  · exact h.onSession

theorem Follows.deliver {f : Frame} (h : s₀.Follows s) : s₀.Follows (s.deliver f) := by
  unfold State.deliver
  split
  · exact h.slotReady.send
  · exact h.send

theorem Follows.unanswered {f : Frame} (h : s₀.Follows s) : s₀.Follows (s.unanswered f) := by
  unfold State.unanswered
  split
  · exact h.slotReady
  · exact h

theorem Follows.answerAs {kind : BitVec 4} {f : Frame} {code : Nat} {payload : List Byte} {more : Bool}
    (h : s₀.Follows s) : s₀.Follows (s.answerAs kind f code payload more) :=
  Follows.branch h.unanswered h.sealFrame.deliver

theorem Follows.answer {f : Frame} {code : Nat} {payload : optParam (List Byte) []}
    (h : s₀.Follows s) : s₀.Follows (s.answer f code payload) :=
  h.answerAs

theorem Follows.dropFrame {counter : Nat} {f : Frame} (h : s₀.Follows s) : s₀.Follows (s.dropFrame counter f) := by
  unfold State.dropFrame
  dsimp only
  split
  · exact h.bump.slotReady
  · exact h.bump

theorem Follows.accepted {f : Frame} (h : s₀.Follows s) : s₀.Follows (s.accepted f) := by
  unfold State.accepted
  split
  · exact h
  · exact h.onSession

theorem Follows.receive {f : Frame} (h : s₀.Follows s) : s₀.Follows (s.receive f).1 := by
  unfold State.receive
  dsimp only
  split
  · exact h
  · split
    · exact h.dropFrame
    · split
      · exact h.dropFrame
      · exact h.dropFrame
      · split
        · exact h.accepted.answerAs
        · split
          · exact h.accepted.answer
          · split
            · exact h.accepted.answer
            · exact h.accepted

theorem Follows.endSegment {key : Nat} (h : s₀.Follows s) : s₀.Follows (s.endSegment key) := h.onDict

theorem Follows.countEnvelope {c : Option Nat} (h : s₀.Follows s) : s₀.Follows (s.countEnvelope c) := by
  unfold State.countEnvelope
  split
  · exact h.putNum
  · exact h

theorem Follows.keepSegment {a : Asker} {key : Nat} {b : List Byte} (h : s₀.Follows s) :
    s₀.Follows (s.keepSegment a key b) :=
  h.endSegment.onDict

theorem Follows.dropSegment {a : Asker} {key : Nat} (h : s₀.Follows s) : s₀.Follows (s.dropSegment a key) := by
  unfold State.dropSegment
  split
  · exact Follows.branch h.endSegment h
  · exact h

theorem Follows.touch {a : Asker} {key : Nat} (h : s₀.Follows s) : s₀.Follows (s.touch a key) := h.onDict

theorem Follows.conclude {key : Nat} {r : State × CmdEnd} (h : s₀.Follows r.1) : s₀.Follows (State.conclude key r) := by
  unfold State.conclude
  split
  · exact h.doneCmd
  · exact h
  · exact h.failCmd
  · exact h.abortCmd

theorem Follows.startAction {key : Nat} {f : Frame} {a : Asker} {v : List Byte} {x : Action} (h : s₀.Follows s)
    (hx : x.Keeps) :
    s₀.Follows (s.startAction key f a v x) := (hx.act h.setCmd.touch.answer).conclude

theorem Follows.beginAction {key : Nat} {f : Frame} {a : Asker} {v : List Byte} {x : Action}
    (h : s₀.Follows s) (hx : x.Keeps) : s₀.Follows (s.beginAction key f a v x) :=
  Follows.branch h.answer (Follows.branch h.bump.answer (Follows.branch h.answer (h.startAction hx)))

theorem Follows.writeCmd {key : Nat} {f : Frame} {a : Asker} {p : List Byte} {x : Action}
    (h : s₀.Follows s) (hx : x.Keeps) : s₀.Follows (s.writeCmd key f a p x) := by
  unfold State.writeCmd
  split
  · exact h.answer
  · split
    · exact h.answer
    · split
      · exact h.countEnvelope.dropSegment.answer
      · exact h.keepSegment.answer
      · exact h.countEnvelope.endSegment.beginAction hx

theorem Follows.runCmd {key : Nat} {f : Frame} {x : Action}
    (h : s₀.Follows s) (hx : x.Keeps) : s₀.Follows (s.runCmd key f x) := by
  unfold State.runCmd
  split
  · exact h
  · split
    · rename_i t heq
      exact (h.receive.of_fst heq)
    · rename_i t _ _ heq
      exact ((h.receive.of_fst heq)).writeCmd hx

theorem Follows.arise {source response : Nat} {raised : Bool} {detail : Word}
    (h : s₀.Follows s) : s₀.Follows (s.arise source response raised detail) :=
  h.onTamper

theorem Follows.event {source : Nat} {detail : Word} (h : s₀.Follows s) : s₀.Follows (s.event source detail) :=
  h.arise

theorem Follows.onSource {n : Nat} {f : Source → Source} (h : s₀.Follows s) : s₀.Follows (s.onSource n f) :=
  h.onTamper

theorem Follows.respond {n r : Nat} (h : s₀.Follows s) : s₀.Follows (s.respond n r) := h.onTamper

theorem Follows.raiseSource {n : Nat} {detail : Word} (h : s₀.Follows s) : s₀.Follows (s.raiseSource n detail) :=
  Follows.branch h ((Follows.branch h.onPower h).onSource.bumpWord.arise.respond)

theorem Follows.clearSource {n : Nat} {detail : Word} (h : s₀.Follows s) : s₀.Follows (s.clearSource n detail) :=
  Follows.branch h.onSource.arise h

theorem Follows.occur {n kind fields : Nat} (h : s₀.Follows s) : s₀.Follows (s.occur n kind fields) := by
  unfold State.occur
  dsimp only
  split
  · exact Follows.branch h.bumpWord.respond.onSource h.bumpWord.respond.onSource.arise
  · exact h.bumpWord.respond.onSource.arise

theorem Follows.setFlag {i : Nat} {b : Bool} (h : s₀.Follows s) : s₀.Follows (s.setFlag i b) := h.onVigil

theorem Follows.interruptAll {i : Nat} (h : s₀.Follows s) : s₀.Follows (s.interruptAll i) :=
  h.onPairs_map fun q hq => by
    split
    · exact hq.interrupt
    · exact hq

end State
end Sys2Proof.Machine

/-! SUPPORT. What follows a state through embedded flash, curves and the Gauntlet. -/

namespace Sys2Proof.Machine
namespace State

set_option Elab.async false

variable {s₀ s : State}

theorem Follows.onBank {b : Nat} {f : FlashBank → FlashBank} (h : s₀.Follows s) : s₀.Follows (s.onBank b f) :=
  h.onFlash

theorem Follows.setCell {b off : Nat} {c : Option FlashCell} (h : s₀.Follows s) : s₀.Follows (s.setCell b off c) := by
  unfold State.setCell
  exact h.onBank

theorem Follows.programWord {b off : Nat} {w : Word} (h : s₀.Follows s) : s₀.Follows (s.programWord b off w) := by
  unfold State.programWord
  split
  · exact h.setCell
  · exact Follows.branch h.setCell h

theorem Follows.programWords {b off : Nat} {l : List Word} (h : s₀.Follows s) :
    s₀.Follows (s.programWords b off l) := by
  induction l generalizing off s with
  | nil => exact h
  | cons w rest ih => exact ih h.programWord

theorem Follows.spoilWord {b off : Nat} {w : Word} (h : s₀.Follows s) : s₀.Follows (s.spoilWord b off w) :=
  Follows.branch h.drawFree.setCell (Follows.branch h.drawFree.setCell h.drawFree)

theorem Follows.spoilWords {b off : Nat} {l : List Word} (h : s₀.Follows s) : s₀.Follows (s.spoilWords b off l) := by
  induction l generalizing off s with
  | nil => exact h
  | cons w rest ih => exact ih h.spoilWord

theorem Follows.clearSector {b sector : Nat} (h : s₀.Follows s) : s₀.Follows (s.clearSector b sector) := by
  unfold State.clearSector
  exact h.onBank

theorem Follows.journalPut {b : Nat} {w : Word} (h : s₀.Follows s) : s₀.Follows (s.journalPut b w) := by
  unfold State.journalPut
  exact h.programWord.onBank

theorem Follows.journalTurn {b : Nat} (h : s₀.Follows s) : s₀.Follows (s.journalTurn b) :=
  Follows.branch h ((((h.onBank.journalPut.forAll (fun _ _ h => h.journalPut)).forAll (fun _ _ h =>
    h.journalPut)).forAll (fun _ _ h => h.journalPut)).clearSector)

theorem Follows.journal {b kind sector spare : Nat} (h : s₀.Follows s) : s₀.Follows (s.journal b kind sector spare) :=
  h.journalTurn.journalPut

theorem Follows.putOctetsAt {key off : Nat} {b : List Byte} (h : s₀.Follows s) : s₀.Follows (s.putOctetsAt key off b) :=
  h.put

theorem Follows.countErase {b sector : Nat} (h : s₀.Follows s) : s₀.Follows (s.countErase b sector) :=
  Follows.branch h.putOctetsAt.event h.putOctetsAt

theorem Follows.marginTime {b sector : Nat} (h : s₀.Follows s) : s₀.Follows (s.marginTime b sector) := h.putOctetsAt

theorem Follows.finishErase {b sector : Nat} (h : s₀.Follows s) : s₀.Follows (s.finishErase b sector) :=
  h.clearSector.onBank.journal.countErase

theorem Follows.openErase {b sector : Nat} (h : s₀.Follows s) : s₀.Follows (s.openErase b sector) :=
  Follows.branch h h.journal.onBank

theorem Follows.eraseNow {b sector : Nat} (h : s₀.Follows s) : s₀.Follows (s.eraseNow b sector) :=
    h.openErase.finishErase

theorem Follows.remapSector {b sector : Nat} (h : s₀.Follows s) : s₀.Follows (s.remapSector b sector).1 := by
  unfold State.remapSector
  split
  · split
    · exact Follows.fst (h.journal.onBank)
    · exact h.event
  · exact h.event

theorem Follows.counterSwitch {k v : Nat} (h : s₀.Follows s) : s₀.Follows (s.counterSwitch k v) := by
  unfold State.counterSwitch
  exact h.eraseNow.programWord.programWord

theorem Follows.counterInc {k : Nat} (h : s₀.Follows s) : s₀.Follows (s.counterInc k) := by
  unfold State.counterInc
  split
  · exact h.event.counterSwitch
  · split
    · exact h.programWord
    · exact h.counterSwitch

theorem Follows.counterSetTo {k v : Nat} (h : s₀.Follows s) : s₀.Follows (s.counterSetTo k v).1 := by
  unfold State.counterSetTo
  split
  · exact h
  · exact Follows.fst ((Follows.branch h.event h).counterSwitch)

theorem Follows.lifecycleNext (h : s₀.Follows s) : s₀.Follows s.lifecycleNext :=
    Follows.branch h.programWord.programWord h

theorem Follows.writeCopy {c generation : Nat} {w : List Word} (h : s₀.Follows s) :
    s₀.Follows (s.writeCopy c generation w) :=
  h.eraseNow.eraseNow.programWords.programWords.programWords.programWords.programWords.programWord

theorem Follows.optionRewriteNow {w : List Word} (h : s₀.Follows s) : s₀.Follows (s.optionRewriteNow w) :=
  h.writeCopy

theorem Follows.optionSpoil (h : s₀.Follows s) : s₀.Follows s.optionSpoil := h.eraseNow.eraseNow

theorem Follows.setCommonsWord {p : Nat} {w : Word} (h : s₀.Follows s) : s₀.Follows (s.setCommonsWord p w) :=
  h.storeCommons

theorem Follows.descStatus {index status code : Nat} (h : s₀.Follows s) : s₀.Follows (s.descStatus index status code) :=
  h.setCommonsWord.setCommonsWord

theorem Follows.reportFlash {r : FlashFor} {status code : Nat}
    (h : s₀.Follows s) : s₀.Follows (s.reportFlash r status code) := by
  unfold State.reportFlash
  dsimp only
  split
  · exact h.onFlash.interruptAll
  · exact Follows.branch h.descStatus.onFlash.interruptAll h.descStatus.onFlash
  · exact h

theorem Follows.copyToSpare {b sector spare : Nat} (h : s₀.Follows s) : s₀.Follows (s.copyToSpare b sector spare) :=
  h.onBank.forAll (fun _ _ h => h.onBank)

theorem Follows.renewCopy {b sector : Nat} (h : s₀.Follows s) : s₀.Follows (s.renewCopy b sector) := by
  unfold State.renewCopy
  split
  · exact h
  · exact Follows.branch h h.copyToSpare

theorem Follows.startFlash {o : FlashOp} (h : s₀.Follows s) : s₀.Follows (s.startFlash o) := by
  unfold State.startFlash
  exact (Follows.branch h.renewCopy.openErase h).onBank

theorem Follows.pumpBank {b fuel : Nat} (h : s₀.Follows s) : s₀.Follows (s.pumpBank b fuel) := by
  induction fuel generalizing s with
  | zero => exact h
  | succ fuel ih =>
    unfold State.pumpBank
    refine Follows.branch h (Follows.branch h.onBank ?_)
    split
    · exact h
    · exact Follows.branch h.onBank.startFlash (ih h.onBank.reportFlash)

theorem Follows.preempt {b : Nat} (h : s₀.Follows s) : s₀.Follows (s.preempt b) := by
  unfold State.preempt
  dsimp only
  split
  · exact Follows.branch h.onBank h
  · exact h

theorem Follows.pump {b : Nat} (h : s₀.Follows s) : s₀.Follows (s.pump b) := h.preempt.pumpBank

theorem Follows.submitFlash {o : FlashOp} (h : s₀.Follows s) : s₀.Follows (s.submitFlash o) :=
  h.onFlash.onBank.pump

theorem Follows.refresh {b sector : Nat} (h : s₀.Follows s) : s₀.Follows (s.refresh b sector) := by
  unfold State.refresh
  dsimp only
  split
  · exact h
  · exact Follows.branch h h.copyToSpare.journal.onBank.submitFlash

theorem Follows.refreshEnd {b sector : Nat} (h : s₀.Follows s) : s₀.Follows (s.refreshEnd b sector) := by
  unfold State.refreshEnd
  dsimp only
  split
  · exact h
  · exact ((((((((h.forAll (fun _ _ h => h.setCell))).onBank).journal)).eraseNow)).bump).marginTime

theorem Follows.marginResult {b sector failing : Nat} {corrected : Bool}
    (h : s₀.Follows s) : s₀.Follows (s.marginResult b sector failing corrected) :=
  have h : s₀.Follows _ := h.bumpBy.marginTime
  have h : s₀.Follows _ := Follows.branch h.bumpWord h
  Follows.branch h.refresh h

theorem Follows.endFlash {b : Nat} {o : FlashOp} {status code : Nat}
    (h : s₀.Follows s) : s₀.Follows (s.endFlash b o status code) :=
  h.onBank.reportFlash.pump

theorem Follows.flashVerified {b : Nat} {o : FlashOp} (h : s₀.Follows s) : s₀.Follows (s.flashVerified b o) := by
  unfold State.flashVerified
  dsimp only
  split
  · exact Follows.branch h.programWords.onBank.pump h.programWords.endFlash
  · exact Follows.branch h.programWords.onBank.pump h.programWords.endFlash
  · exact h.finishErase.refreshEnd.endFlash
  · exact h.programWord.endFlash
  · exact h.counterInc.endFlash
  · exact h.counterSetTo.endFlash
  · exact h.optionRewriteNow.endFlash
  · exact h.lifecycleNext.endFlash
  · exact h.endFlash
  · exact h.endFlash
  · exact h.endFlash

theorem Follows.flashBroken {b : Nat} {o : FlashOp} (h : s₀.Follows s) : s₀.Follows (s.flashBroken b o) := by
  unfold State.flashBroken
  dsimp only
  split
  · exact h.spoilWords.endFlash
  · exact h.spoilWords.endFlash
  · exact h.spoilWord.endFlash
  · exact h.remapSector.endFlash
  · exact h.optionSpoil.endFlash
  · exact h.endFlash

theorem Follows.flashComplete {b : Nat} {e : FlashEnd} (h : s₀.Follows s) : s₀.Follows (s.flashComplete b e) := by
  unfold State.flashComplete
  dsimp only
  split
  · exact h
  · split
    · exact h.flashVerified
    · exact h.flashBroken
    · exact Follows.branch ((Follows.branch h.onFlash h).marginResult.endFlash) h

theorem Follows.abortFlash {r : FlashFor} (h : s₀.Follows s) : s₀.Follows (s.abortFlash r) :=
  h.foldl fun _ _ h => by
    dsimp only
    refine Follows.branch ?_ (Follows.branch ?_ (Follows.branch h.onBank.reportFlash.pump h))
    · split
      · exact h
      · refine Follows.branch (Follows.onBank ?_).reportFlash.submitFlash (Follows.onBank ?_).reportFlash.pump <;>
          (split; exacts [h.spoilWords, h.spoilWords, h.spoilWord, h])
    · split
      · exact h
      · exact h.onBank.reportFlash.submitFlash

theorem Follows.fcKeyWrite {w : Word} (h : s₀.Follows s) : s₀.Follows (s.fcKeyWrite w) := h.onFlash

theorem Follows.keyFailure (h : s₀.Follows s) : s₀.Follows s.keyFailure :=
  have h : s₀.Follows _ := h.bumpBy.onFlash
  Follows.branch h.onFlash.event h

theorem Follows.eraseControl {cmd : FlashCmd} {b : Nat} (h : s₀.Follows s) : s₀.Follows (s.eraseControl cmd b) := by
  unfold State.eraseControl
  dsimp only
  split
  · split
    · exact Follows.branch (Follows.branch h.onBank.pump h.onBank) h
    · exact h
  · exact Follows.branch h.onBank h
  · exact h

theorem Follows.directFlash {cmd : FlashCmd} {bank : Nat} {inTime : Bool}
    (h : s₀.Follows s) : s₀.Follows (s.directFlash cmd bank inTime) := by
  unfold State.directFlash
  dsimp only
  split
  · exact h.onFlash
  · split
    · exact h.keyFailure
    · split
      · exact h.onFlash
      · split
        · exact h.onFlash.eraseControl.reportFlash
        · exact h.onFlash.eraseControl.reportFlash
        · exact h.onFlash.submitFlash

theorem Follows.takeDesc {index : Nat} (h : s₀.Follows s) : s₀.Follows (s.takeDesc index) := by
  unfold State.takeDesc
  dsimp only
  split
  · exact h.reportFlash
  · split
    · exact h.descStatus.eraseControl.reportFlash
    · exact h.descStatus.eraseControl.reportFlash
    · exact h.descStatus.submitFlash

theorem Follows.fqTail {v : Nat} (h : s₀.Follows s) : s₀.Follows (s.fqTail v) :=
    h.onFlash.forAll (fun _ _ h => h.reportFlash)

theorem Follows.flashPowerFail (h : s₀.Follows s) : s₀.Follows s.flashPowerFail :=
    h.onFlash.foldl (fun _ _ h => h.onBank)

theorem Follows.flashPowerBack (h : s₀.Follows s) : s₀.Follows s.flashPowerBack := h.onFlash.pump.pump

theorem Follows.flashReset (h : s₀.Follows s) : s₀.Follows s.flashReset := by
  unfold State.flashReset
  refine Follows.onFlash (h.foldl fun t b ht => Follows.onBank ?_)
  split
  · split
    · exact ht.programWords
    · exact ht.programWords
    · exact ht.programWord
    · exact ht
  · exact ht

theorem Follows.completeErases (h : s₀.Follows s) : s₀.Follows s.completeErases :=
  h.foldl (fun _ _ h => h.forAll (fun _ _ h => h.submitFlash))

theorem Follows.checkCurveWrite {slot : Nat} {b : List Byte} (h : s₀.Follows s) :
    s₀.Follows (s.checkCurveWrite slot b).1 := by
  unfold State.checkCurveWrite
  dsimp only
  split
  · exact h
  · split
    · exact h.same
    · exact h.putNum.same

theorem Follows.curveCommitted {slot : Nat} {b : List Byte} (h : s₀.Follows s) : s₀.Follows (s.curveCommitted slot b) :=
  h.putOctetsAt.onEng

theorem Follows.checkCurves (h : s₀.Follows s) : s₀.Follows s.checkCurves := h.onEng.forAll (fun _ _ h => h.event)

theorem Follows.countRefusal {gate : Nat} (h : s₀.Follows s) : s₀.Follows (s.countRefusal gate) := h.bumpWord

theorem Follows.ruleTakesEffect {gate : Fin 14} {rule : Fin 16} {w1 : Word}
    (h : s₀.Follows s) : s₀.Follows (s.ruleTakesEffect gate rule w1) := by
  unfold State.ruleTakesEffect
  exact h.onGaunt

theorem Follows.ruleStaged {gate : Fin 14} {rule : Fin 16} {w0 : Word}
    (h : s₀.Follows s) : s₀.Follows (s.ruleStaged gate rule w0) :=
  h.onGaunt

theorem gateFenceAction_keeps : gateFenceAction.Keeps := by
  intro s₀ s _ _ h
  unfold gateFenceAction
  dsimp only
  exact h

end State
end Sys2Proof.Machine

/-! SUPPORT. What follows a state through keys and the Job Hub. -/

namespace Sys2Proof.Machine
namespace State

set_option Elab.async false

variable {s₀ s : State}

theorem Follows.fillSlot {n : Nat} {k : KeySlot} (h : s₀.Follows s) : s₀.Follows (s.fillSlot n k) := h.onKeys

theorem Follows.emptySlot {n : Nat} (h : s₀.Follows s) : s₀.Follows (s.emptySlot n) := h.onKeys

theorem Follows.drawOctets {n : Nat} (h : s₀.Follows s) : s₀.Follows (s.drawOctets n).2 := by
  induction n generalizing s with
  | zero => exact h
  | succ n ih => exact ih h.drawFree

theorem Follows.wrapLedgerKey {material : List Byte} (h : s₀.Follows s) : s₀.Follows (s.wrapLedgerKey material) := by
  unfold State.wrapLedgerKey
  dsimp only
  split
  · exact h
  · exact h.drawOctets.bump.onLedger

theorem Follows.rewrapLedgerKey {minimum : Nat} (h : s₀.Follows s) : s₀.Follows (s.rewrapLedgerKey minimum) := by
  unfold State.rewrapLedgerKey
  split
  · exact Follows.branch h.wrapLedgerKey h
  · exact h

theorem Follows.takeWords {n : Nat} {r : List Word × State} (h : s₀.Follows s) (hr : s.takeWords n = some r) :
    s₀.Follows r.2 := by
  obtain ⟨-, hr⟩ := Option.ite_none_right_eq_some.mp hr
  rw [← Option.some.inj hr]
  exact Follows.snd h.onEnt

theorem Follows.tickMoment (h : s₀.Follows s) : s₀.Follows s.tickMoment := h.onEnt

theorem Follows.clearKeys (h : s₀.Follows s) : s₀.Follows s.clearKeys := h.onKeys

theorem Follows.endKeyCommands {st : KuState} {code : Nat} (h : s₀.Follows s) : s₀.Follows (s.endKeyCommands st code) :=
  h.onKeys

theorem Follows.onJob {slot : Nat} {f : Job → Job} (h : s₀.Follows s) : s₀.Follows (s.onJob slot f) :=
  h.onHub

theorem Follows.onHubWindow {w : Fin 12} {f : HubWindow → HubWindow} (h : s₀.Follows s) :
    s₀.Follows (s.onHubWindow w f) :=
  h.onHub

theorem Follows.unplace {x0 : BitVec 24} (h : s₀.Follows s) : s₀.Follows (s.unplace x0) := h.onHub

theorem Follows.freeSlot {slot : Nat} (h : s₀.Follows s) : s₀.Follows (s.freeSlot slot) := h.onHub

theorem Follows.conclusion {slot : Nat} {st : JobState} {code produced : Nat}
    (h : s₀.Follows s) : s₀.Follows (s.conclusion slot st code produced) := by
  unfold State.conclusion
  dsimp only
  split
  · exact h
  · split
    · exact h
    · split
      · exact h.unplace.onJob.freeSlot
      · exact Follows.branch h.unplace.onJob.onHubWindow.onPair h.unplace.onJob.onHubWindow

theorem Follows.endJobs {fuel : Nat} {l : List (Nat × JobState × Nat × Nat)} (h : s₀.Follows s) :
    s₀.Follows (s.endJobs fuel l) := by
  induction fuel generalizing l s with
  | zero => exact h
  | succ fuel ih =>
    match l with
    | [] => exact h
    | (slot, st, code, produced) :: rest =>
      exact Follows.branch (ih (h.conclusion.forAll fun _ _ h => h.onJob)) (ih h.conclusion)

theorem Follows.endJob {slot : Nat} {st : JobState} {code produced : Nat}
    (h : s₀.Follows s) : s₀.Follows (s.endJob slot st code produced) :=
  h.endJobs

theorem Follows.failJob {slot code : Nat} (h : s₀.Follows s) : s₀.Follows (s.failJob slot code) := h.endJob

theorem Follows.clearContext {j : Job} (h : s₀.Follows s) : s₀.Follows (s.clearContext j) :=
  Follows.branch h h.storeCommons

theorem Follows.dropJob {slot : Nat} (h : s₀.Follows s) : s₀.Follows (s.dropJob slot) := by
  unfold State.dropJob
  dsimp only
  split
  · exact h
  · exact (((((Follows.branch h.clearContext h).unplace).freeSlot).onHub)).forAll (fun _ _ h => h.failJob)

theorem Follows.abortJobs {fuel : Nat} {l : List Nat} (h : s₀.Follows s) : s₀.Follows (s.abortJobs fuel l) := by
  induction fuel generalizing l s with
  | zero => exact h
  | succ fuel ih =>
    match l with
    | [] => exact h
    | slot :: rest =>
      unfold State.abortJobs
      split
      · exact ih h
      · exact Follows.branch (ih h) (ih (Follows.branch h.onJob (Follows.branch h.clearContext h).endJob))

theorem Follows.dropTree {slot : Nat} (h : s₀.Follows s) : s₀.Follows (s.dropTree slot) :=
  (Follows.branch h.abortJobs h).dropJob

theorem Follows.abortJob {slot : Nat} (h : s₀.Follows s) : s₀.Follows (s.abortJob slot) := h.abortJobs

theorem Follows.failUnavailable {cls : Nat} (h : s₀.Follows s) : s₀.Follows (s.failUnavailable cls) :=
  Follows.branch h (h.forAll (fun _ _ h => h.failJob))

theorem Follows.allocate {j : Job} (h : s₀.Follows s) : s₀.Follows (s.allocate j).1 := by
  unfold State.allocate
  dsimp only
  split
  · exact h
  · exact h.onHub.tickMoment

theorem Follows.startWaiting {slot : Nat} (h : s₀.Follows s) : s₀.Follows (s.startWaiting slot) := by
  unfold State.startWaiting
  split
  · exact h
  · split
    · exact h.onJob
    · exact Follows.branch h.onJob (Follows.branch h.failJob h)

theorem Follows.submit {p : Fin 4} {l : Level} (h : s₀.Follows s) : s₀.Follows (s.submit p l) := by
  unfold State.submit
  dsimp only
  split
  · exact (Follows.branch h.bump h).onHubWindow
  · split
    · rename_i t heq
      exact ((h.allocate.of_fst heq)).onHubWindow
    · rename_i t _ heq
      exact ((((h.allocate.of_fst heq)).startWaiting).failUnavailable).onHubWindow

theorem Follows.dropChildren {x0 : BitVec 24} (h : s₀.Follows s) : s₀.Follows (s.dropChildren x0) :=
  h.forAll (fun _ _ h => h.dropTree)

theorem Follows.replaceJob {slot : Nat} (h : s₀.Follows s) : s₀.Follows (s.replaceJob slot) := by
  unfold State.replaceJob
  dsimp only
  split
  · exact h
  · exact Follows.branch h.endJob (Follows.branch h (Follows.branch h.bump.failJob ((Follows.branch h.dropChildren
      h).unplace.onJob.bump.failUnavailable)))

theorem Follows.leaveService {code cls : Nat} (h : s₀.Follows s) : s₀.Follows (s.leaveService code cls) := by
  unfold State.leaveService
  refine Follows.failUnavailable ?_
  split
  · exact h.onHub.replaceJob
  · exact h.onHub

theorem Follows.hubPairReset {p : Fin 4} (h : s₀.Follows s) : s₀.Follows (s.hubPairReset p) := by
  unfold State.hubPairReset
  exact (((h.forAll (fun _ _ h => h.replaceJob)).forAll (fun _ _ h => h.dropTree)).forAll (fun _ _ h =>
      h.dropJob)).onHub

theorem Follows.hubClosed (h : s₀.Follows s) : s₀.Follows s.hubClosed := by
  unfold State.hubClosed
  exact (h.forAll (fun _ _ h => Follows.branch h.clearContext h)).onHub

theorem Follows.sealContext {j : Job} {processed : Nat} {body : List Byte} {key : BitVec 256} (h : s₀.Follows s) :
    s₀.Follows (s.sealContext j processed body key) :=
  Follows.wrapBy (Follows.onEng (Follows.storeCommons h))

theorem Follows.commonsStores {l : List (Nat × List Byte)} (h : s₀.Follows s) : s₀.Follows (s.commonsStores l) :=
  h.forAll (fun _ _ h => h.storeCommons)

theorem Follows.countWork {j : Job} {place iterations : Nat} (h : s₀.Follows s) :
    s₀.Follows (s.countWork j place iterations) :=
  Follows.branch h.wrapWord (Follows.branch (have h : s₀.Follows _ := h.wrapWord.wrapBy
  Follows.branch h.bump h) h.wrapWord)

theorem Follows.applyResult {slot : Nat} {j : Job} {place iterations : Nat} (h : s₀.Follows s) :
    s₀.Follows (s.applyResult slot j place iterations) := by
  have hstore : s₀.Follows ((s.countWork j place iterations).commonsStores (s.engineResult j iterations).writes) :=
    h.countWork.commonsStores
  refine Follows.branch h.countWork.failJob (Follows.branch hstore.failJob ?_)
  split
  · dsimp only
    split
    · exact hstore.fillSlot.endJob
    · split
      · exact hstore.fillSlot.failJob
      · exact hstore.fillSlot.sealContext.endJob
  · dsimp only
    split
    · exact hstore.endJob
    · split
      · exact hstore.failJob
      · exact hstore.sealContext.endJob

theorem Follows.jhSubmit {p : Fin 4} {l : Level} (h : s₀.Follows s) : s₀.Follows (s.jhSubmit p l) :=
  h.submit.onPair fun _ hq => hq.perf

theorem Follows.jhPop {p : Fin 4} {l : Level} (h : s₀.Follows s) : s₀.Follows (s.jhPop p l).1 := by
  unfold State.jhPop
  dsimp only
  split
  · exact h
  · exact Follows.fst ((by split; exacts [h.onHubWindow.freeSlot, h.onHubWindow]))

theorem Follows.jhAbort {p : Fin 4} {l : Level} {value : Word} (h : s₀.Follows s) :
    s₀.Follows (s.jhAbort p l value) := by
  unfold State.jhAbort
  refine Follows.onHubWindow ?_
  split
  · exact h
  · split
    · exact h
    · split
      · exact h
      · split
        · exact h
        · exact h.abortJob

theorem Follows.jhQuery {p : Fin 4} {l : Level} {value : Word} (h : s₀.Follows s) : s₀.Follows (s.jhQuery p l value) :=
  h.onHubWindow

theorem Follows.jhTake {p : Fin 4} (h : s₀.Follows s) : s₀.Follows (s.jhTake p).1 := by
  unfold State.jhTake
  split
  · exact h
  · exact Follows.fst (h.onHub)

theorem Follows.jhCurrent {p : Fin 4} {value : Word} (h : s₀.Follows s) : s₀.Follows (s.jhCurrent p value) :=
  h.onHub

theorem Follows.countStale (h : s₀.Follows s) : s₀.Follows s.countStale := h.bump

theorem Follows.jhDone {p : Fin 4} {value : Word} (h : s₀.Follows s) : s₀.Follows (s.jhDone p value) := by
  unfold State.jhDone
  dsimp only
  split
  · exact h.countStale
  · split
    · exact h.countStale
    · exact Follows.branch h.countStale (Follows.branch h.endJob (Follows.branch h.countStale (Follows.branch h.endJob
        h.failJob)))

theorem Follows.jhCheckpoint {p : Fin 4} {l : Level} {value : Word}
    (h : s₀.Follows s) : s₀.Follows (s.jhCheckpoint p l value) := by
  unfold State.jhCheckpoint
  dsimp only
  split
  · exact h.onHubWindow
  · split
    · exact h.onHubWindow
    · exact Follows.branch h.onHubWindow (Follows.branch h.onHubWindow h.onJob)

theorem Follows.onHealth {code : Nat} {f : EngineHealth → EngineHealth} (h : s₀.Follows s) :
    s₀.Follows (s.onHealth code f) :=
  h.onEng

theorem Follows.startOn {slot code : Nat} {f : Job → Job} (h : s₀.Follows s) : s₀.Follows (s.startOn slot code f) :=
  h.onJob.onHub

theorem Follows.placeEngine {slot : Nat} {j : Job} {code : Nat}
    (h : s₀.Follows s) : s₀.Follows (s.placeEngine slot j code) := by
  unfold State.placeEngine
  dsimp only
  split
  · exact h.startOn.onEng
  · split
    · exact (Follows.branch h.countRefusal h).failJob
    · split
      · exact h
      · rename_i _ t heq
        split
        · split
          · exact (((h.takeWords heq)).bump).failJob
          · exact Follows.branch (((h.takeWords heq)).failJob) (((h.takeWords heq)).startOn)
        · exact ((h.takeWords heq)).startOn

theorem Follows.placeJob {cls : Nat} (h : s₀.Follows s) : s₀.Follows (s.placeJob cls) := by
  unfold State.placeJob
  dsimp only
  split
  · exact h.failUnavailable
  · split
    · split
      · exact h.failUnavailable.startOn.onHub
      · exact h.failUnavailable
    · split
      · exact h.failUnavailable
      · split
        · exact h.failUnavailable
        · exact h.failUnavailable.placeEngine

theorem Follows.engineDone {r : EngineResult} (h : s₀.Follows s) : s₀.Follows (s.engineDone r) := by
  unfold State.engineDone
  split
  · exact h.countStale
  · split
    · exact h
    · exact Follows.branch h.applyResult h

theorem Follows.suspendJob {slot octets : Nat} (h : s₀.Follows s) : s₀.Follows (s.suspendJob slot octets) := by
  unfold State.suspendJob
  dsimp only
  split
  · exact Follows.branch h.commonsStores.sealContext.onJob.wrapBy.wrapWord h
  · exact h

theorem Follows.keySlotGone {n : Nat} (h : s₀.Follows s) : s₀.Follows (s.keySlotGone n) :=
    h.forAll (fun _ _ h => h.failJob)

theorem Follows.reseedJobs {moment : Nat} (h : s₀.Follows s) : s₀.Follows (s.reseedJobs moment) := h.onHub

theorem Follows.onKeyWindow {p : Fin 4} {l : Level} {f : KeyWindow → KeyWindow}
    (h : s₀.Follows s) : s₀.Follows (s.onKeyWindow p l f) :=
  h.onKeys

theorem Follows.endKeyCommand {p : Fin 4} {l : Level} {st : KuState} {code : Nat}
    (h : s₀.Follows s) : s₀.Follows (s.endKeyCommand p l st code) :=
  h.onKeyWindow.onPair

theorem Follows.enter {p : Fin 4} {l : Level} {n : Nat} {a : KeyAttrs} {material : List Byte}
    (h : s₀.Follows s) : s₀.Follows (s.enter p l n a material) :=
  h.fillSlot

theorem Follows.loadInto {p : Fin 4} {l : Level} {target : Nat} {a : KeyAttrs} {m : List Byte}
    (h : s₀.Follows s) : s₀.Follows (s.loadInto p l target a m) :=
  Follows.branch h.enter.enter h.enter

theorem Follows.kuLoad {p : Fin 4} {l : Level} {w : KeyWindow} (h : s₀.Follows s) : s₀.Follows (s.kuLoad p l w).1 := by
  unfold State.kuLoad
  dsimp only
  split
  · exact h
  · split
    · exact h.countRefusal
    · split
      · exact h
      · split
        · exact Follows.branch h.bump h
        · exact h.loadInto

theorem Follows.writeBlob {w : KeyWait} {nonce : List Byte} (h : s₀.Follows s) :
    s₀.Follows (s.writeBlob w nonce).1 := by
  unfold State.writeBlob
  dsimp only
  split
  · split
    · exact h
    · split
      · exact h
      · exact Follows.branch h.storeCommons.bump h.storeCommons
  · exact h

theorem Follows.kuWrap {p : Fin 4} {l : Level} {w : KeyWindow} (h : s₀.Follows s) : s₀.Follows (s.kuWrap p l w).1 := by
  unfold State.kuWrap
  dsimp only
  split
  · exact h
  · split
    · exact h
    · split
      · exact h
      · split
        · exact h
        · split
          · exact h
          · split
            · exact h
            · split
              · exact h
              · split
                · exact h
                · split
                  · exact h.countRefusal
                  · split
                    · exact h
                    · rename_i _ t heq
                      exact ((h.takeWords heq)).writeBlob

theorem Follows.kuGenerate {p : Fin 4} {l : Level} {w : KeyWindow} (h : s₀.Follows s) :
    s₀.Follows (s.kuGenerate p l w).1 := by
  unfold State.kuGenerate
  dsimp only
  split
  · exact h
  · split
    · exact h
    · split
      · exact h.countRefusal
      · split
        · exact h
        · exact h.tickMoment

theorem Follows.kuDerive {p : Fin 4} {l : Level} {w : KeyWindow} (h : s₀.Follows s) :
    s₀.Follows (s.kuDerive p l w).1 := by
  unfold State.kuDerive
  dsimp only
  split
  · exact h
  · split
    · exact h
    · split
      · exact h
      · split
        · split
          · exact h
          · exact h.enter
        · exact h.countRefusal

theorem Follows.kuClear {p : Fin 4} {l : Level} {w : KeyWindow} (h : s₀.Follows s) :
    s₀.Follows (s.kuClear p l w).1 := by
  unfold State.kuClear
  dsimp only
  split
  · exact h
  · split
    · exact h
    · split
      · exact h
      · split
        · exact h.emptySlot.keySlotGone
        · exact h

theorem Follows.kuInfo {p : Fin 4} {l : Level} {w : KeyWindow} (h : s₀.Follows s) : s₀.Follows (s.kuInfo p l w).1 := by
  unfold State.kuInfo
  split
  · exact h
  · split
    · exact h
    · split
      · exact h
      · split
        · exact h.countRefusal
        · exact Follows.fst (h.storeCommons)

theorem Follows.kuPublic {p : Fin 4} {l : Level} {w : KeyWindow} (h : s₀.Follows s) :
    s₀.Follows (s.kuPublic p l w).1 := by
  unfold State.kuPublic
  split
  · exact h
  · split
    · exact h
    · split
      · exact h
      · split
        · exact h
        · split
          · exact h.countRefusal
          · exact Follows.fst (h.storeCommons)

theorem Follows.kuImport {p : Fin 4} {l : Level} {w : KeyWindow} (h : s₀.Follows s) :
    s₀.Follows (s.kuImport p l w).1 := by
  unfold State.kuImport
  dsimp only
  split
  · exact h
  · split
    · exact h
    · split
      · exact h
      · split
        · exact h
        · split
          · exact h
          · split
            · split
              · exact h
              · split
                · exact h
                · split
                  · exact h
                  · exact h.enter
            · exact h.countRefusal

theorem Follows.runKeyCmd {c : KeyCmd} {p : Fin 4} {l : Level} {w : KeyWindow}
    (h : s₀.Follows s) : s₀.Follows (s.runKeyCmd c p l w).1 := by
  unfold State.runKeyCmd
  split
  · exact h.kuLoad
  · exact h.kuWrap
  · exact h.kuGenerate
  · exact h.kuDerive
  · exact h.kuClear
  · exact h.kuInfo
  · exact h.kuPublic
  · exact h.kuImport

theorem Follows.kuGo {c : KeyCmd} {p : Fin 4} {l : Level} (h : s₀.Follows s) : s₀.Follows (s.kuGo c p l) := by
  unfold State.kuGo
  dsimp only
  split
  · exact h.onKeyWindow
  · split
    · rename_i t heq
      exact ((h.runKeyCmd.of_fst heq)).endKeyCommand
    · rename_i t _ heq
      exact ((h.runKeyCmd.of_fst heq)).endKeyCommand
    · rename_i t _ heq
      exact ((h.runKeyCmd.of_fst heq)).onKeyWindow

theorem Follows.serveKeyWaits (h : s₀.Follows s) : s₀.Follows s.serveKeyWaits :=
  h.forAll fun _ _ h => by
    split
    · exact h
    · refine Follows.branch ?_ h
      split
      · exact h
      · rename_i heq
        exact (h.takeWords heq).enter.endKeyCommand
    · split
      · exact h
      · rename_i heq
        exact (h.takeWords heq).writeBlob.endKeyCommand

theorem Follows.kuAbort {p : Fin 4} {l : Level} (h : s₀.Follows s) : s₀.Follows (s.kuAbort p l) :=
  Follows.branch h.endKeyCommand h

theorem advanceGenerationAction_keeps : advanceGenerationAction.Keeps := by
  intro s₀ s _ _ h
  unfold advanceGenerationAction
  dsimp only
  split
  · exact h
  · exact h.putNum.putNum

theorem raiseMinimumAction_keeps : raiseMinimumAction.Keeps := by
  intro s₀ s _ _ h
  unfold raiseMinimumAction
  dsimp only
  exact h.rewrapLedgerKey.putNum

end State
end Sys2Proof.Machine

/-! SUPPORT. What follows a state through entropy, the event log and the reset holds. -/

namespace Sys2Proof.Machine
namespace State

set_option Elab.async false

variable {s₀ s : State}

theorem Follows.onCell {c : Fin 4} {f : NoiseCell → NoiseCell} (h : s₀.Follows s) : s₀.Follows (s.onCell c f) :=
  h.onEnt

theorem Follows.checkDegraded (h : s₀.Follows s) : s₀.Follows s.checkDegraded :=
  Follows.branch (Follows.branch h.raiseSource.onEnt h.raiseSource) h

theorem Follows.blockFails {c : Fin 4} (h : s₀.Follows s) : s₀.Follows (s.blockFails c) :=
  Follows.branch h.bumpWord.onCell.checkDegraded (have h : s₀.Follows _ := h.bumpWord.onCell
  Follows.branch h.onCell.event.checkDegraded h)

theorem Follows.blockPasses {c : Fin 4} {bits : List Bool} {x2 : Nat}
    (h : s₀.Follows s) : s₀.Follows (s.blockPasses c bits x2) :=
  Follows.branch h.onCell.onCell.tickMoment.wrapWord h.onCell

theorem Follows.rawBlock {c : Fin 4} {bits : BitVec 1024} (h : s₀.Follows s) : s₀.Follows (s.rawBlock c bits) :=
  Follows.branch h (Follows.branch h.onCell.blockFails (Follows.branch h.onCell.onCell.checkDegraded
    h.onCell.blockPasses))

theorem Follows.reseeded {a b : Fin 4 × BitVec 256 × Nat} {key : BitVec 384}
    (h : s₀.Follows s) : s₀.Follows (s.reseeded a b key) :=
  h.onCell.onCell.onEnt.putNum.reseedJobs

theorem Follows.instantiate (h : s₀.Follows s) : s₀.Follows s.instantiate := by
  unfold State.instantiate
  dsimp only
  split
  · exact h
  · split
    · exact h
    · exact h.reseeded.onEnt

theorem Follows.reseed (h : s₀.Follows s) : s₀.Follows s.reseed := by
  unfold State.reseed
  split
  · exact h
  · split
    · exact h
    · exact h.reseeded.wrapBy.onEnt

theorem Follows.drawContextKey (h : s₀.Follows s) : s₀.Follows s.drawContextKey := by
  unfold State.drawContextKey
  split
  · exact h
  · split
    · exact h
    · rename_i _ t heq
      exact ((h.takeWords heq)).onEng

theorem Follows.generateCall (h : s₀.Follows s) : s₀.Follows s.generateCall :=
  Follows.branch h (Follows.branch h.onEnt h.onEnt.putNum.serveKeyWaits.drawContextKey)

theorem Follows.setPattern {b : Bool} (h : s₀.Follows s) : s₀.Follows (s.setPattern b) := Follows.branch h h.onEnt

theorem Follows.eraseSecrets (h : s₀.Follows s) : s₀.Follows s.eraseSecrets :=
  (h.endKeyCommands.clearKeys.forAll (fun _ _ h => h.failJob)).onKeys.onEnt.setFlag.setFlag.setFlag.setFlag

theorem Follows.countEraseLine (h : s₀.Follows s) : s₀.Follows s.countEraseLine := h.bumpBy

theorem Follows.discardRecord (h : s₀.Follows s) : s₀.Follows s.discardRecord := h.bump.onTamper

theorem Follows.numberRecord {r : Unnumbered} {flag3 : Bool} (h : s₀.Follows s) : s₀.Follows (s.numberRecord r flag3) :=
  Follows.branch h.discardRecord h.onTamper

theorem Follows.segmentFirst {flag3 : Bool} (h : s₀.Follows s) : s₀.Follows (s.segmentFirst flag3) :=
  Follows.branch h.numberRecord h

theorem Follows.discardsTold {count : Nat} (h : s₀.Follows s) : s₀.Follows (s.discardsTold count) :=
  h.segmentFirst.numberRecord

theorem Follows.issueRecord {r : Unnumbered} (h : s₀.Follows s) : s₀.Follows (s.issueRecord r) :=
  Follows.branch h.discardRecord (have h : s₀.Follows _ := h.onTamper.segmentFirst
  Follows.branch h.numberRecord (Follows.branch h.discardsTold.numberRecord h.numberRecord.discardsTold))

theorem Follows.issueTick (h : s₀.Follows s) : s₀.Follows s.issueTick :=
  Follows.branch (h.onTamper.forAll (fun _ _ h => h.issueRecord)) h.onTamper

theorem Follows.reclaimEvents {sector : Nat} (h : s₀.Follows s) : s₀.Follows (s.reclaimEvents sector) :=
  Follows.branch h.eraseNow h.eraseNow.onTamper.bumpBy.event

theorem Follows.keepErased (h : s₀.Follows s) : s₀.Follows s.keepErased := Follows.branch h.reclaimEvents h

theorem Follows.freeVigilRecord (h : s₀.Follows s) : s₀.Follows s.freeVigilRecord :=
  Follows.branch h.onVigil.setFlag.setFlag.setFlag.setFlag h.onVigil

theorem Follows.commitRecord {key : BitVec 256} {r : LogRecord} (h : s₀.Follows s) :
    s₀.Follows (s.commitRecord key r) :=
  have h : s₀.Follows _ := h.programWords.onTamper.keepErased
  Follows.branch h.freeVigilRecord h

theorem Follows.rowFailed (h : s₀.Follows s) : s₀.Follows s.rowFailed :=
  have h : s₀.Follows _ := (h.forAll (fun _ _ h => h.setCell)).onTamper.keepErased.event
  Follows.branch h h.bumpBy.onTamper

theorem Follows.flushEnd (h : s₀.Follows s) : s₀.Follows s.flushEnd := h.onTamper.doneCmd

theorem Follows.flushRows {key : BitVec 256} {failed : Option Nat} {fuel i : Nat} (h : s₀.Follows s) :
    s₀.Follows (s.flushRows key failed fuel i) := by
  induction fuel generalizing i s with
  | zero => exact h
  | succ fuel ih =>
    exact Follows.branch h.flushEnd (Follows.branch h.rowFailed (ih (h.forAll fun _ _ h => h.commitRecord).onTamper))

theorem Follows.flushLog {failed : Option Nat} (h : s₀.Follows s) : s₀.Follows (s.flushLog failed) := by
  unfold State.flushLog
  split
  · exact h
  · exact h.flushRows

theorem Follows.voidRecord {e : Nat × Nat × Option Nat} (h : s₀.Follows s) : s₀.Follows (s.voidRecord e) :=
  h.setCell.onTamper.issueRecord

theorem Follows.checkChain {key : BitVec 256} (h : s₀.Follows s) : s₀.Follows (s.checkChain key) := by
  unfold State.checkChain
  dsimp only
  split
  · exact (h.forAll (fun _ _ h => h.voidRecord))
  · exact ((h.forAll (fun _ _ h => h.voidRecord))).onTamper

theorem Follows.resumeNumbers {kept : Bool} (h : s₀.Follows s) : s₀.Follows (s.resumeNumbers kept) :=
  have h : s₀.Follows _ := h.onTamper.counterSetTo
  Follows.branch h h.bumpBy.issueRecord

theorem Follows.moveVigilRecords (h : s₀.Follows s) : s₀.Follows s.moveVigilRecords :=
  Follows.branch h.setFlag.setFlag.setFlag ((h.forAll (fun _ _ h => h.issueRecord)).onTamper)

theorem Follows.startLog {kept : Bool} (h : s₀.Follows s) : s₀.Follows (s.startLog kept) := by
  unfold State.startLog
  dsimp only
  split
  · split
    · exact h
    · exact ((Follows.branch h.resumeNumbers h.resumeNumbers).checkChain).moveVigilRecords
  · exact h

theorem Follows.ackEvents {n : Nat} (h : s₀.Follows s) : s₀.Follows (s.ackEvents n) := h.putNum.counterSetTo

theorem ackEventsAction_keeps : ackEventsAction.Keeps := by
  intro s₀ s _ _ h
  unfold ackEventsAction
  dsimp only
  split
  · exact h
  · exact h.ackEvents

theorem flushAction_keeps : flushAction.Keeps := by
  intro s₀ s _ _ h
  unfold flushAction
  dsimp only
  split
  · exact h
  · exact Follows.fst (h.onTamper)

theorem verifyAction_keeps : verifyAction.Keeps := by
  intro s₀ s _ _ h
  unfold verifyAction
  dsimp only
  split
  · exact h.putNum
  · split
    · exact h
    · exact h.putNum

theorem Follows.reckon (h : s₀.Follows s) : s₀.Follows s.reckon := (Follows.branch h.putNum h).onInteg

theorem Follows.saveObj {key : Nat} (h : s₀.Follows s) : s₀.Follows (s.saveObj key) := h.onInteg

theorem Follows.endOutage (h : s₀.Follows s) : s₀.Follows s.endOutage := by
  unfold State.endOutage
  dsimp only
  split
  · exact h
  · exact (((h.bumpBy.putNum.putNum.putNum.forAll (fun _ _ h => h.saveObj))).event).onInteg

theorem Follows.settleOutage {cause : Nat} (h : s₀.Follows s) : s₀.Follows (s.settleOutage cause) :=
  Follows.branch (Follows.branch h.onInteg h) h.endOutage

theorem Follows.portOutage {n : Fin 12} {b : Bool} (h : s₀.Follows s) : s₀.Follows (s.portOutage n b) :=
  Follows.branch h h.onChan.settleOutage

theorem Follows.primaryOutage {b : Bool} (h : s₀.Follows s) : s₀.Follows (s.primaryOutage b) :=
  Follows.branch h h.onInteg.settleOutage

theorem Follows.endOutages (h : s₀.Follows s) : s₀.Follows s.endOutages := h.onChans.onInteg.settleOutage

theorem Follows.pend {x : PendingItem} (h : s₀.Follows s) : s₀.Follows (s.pend x) := h.onLedger

theorem Follows.setHold {x0 : Fin 16} {o : HoldOut} (h : s₀.Follows s) : s₀.Follows (s.setHold x0 o) :=
  h.onModes

theorem Follows.assertHolds (h : s₀.Follows s) : s₀.Follows s.assertHolds := h.onModes

theorem Follows.setMask {mask : BitVec 16} (h : s₀.Follows s) : s₀.Follows (s.setMask mask) := h.onModes.onVigil

theorem Follows.holdEvent {x0 : Fin 16} {event cause : Nat} (h : s₀.Follows s) :
    s₀.Follows (s.holdEvent x0 event cause) :=
  h.pend

theorem Follows.releaseEntry {e : Word} (h : s₀.Follows s) : s₀.Follows (s.releaseEntry e) := by
  unfold State.releaseEntry
  dsimp only
  split
  · exact h
  · split
    · exact h.setHold.holdEvent.event
    · split
      · exact h.setHold.holdEvent
      · exact h.setHold.holdEvent

theorem Follows.releaseAfterOverride {n : Fin 12} (h : s₀.Follows s) : s₀.Follows (s.releaseAfterOverride n) :=
  h.forAll (fun _ _ h => Follows.branch ((by split; exacts [h.setHold.holdEvent, h.setHold.holdEvent])) h)

theorem Follows.releaseFromSlot {x0 : Fin 16} {event cause : Nat}
    (h : s₀.Follows s) : s₀.Follows (s.releaseFromSlot x0 event cause) :=
  Follows.branch (Follows.branch h.setHold.holdEvent h.setHold) h

theorem Follows.reassertFor {n : Fin 12} (h : s₀.Follows s) : s₀.Follows (s.reassertFor n) :=
  h.forAll (fun _ _ h => Follows.branch h.setHold.holdEvent h)

theorem Follows.unnamedHolds (h : s₀.Follows s) : s₀.Follows s.unnamedHolds := Follows.branch h h.event

theorem Follows.holdRelease (h : s₀.Follows s) : s₀.Follows s.holdRelease := by
  unfold State.holdRelease
  split
  · exact h.onModes
  · exact h.onModes.releaseEntry

end State
end Sys2Proof.Machine

/-! SUPPORT. What follows a state through read consistency, self-tests and Gate. -/

namespace Sys2Proof.Machine
namespace State

set_option Elab.async false

variable {s₀ s : State}

theorem Follows.onUnit {n : Fin 12} {f : FpUnit → FpUnit} (h : s₀.Follows s) : s₀.Follows (s.onUnit n f) :=
  h.onCons

theorem Follows.onEntry {e : Nat} {f : FpEntry → FpEntry} (h : s₀.Follows s) : s₀.Follows (s.onEntry e f) :=
  h.onCons

theorem Follows.refSegment {n : Fin 12} {k : Word} {e offset : Nat} {b : List Byte}
    (h : s₀.Follows s) : s₀.Follows (s.refSegment n k e offset b) :=
  h.onEntry

theorem Follows.refRun {n : Fin 12} {base from_ : Nat} {b : List Byte}
    (h : s₀.Follows s) : s₀.Follows (s.refRun n base from_ b) := by
  unfold State.refRun
  split
  · exact Follows.branch h (h.forAll (fun _ _ h => h.refSegment))
  · exact h

theorem Follows.clearRefs {base pages : Nat} (h : s₀.Follows s) : s₀.Follows (s.clearRefs base pages) := h.onCons

theorem Follows.excludeUnarmed {n : Fin 12} {base pages : Nat}
    (h : s₀.Follows s) : s₀.Follows (s.excludeUnarmed n base pages) :=
  h.forAll (fun _ _ h => Follows.branch h h.onEntry.bumpWord)

theorem Follows.haltRegion {n : Fin 12} {r page : Nat} (h : s₀.Follows s) : s₀.Follows (s.haltRegion n r page) :=
  Follows.branch h h.onChan.pend.reassertFor.portOutage

theorem Follows.mismatchEvent {n : Fin 12} {r page : Nat} {fillIn : Bool}
    (h : s₀.Follows s) : s₀.Follows (s.mismatchEvent n r page fillIn) :=
  Follows.branch h.onChan h.onChan.event

theorem Follows.mismatch {n : Fin 12} {e : Nat} {fillIn : Bool} {before : BitVec 32} (h : s₀.Follows s) :
    s₀.Follows (s.mismatch n e fillIn before) := by
  have hhalt {t : State} {c : Prop} [Decidable c] {r page : Nat} (ht : s₀.Follows t) :
      s₀.Follows (if c then t.haltRegion n r page else t) := Follows.branch ht.haltRegion ht
  exact Follows.branch (hhalt h.bumpWord.onUnit.put.mismatchEvent).occur (hhalt h.bumpWord.onUnit.put.mismatchEvent)

theorem Follows.settleSweep (h : s₀.Follows s) : s₀.Follows s.settleSweep :=
  Follows.branch ((Follows.branch h.failCmd h.doneCmd).onCons) h

theorem Follows.loseSwept {e : Nat} (h : s₀.Follows s) : s₀.Follows (s.loseSwept e) := Follows.branch h.onEntry.onCons h

theorem Follows.rollRound {n : Fin 12} {e : Nat} (h : s₀.Follows s) : s₀.Follows (s.rollRound n e) := by
  unfold State.rollRound
  exact h.onEntry.onUnit

theorem Follows.compareOnce {n : Fin 12} {e : Nat} {fillIn : Bool} {before : BitVec 32}
    (h : s₀.Follows s) : s₀.Follows (s.compareOnce n e fillIn before) :=
  have h : s₀.Follows _ := (Follows.branch h.bumpWord.bumpWord h.bumpWord).rollRound.settleSweep
  Follows.branch h h.mismatch

theorem Follows.compare {n : Fin 12} {e : Nat} {fillIn : Bool} {before : BitVec 32}
    (h : s₀.Follows s) : s₀.Follows (s.compare n e fillIn before) :=
  Follows.branch (Follows.branch h.compareOnce.compareOnce h.compareOnce) h

theorem Follows.unchecked {n : Fin 12} {k : Nat} (h : s₀.Follows s) : s₀.Follows (s.unchecked n k) := h.bumpWord

theorem Follows.beginClosing {n : Fin 12} {e : Nat} (h : s₀.Follows s) : s₀.Follows (s.beginClosing n e) :=
    h.onEntry.onUnit

theorem Follows.addNext {n : Fin 12} {k : Word} {e offset : Nat} {b : List Byte} {x : NextRound}
    (h : s₀.Follows s) : s₀.Follows (s.addNext n k e offset b x) := by
  unfold State.addNext
  exact h.onUnit

theorem Follows.serveSegment {n : Fin 12} {e offset : Nat} {b : List Byte}
    (h : s₀.Follows s) : s₀.Follows (s.serveSegment n e offset b) := by
  unfold State.serveSegment
  dsimp only
  split
  · exact Follows.branch h.onUnit.onEntry.compare (Follows.branch h.beginClosing.addNext h.beginClosing.unchecked)
  · split
    · exact Follows.branch h.addNext h.unchecked
    · exact h.unchecked
  · exact h.unchecked

theorem Follows.serveRun {n : Fin 12} {r : Nat} {d : RegionDef} {cs addr : Nat} {b : List Byte}
    (h : s₀.Follows s) : s₀.Follows (s.serveRun n r d cs addr b) :=
  h.forAll (fun _ _ h => (by split; exacts [h.serveSegment, h.unchecked]))

theorem Follows.fillIn {n : Fin 12} {b : List Byte} (h : s₀.Follows s) : s₀.Follows (s.fillIn n b) := by
  unfold State.fillIn
  dsimp only
  split
  · exact Follows.branch h h.bumpWord.onUnit.onEntry.compare
  · exact h

theorem Follows.ageVisit {n : Fin 12} (h : s₀.Follows s) : s₀.Follows (s.ageVisit n) :=
  h.forAll (fun _ _ h => Follows.branch (Follows.branch h.beginClosing h.onEntry) h)

theorem Follows.closeAll (h : s₀.Follows s) : s₀.Follows s.closeAll :=
  h.forAll (fun _ _ h => h.forAll (fun _ _ h => Follows.branch h.beginClosing.onEntry h))

theorem sweepAction_keeps : sweepAction.Keeps := by
  intro s₀ s _ _ h
  unfold sweepAction
  dsimp only
  exact h.onCons.closeAll.settleSweep

theorem Follows.abortSweep (h : s₀.Follows s) : s₀.Follows s.abortSweep := h.onCons.abortCmd

theorem Follows.excludeEvent {n : Fin 12} {cause count : Nat} (h : s₀.Follows s) :
    s₀.Follows (s.excludeEvent n cause count) :=
  Follows.branch h h.event

theorem Follows.excludeEntry {n : Fin 12} {e : Nat} (h : s₀.Follows s) : s₀.Follows (s.excludeEntry n e) :=
  h.loseSwept.onUnit.onEntry.bumpWord.bumpWord

theorem Follows.exclude {n : Fin 12} {cause : Nat} {es : List Nat} (h : s₀.Follows s) :
    s₀.Follows (s.exclude n cause es) :=
  ((h.forAll (fun _ _ h => h.excludeEntry)).excludeEvent).settleSweep

theorem Follows.restartRounds {n : Fin 12} (h : s₀.Follows s) : s₀.Follows (s.restartRounds n) :=
  (h.forAll (fun _ _ h => h.loseSwept.onUnit.onEntry)).bumpWord.excludeEvent.settleSweep

theorem Follows.abandonRounds (h : s₀.Follows s) : s₀.Follows s.abandonRounds := h.forAll (fun _ _ h => h.bumpWord)

theorem Follows.saveStatistics (h : s₀.Follows s) : s₀.Follows s.saveStatistics := h.put.onLedger

theorem Follows.clearStatistics (h : s₀.Follows s) : s₀.Follows s.clearStatistics :=
    (h.forAll (fun _ _ h => h.put)).onCons

theorem Follows.countArmed (h : s₀.Follows s) : s₀.Follows s.countArmed := h.put

theorem Follows.clearFingerprints (h : s₀.Follows s) : s₀.Follows s.clearFingerprints := h.onCons

theorem Follows.drawFingerprintKey {r : Word × State} (h : s₀.Follows s) (hr : s.drawFingerprintKey = some r) :
    s₀.Follows r.2 := by
  obtain ⟨_, -, rfl⟩ := Option.map_eq_some_iff.mp hr
  exact Follows.snd h.onEnt

theorem Follows.loadUnit {n : Fin 12} {k : Word} {tries : Nat} (h : s₀.Follows s) :
    s₀.Follows (s.loadUnit n k tries) := by
  induction tries generalizing k s with
  | zero => exact h.onUnit.event
  | succ tries ih =>
    unfold State.loadUnit
    refine Follows.branch h.onUnit ?_
    split
    · rename_i heq
      exact ih (h.drawFingerprintKey heq)
    · exact ih h

theorem Follows.keySetup {k : Word} (h : s₀.Follows s) : s₀.Follows (s.keySetup k) :=
  h.forAll (fun _ _ h => h.loadUnit)

theorem Follows.allocateEntries (h : s₀.Follows s) : s₀.Follows s.allocateEntries := by
  unfold State.allocateEntries
  exact h.onCons

theorem Follows.excludeFailed (h : s₀.Follows s) : s₀.Follows s.excludeFailed :=
  h.forAll (fun _ _ h => Follows.branch (h.forAll (fun _ _ h => (by split; exacts [h.excludeUnarmed, h]))) h)

theorem Follows.onRegion {n : Fin 12} {r : Nat} {f : Region → Region} (h : s₀.Follows s) :
    s₀.Follows (s.onRegion n r f) :=
  h.onChan

theorem Follows.unreadableRegion {n : Fin 12} {r : Nat} {d : RegionDef}
    (h : s₀.Follows s) : s₀.Follows (s.unreadableRegion n r d) := by
  unfold State.unreadableRegion
  dsimp only
  split
  · exact h.onRegion.excludeUnarmed
  · exact h.onRegion

theorem Follows.restartRegion {n : Fin 12} {r : Nat} {d : RegionDef}
    (h : s₀.Follows s) : s₀.Follows (s.restartRegion n r d) := by
  unfold State.restartRegion
  dsimp only
  split
  · exact h.onRegion.clearRefs
  · exact h.onRegion

theorem Follows.setHashing {n : Fin 12} {code : Nat} (h : s₀.Follows s) : s₀.Follows (s.setHashing n code) := h.onEng

theorem Follows.openStream {n : Fin 12} {alg : Nat} (h : s₀.Follows s) : s₀.Follows (s.openStream n alg).1 := by
  unfold State.openStream
  split
  · exact h.setHashing
  · split
    · exact h.allocate.setHashing.bump
    · exact h.setHashing.bump.event

theorem Follows.closeStream {n : Fin 12} (h : s₀.Follows s) : s₀.Follows (s.closeStream n) := by
  unfold State.closeStream
  split
  · exact h.endJob.setHashing
  · exact h

theorem Follows.advanceScan {n : Fin 12} {fuel : Nat} (h : s₀.Follows s) : s₀.Follows (s.advanceScan n fuel) := by
  induction fuel generalizing s with
  | zero => exact h
  | succ fuel ih =>
    unfold State.advanceScan
    split
    · exact h
    · refine Follows.branch (ih h.unreadableRegion) ?_
      split
      · rename_i heq
        exact h.openStream.of_fst heq
      · rename_i heq
        exact ih (h.openStream.of_fst heq).unreadableRegion

theorem Follows.takeOver {n : Fin 12} (h : s₀.Follows s) : s₀.Follows (s.takeOver n) := by
  unfold State.takeOver
  dsimp only
  split
  · exact 
      Follows.branch (have h : s₀.Follows _ := h.restartRegion
      Follows.branch h.setHashing (Follows.branch h.allocate.setHashing.bump h.advanceScan)) h
  · exact h

theorem Follows.settleRun {key : Nat} {run : Option (List Nat × Bool)} {code : Nat} {failed : Bool}
    (h : s₀.Follows s) : s₀.Follows (s.settleRun key run code failed).1 := by
  unfold State.settleRun
  dsimp only
  split
  · exact h
  · split
    · exact Follows.branch h.failCmd h.doneCmd
    · exact h

theorem Follows.laneRan {code : Nat} {failed : Bool} (h : s₀.Follows s) : s₀.Follows (s.laneRan code failed) := by
  unfold State.laneRan
  exact h.settleRun.onEng

theorem Follows.unitRan {code : Nat} {failed : Bool} (h : s₀.Follows s) : s₀.Follows (s.unitRan code failed) := by
  unfold State.unitRan
  exact h.settleRun.onEng

theorem Follows.instanceFault {code : Nat} (h : s₀.Follows s) : s₀.Follows (s.instanceFault code) := by
  unfold State.instanceFault
  dsimp only
  split
  · exact h.onHealth.replaceJob
  · exact h.onHealth

theorem Follows.retireInstance {code cls source : Nat} (h : s₀.Follows s) :
    s₀.Follows (s.retireInstance code cls source) :=
  h.leaveService.event

theorem Follows.laneFault {i : Nat} (h : s₀.Follows s) : s₀.Follows (s.laneFault i) :=
  Follows.branch h (have h : s₀.Follows _ := h.bumpWord.instanceFault
  (Follows.branch h.retireInstance.laneRan h).forAll (fun _ _ h => h.takeOver))

theorem Follows.laneTested {i : Nat} {pass : Bool} (h : s₀.Follows s) : s₀.Follows (s.laneTested i pass) :=
  Follows.branch h (Follows.branch h.onHealth.laneRan (h.bumpWord.retireInstance.laneRan.forAll (fun _ _ h =>
    h.takeOver)))

theorem Follows.unitFault {i : Nat} (h : s₀.Follows s) : s₀.Follows (s.unitFault i) :=
  Follows.branch h (have h : s₀.Follows _ := h.bumpWord.instanceFault
  Follows.branch h.retireInstance.unitRan h)

theorem Follows.unitTested {i : Nat} {pass : Bool} (h : s₀.Follows s) : s₀.Follows (s.unitTested i pass) :=
  Follows.branch h (Follows.branch h.onHealth.unitRan h.retireInstance.unitRan)

theorem runLanesAction_keeps : runLanesAction.Keeps := by
  intro s₀ s _ _ h
  unfold runLanesAction
  dsimp only
  split
  · exact h
  · exact Follows.fst (h.onEng)

theorem runUnitsAction_keeps : runUnitsAction.Keeps := by
  intro s₀ s _ _ h
  unfold runUnitsAction
  dsimp only
  split
  · exact h
  · exact Follows.fst (h.onEng)

theorem Follows.abortLaneRun (h : s₀.Follows s) : s₀.Follows s.abortLaneRun := h.onEng.abortCmd

theorem Follows.abortUnitRun (h : s₀.Follows s) : s₀.Follows s.abortUnitRun := h.onEng.abortCmd

theorem Follows.trained {n : Fin 12} {cs : Fin 2} {delay width tapSize : Nat}
    (h : s₀.Follows s) : s₀.Follows (s.trained n cs delay width tapSize) :=
  h.onChan.putNum.putNum.putNum.bump

theorem Follows.marginLow {n : Fin 12} {cs width : Nat} (h : s₀.Follows s) : s₀.Follows (s.marginLow n cs width) :=
  Follows.branch h.event h

theorem Follows.flashFaulty {n : Fin 12} {cs : Fin 2} {cause : Nat}
    (h : s₀.Follows s) : s₀.Follows (s.flashFaulty n cs cause) :=
  h.onChan.event

theorem Follows.initFlash {n : Fin 12} {cs : Fin 2} {r : FlashReply} (h : s₀.Follows s) :
    s₀.Follows (s.initFlash n cs r) :=
  Follows.branch h.flashFaulty h.onChan.trained.marginLow

theorem Follows.checkComplete {n : Fin 12} (h : s₀.Follows s) : s₀.Follows (s.checkComplete n) :=
  Follows.branch (Follows.branch h.onChan.onLedger h.onChan) h

theorem Follows.channelInit {n : Fin 12} {cs : Fin 2} {r : FlashReply} (h : s₀.Follows s) :
    s₀.Follows (s.channelInit n cs r) :=
  Follows.branch h (Follows.branch ((Follows.branch h.initFlash h.initFlash.onChan).advanceScan.checkComplete)
    h.initFlash)

theorem Follows.hashRegion {n : Fin 12} {r : Nat} {d : RegionDef} (h : s₀.Follows s) :
    s₀.Follows (s.hashRegion n r d) :=
  Follows.branch h.onRegion.closeStream.advanceScan h

theorem Follows.countLane {code octets : Nat} (h : s₀.Follows s) : s₀.Follows (s.countLane code octets) := h.wrapWord

theorem Follows.prescan {n : Fin 12} {b : List Byte} (h : s₀.Follows s) : s₀.Follows (s.prescan n b) := by
  unfold State.prescan
  split
  · exact h
  · refine Follows.branch h (Follows.hashRegion (Follows.onRegion (Follows.countLane ?_)))
    split
    · exact h.refRun
    · exact h

theorem Follows.prescanStall {n : Fin 12} (h : s₀.Follows s) : s₀.Follows (s.prescanStall n) := by
  unfold State.prescanStall
  split
  · exact h
  · exact Follows.branch h (Follows.branch h.unreadableRegion.closeStream.advanceScan h.onRegion)

theorem Follows.verifyManifests {n : Fin 12} (h : s₀.Follows s) : s₀.Follows (s.verifyManifests n) :=
  Follows.branch h h.onChan

theorem Follows.finishRegion {n : Fin 12} {r : Nat} {d : RegionDef} {v : Nat}
    (h : s₀.Follows s) : s₀.Follows (s.finishRegion n r d v) :=
  h.onRegion.checkComplete

theorem Follows.scanOn {n : Fin 12} (h : s₀.Follows s) : s₀.Follows (s.scanOn n) :=
  Follows.branch h.onChan.advanceScan.checkComplete h

theorem Follows.beginRecovery {n : Fin 12} {r : Nat} {d : RegionDef}
    (h : s₀.Follows s) : s₀.Follows (s.beginRecovery n r d) := by
  unfold State.beginRecovery
  dsimp only
  split
  · split
    · rename_i t heq
      exact ((h.onChan.openStream.of_fst heq)).onRegion
    · rename_i t heq
      exact (((h.onChan.openStream.of_fst heq)).finishRegion).scanOn
  · exact h.onChan.finishRegion.scanOn

theorem Follows.regionVerdict {n : Fin 12} {r : Nat} (h : s₀.Follows s) : s₀.Follows (s.regionVerdict n r) := by
  unfold State.regionVerdict
  dsimp only
  split
  · exact h
  · exact 
      Follows.branch h (have h : s₀.Follows _ := Follows.branch h.event h
      Follows.branch h.beginRecovery (have h : s₀.Follows _ := h.finishRegion
      Follows.branch h.advanceScan.checkComplete h))

theorem Follows.recovered {n : Fin 12} {r : Nat} {d : RegionDef} {digest b : List Byte} (h : s₀.Follows s) :
    s₀.Follows (s.recovered n r d digest b) := by
  unfold State.recovered
  refine Follows.onRegion ?_
  split
  · exact h.clearRefs.refRun
  · exact h

theorem Follows.recoveryComplete {n : Fin 12} {r : Nat} {content : Option (List Byte)}
    (h : s₀.Follows s) : s₀.Follows (s.recoveryComplete n r content) := by
  unfold State.recoveryComplete
  dsimp only
  split
  · split
    · exact h
    · split
      · exact h.closeStream.countLane.recovered.finishRegion.scanOn
      · exact h.closeStream.finishRegion.scanOn
  · exact h

theorem Follows.raiseMinimums (h : s₀.Follows s) : s₀.Follows s.raiseMinimums :=
  h.forAll (fun _ _ h => h.forAll (fun _ _ h => (by split; exacts [Follows.branch h.putNum h, h])))

theorem Follows.overrideRegions {n : Fin 12} {officers : Option (Nat × Nat)}
    (h : s₀.Follows s) : s₀.Follows (s.overrideRegions n officers) :=
  h.forAll (fun _ _ h => Follows.branch h.onRegion.pend h)

theorem haltOverrideAction_keeps {n : Fin 12} : (haltOverrideAction n).Keeps := by
  intro s₀ s _ _ h
  unfold haltOverrideAction
  dsimp only
  exact h.overrideRegions.onChan.releaseAfterOverride

end State
end Sys2Proof.Machine

/-! SUPPORT. What follows a state through host ports and the boot ledger. -/

namespace Sys2Proof.Machine
namespace State

set_option Elab.async false

variable {s₀ s : State}

theorem Follows.onEmu {n : Fin 12} {cs : Fin 2} {f : EmuDevice → EmuDevice} (h : s₀.Follows s) :
    s₀.Follows (s.onEmu n cs f) :=
  h.onChan

theorem Follows.restartEmu {n : Fin 12} (h : s₀.Follows s) : s₀.Follows (s.restartEmu n) := h.onEmu.onEmu

theorem Follows.hostCommand {n : Fin 12} {cs : Fin 2} {opcode : Nat} {f : State → State} (h : s₀.Follows s)
    (hf : ∀ t, s₀.Follows t → s₀.Follows (f t)) : s₀.Follows (s.hostCommand n cs opcode f) :=
  Follows.branch h (hf s h).onEmu

theorem Follows.drive {n : Fin 12} {cs : Fin 2} {b : List Byte} (h : s₀.Follows s) : s₀.Follows (s.drive n cs b) :=
  h.send

theorem Follows.pinnedFault {n : Fin 12} {r : Nat} (h : s₀.Follows s) : s₀.Follows (s.pinnedFault n r) := by
  unfold State.pinnedFault
  dsimp only
  split
  · exact h.bumpWord.occur.onRegion.openStream
  · exact h.bumpWord.occur.onRegion

theorem Follows.readFault {n : Fin 12} {cs : Fin 2} {addr len : Nat} {fault : Option Nat}
    (h : s₀.Follows s) : s₀.Follows (s.readFault n cs addr len fault).1 := by
  unfold State.readFault
  split
  · exact h
  · split
    · exact h
    · split
      · exact h.pinnedFault
      · exact h

theorem Follows.flashTimeout {n : Fin 12} {cs : Fin 2} (h : s₀.Follows s) : s₀.Follows (s.flashTimeout n cs) :=
  have h : s₀.Follows _ := h.bump.onChan
  Follows.branch h.onChan.event h

theorem Follows.lateRead {n : Fin 12} {cs : Fin 2} {stopped : Bool} (h : s₀.Follows s) :
    s₀.Follows (s.lateRead n cs stopped) :=
  Follows.branch h.bump.send ((Follows.branch h.bump.send.flashTimeout h.bump.send).portOutage)

theorem Follows.fastRead {n : Fin 12} {cs : Fin 2} {addr len : Nat} {flash : List Byte} {stopped : Bool}
    {fault : Option Nat}
    (h : s₀.Follows s) : s₀.Follows (s.fastRead n cs addr len flash stopped fault) := by
  unfold State.fastRead
  extract_lets t u
  have hu : s₀.Follows u := Follows.branch h.wrapBy.wrapBy h.wrapBy
  refine Follows.branch hu.send ?_
  split
  rename_i t _ heq
  have ht : s₀.Follows t := hu.readFault.of_fst heq
  exact Follows.branch (ht.wrapBy.wrapBy.drive.forAll fun _ _ h => h.serveRun).lateRead
    (ht.wrapBy.wrapBy.drive.forAll fun _ _ h => h.serveRun).portOutage

theorem Follows.refuseHost {n : Fin 12} {cs : Fin 2} (h : s₀.Follows s) : s₀.Follows (s.refuseHost n cs) :=
  Follows.branch h.onEmu.bump.onChan h.onEmu.bump.onChan.event

theorem Follows.forwardHost {n : Fin 12} {cs : Fin 2} {octets : List Byte} {pages : List Nat} {erase : Bool}
    (h : s₀.Follows s) : s₀.Follows (s.forwardHost n cs octets pages erase) :=
  h.send.send.onChan.onEmu.bump.exclude

theorem Follows.writeHost {n : Fin 12} {cs : Fin 2} {octets : List Byte} {pages : List Nat} {erase : Bool}
    (h : s₀.Follows s) : s₀.Follows (s.writeHost n cs octets pages erase) :=
  Follows.branch h.forwardHost h.refuseHost

theorem Follows.suspendHost {n : Fin 12} {cs : Fin 2} {b : Bool} (h : s₀.Follows s) :
    s₀.Follows (s.suspendHost n cs b) := by
  unfold State.suspendHost
  split
  · exact h.send.onChan.onEmu.bump
  · exact h

theorem Follows.refusedKind {n : Fin 12} {cs : Fin 2} {octets : List Byte} {busy : Bool}
    (h : s₀.Follows s) : s₀.Follows (s.refusedKind n cs octets busy) :=
  Follows.branch (have h : s₀.Follows _ := h.send.send.bump.onEmu
  Follows.branch h.onChan h) h.refuseHost

theorem Follows.reloadComplete {n : Fin 12} {r : Nat} {b : List Byte}
    (h : s₀.Follows s) : s₀.Follows (s.reloadComplete n r b) := by
  unfold State.reloadComplete
  dsimp only
  split
  · exact h
  · exact Follows.branch h (Follows.branch h.closeStream.onRegion h.closeStream.onRegion.event)

theorem Follows.retrain {n : Fin 12} {cs : Fin 2} {taps : List Bool} {tapSize : Nat}
    (h : s₀.Follows s) : s₀.Follows (s.retrain n cs taps tapSize) :=
  Follows.branch h (Follows.branch h.flashFaulty h.trained.marginLow)

theorem Follows.logicError {n : Fin 12} (h : s₀.Follows s) : s₀.Follows (s.logicError n) :=
  Follows.branch h.bumpBy ((Follows.branch h.bumpBy.portOutage h.bumpBy).restartRounds.onChan)

theorem Follows.restartComplete {n : Fin 12} {r0 r1 : FlashReply} (h : s₀.Follows s) :
    s₀.Follows (s.restartComplete n r0 r1) :=
  Follows.branch h (have h : s₀.Follows _ := h.restartEmu.onChan
  have h : s₀.Follows _ := Follows.branch h.initFlash h
  (Follows.branch h.initFlash h).portOutage)

theorem Follows.beginServing {n : Fin 12} (h : s₀.Follows s) : s₀.Follows (s.beginServing n) :=
  Follows.branch h.restartEmu.onChan h

theorem Follows.beginPassThrough (h : s₀.Follows s) : s₀.Follows s.beginPassThrough :=
  h.forAll (fun _ _ h => h.restartEmu.onChan)

theorem Follows.stopServing (h : s₀.Follows s) : s₀.Follows s.stopServing := h.forAll (fun _ _ h => h.onChan)

theorem Follows.signBoth {key digest : List Byte} {context : String}
    (h : s₀.Follows s) : s₀.Follows (s.signBoth key digest context).2 := by
  unfold State.signBoth
  exact h.same

theorem Follows.attachment {a : Append} {q : Nat} (h : s₀.Follows s) : s₀.Follows (s.attachment a q).2 := by
  unfold State.attachment
  split
  · exact h
  · extract_lets _ _ _ i old r
    have hi : s₀.Follows i.2 := h.signBoth
    change s₀.Follows r.2
    unfold r
    clear_value old
    split
    · exact hi.signBoth
    · exact hi

theorem Follows.assembleBody {q : Nat} {a : Append} (h : s₀.Follows s) : s₀.Follows (s.assembleBody q a).2 := by
  unfold State.assembleBody
  dsimp only
  exact h.attachment

theorem Follows.signRecord {a : Append} (h : s₀.Follows s) : s₀.Follows (s.signRecord a).2 := by
  unfold State.signRecord
  dsimp only
  exact h.signBoth

theorem Follows.programRing {q : Nat} {e : Nat × Word} (h : s₀.Follows s) : s₀.Follows (s.programRing q e) :=
  (Follows.branch h.programWord h).programWord

theorem Follows.programRecord {start q : Nat} {record : List Byte}
    (h : s₀.Follows s) : s₀.Follows (s.programRecord start q record) :=
  h.forAll (fun _ _ h => h.programRing)

theorem Follows.voidRing {start length : Nat} (h : s₀.Follows s) : s₀.Follows (s.voidRing start length) := by
  unfold State.voidRing
  exact h.setCell.bumpBy.onLedger

theorem Follows.raiseExport {q : Nat} (h : s₀.Follows s) : s₀.Follows (s.raiseExport q) := h.putNum.counterSetTo

theorem Follows.reclaimLedger {sector : Nat} (h : s₀.Follows s) : s₀.Follows (s.reclaimLedger sector) :=
  have h : s₀.Follows _ := h.onLedger.bumpBy
  have h : s₀.Follows _ := (by split; exacts [h.raiseExport, h])
  (Follows.branch h h.event).eraseNow

theorem Follows.preEraseLedger (h : s₀.Follows s) : s₀.Follows s.preEraseLedger := by
  unfold State.preEraseLedger
  split
  · exact Follows.branch h.reclaimLedger h
  · exact h

theorem Follows.makeRoom (h : s₀.Follows s) : s₀.Follows s.makeRoom := h.forAll (fun _ _ h => h.preEraseLedger)

theorem Follows.watchHighWater (h : s₀.Follows s) : s₀.Follows s.watchHighWater := by
  unfold State.watchHighWater
  exact (Follows.branch h.event h).onLedger

theorem Follows.acknowledge {q : Nat} (h : s₀.Follows s) : s₀.Follows (s.acknowledge q) := h.raiseExport.watchHighWater

theorem Follows.returnItems {a : Append} (h : s₀.Follows s) : s₀.Follows (s.returnItems a) :=
  Follows.branch h h.onLedger

theorem Follows.endAppendCmd {r : AppendRequest} {status code : Nat}
    (h : s₀.Follows s) : s₀.Follows (s.endAppendCmd r status code) := by
  unfold State.endAppendCmd
  split
  · exact h.endCmd
  · exact h

theorem Follows.newLedgerKey {r : AppendRequest} (h : s₀.Follows s) : s₀.Follows (s.newLedgerKey r).2 := by
  unfold State.newLedgerKey
  dsimp only
  split
  · exact h.drawOctets
  · exact h

theorem Follows.reserve {a : Append} (h : s₀.Follows s) : s₀.Follows (s.reserve a) := by
  unfold State.reserve
  exact h.counterInc.onLedger.assembleBody.onLedger

theorem Follows.lackRoom {a : Append} (h : s₀.Follows s) : s₀.Follows (s.lackRoom a) :=
  Follows.branch h.onLedger.onLedger h.onLedger.onLedger.returnItems.endAppendCmd

theorem Follows.seekRoom {a : Append} (h : s₀.Follows s) : s₀.Follows (s.seekRoom a) :=
  have h : s₀.Follows _ := Follows.branch h h.makeRoom
  Follows.branch h.onLedger.reserve h.lackRoom

theorem Follows.beginAppend {r : AppendRequest} (h : s₀.Follows s) : s₀.Follows (s.beginAppend r) :=
  Follows.branch ((Follows.branch h.onLedger h).endAppendCmd) ((Follows.branch h.newLedgerKey.onLedger
    h.newLedgerKey).seekRoom)

theorem Follows.pumpLedger {fuel : Nat} (h : s₀.Follows s) : s₀.Follows (s.pumpLedger fuel) := by
  induction fuel generalizing s with
  | zero => exact h
  | succ fuel ih =>
    unfold State.pumpLedger
    refine Follows.branch h ?_
    split
    · exact h
    · exact ih h.onLedger.beginAppend

theorem Follows.askAppend {kind : RecordKind} {reason : Nat} {cmd : Option Nat} {entries : List Byte}
    (h : s₀.Follows s) : s₀.Follows (s.askAppend kind reason cmd entries) :=
  h.onLedger.pumpLedger

theorem Follows.closingSupplement (h : s₀.Follows s) : s₀.Follows s.closingSupplement :=
  Follows.branch h.askAppend h.onLedger

theorem Follows.appendFails {a : Append} (h : s₀.Follows s) : s₀.Follows (s.appendFails a) :=
  have h : s₀.Follows _ := (by split; exacts [h.voidRing, h])
  Follows.branch h.seekRoom h.onLedger.returnItems.occur.endAppendCmd

theorem Follows.signFailures {n : Nat} (h : s₀.Follows s) : s₀.Follows (s.signFailures n) := by
  induction n generalizing s with
  | zero => exact h
  | succ n ih =>
    unfold State.signFailures
    split
    · exact Follows.branch (ih h.appendFails) h
    · exact h

theorem Follows.programAppend {a : Append} (h : s₀.Follows s) : s₀.Follows (s.programAppend a) := by
  unfold State.programAppend
  exact h.programRecord.onLedger

theorem Follows.signaturesVerified {failed : Nat} (h : s₀.Follows s) : s₀.Follows (s.signaturesVerified failed) := by
  unfold State.signaturesVerified
  dsimp only
  split
  · split
    · exact h
    · split
      · exact 
          Follows.branch h.signFailures (Follows.branch h.signFailures.signRecord.programAppend
            (have h : s₀.Follows _ := h.signFailures.signRecord.makeRoom
          Follows.branch h.programAppend h.onLedger))
      · exact h.signFailures
  · exact h

theorem Follows.roomAvailable (h : s₀.Follows s) : s₀.Follows s.roomAvailable := by
  unfold State.roomAvailable
  dsimp only
  split
  · split
    · exact h.seekRoom
    · exact Follows.branch h.makeRoom.onLedger.programAppend h.makeRoom
    · exact h
  · exact h

theorem Follows.commitState {a : Append} (h : s₀.Follows s) : s₀.Follows (s.commitState a) := by
  unfold State.commitState
  exact h.programRing.onLedger

theorem Follows.commitRollover {a : Append} (h : s₀.Follows s) : s₀.Follows (s.commitRollover a) := by
  unfold State.commitRollover
  dsimp only
  split
  · exact h
  · exact h.putNum.wrapLedgerKey.onLedger

theorem Follows.commitSupplement {a : Append} (h : s₀.Follows s) : s₀.Follows (s.commitSupplement a) :=
  have h : s₀.Follows _ := Follows.branch h.onLedger h
  Follows.branch h.onAtt h

theorem Follows.furtherSupplement {a : Append} (h : s₀.Follows s) : s₀.Follows (s.furtherSupplement a) :=
  h.seekRoom

theorem Follows.ledgerCommit {ok : Bool} (h : s₀.Follows s) : s₀.Follows (s.ledgerCommit ok) := by
  unfold State.ledgerCommit
  dsimp only
  split
  · exact 
      Follows.branch h (Follows.branch h.appendFails (have h : s₀.Follows _ := (Follows.branch
        h.commitState.commitRollover (Follows.branch h.commitState.commitSupplement h.commitState)).watchHighWater
      Follows.branch h.endAppendCmd h.furtherSupplement))
  · exact h

theorem Follows.dropAppend (h : s₀.Follows s) : s₀.Follows s.dropAppend := by
  unfold State.dropAppend
  split
  · refine Follows.returnItems (Follows.onLedger ?_)
    split
    · exact h.voidRing
    · exact h
  · exact h

theorem Follows.abandonLedger (h : s₀.Follows s) : s₀.Follows s.abandonLedger := by
  unfold State.abandonLedger
  exact h.dropAppend.onLedger

theorem Follows.searchLedger (h : s₀.Follows s) : s₀.Follows s.searchLedger := by
  unfold State.searchLedger
  exact h.dropAppend.onLedger

theorem Follows.crossCheck (h : s₀.Follows s) : s₀.Follows s.crossCheck := by
  unfold State.crossCheck
  dsimp only
  split
  · exact Follows.branch h (Follows.branch h.onLedger h.counterSetTo.onLedger.occur)
  · exact h.counterSetTo.onLedger.event

theorem Follows.checkLastRecord (h : s₀.Follows s) : s₀.Follows s.checkLastRecord := by
  unfold State.checkLastRecord
  split
  · exact h
  · split
    · exact h.onLedger
    · split
      · exact h.onLedger.event
      · exact h.onLedger.occur

theorem Follows.startLedger (h : s₀.Follows s) : s₀.Follows s.startLedger := h.searchLedger.crossCheck.checkLastRecord

theorem Follows.gateLedger (h : s₀.Follows s) : s₀.Follows s.gateLedger.1 := by
  unfold State.gateLedger
  extract_lets _ _ t u
  have hu : s₀.Follows u := h.onLedger.putNum
  split
  · exact Follows.fst hu.onLedger
  · split
    · exact hu
    · exact Follows.fst hu.onLedger.askAppend

theorem Follows.onRing {r : Fin 2} {f : ExportRing → ExportRing} (h : s₀.Follows s) : s₀.Follows (s.onRing r f) :=
  h.onLedger

theorem Follows.ringAcks {r : Fin 2} {q : Nat} (h : s₀.Follows s) : s₀.Follows (s.ringAcks r q) :=
  Follows.branch h.ackEvents (Follows.branch h.acknowledge h)

theorem Follows.ringCons {r : Fin 2} {v : BitVec 32} (h : s₀.Follows s) : s₀.Follows (s.ringCons r v) := by
  unfold State.ringCons
  dsimp only
  split
  · exact h.onRing.event
  · split
    · split
      · exact h.onRing.ringAcks
      · exact h.onRing
    · exact h.onRing

theorem Follows.ringPut {r : Fin 2} {b : List Byte} {q : Option Nat} (h : s₀.Follows s) :
    s₀.Follows (s.ringPut r b q) := by
  unfold State.ringPut
  exact h.send.onRing

theorem Follows.ringSignal {r : Fin 2} (h : s₀.Follows s) : s₀.Follows (s.ringSignal r) := Follows.branch h.send h

theorem Follows.ringWaits {r : Fin 2} (h : s₀.Follows s) : s₀.Follows (s.ringWaits r) := h.onRing

theorem Follows.ringFrame (h : s₀.Follows s) : s₀.Follows s.ringFrame := by
  unfold State.ringFrame
  dsimp only
  split
  · exact h
  · split
    · exact h
    · split
      · exact (Follows.branch h.onRing h).onRing
      · exact Follows.branch ((Follows.branch h.onRing h).ringWaits)
          ((Follows.branch ((Follows.branch h.onRing h).ringPut) (Follows.branch h.onRing
          h)).ringPut.onRing.ringSignal)

theorem Follows.eventRingEntry (h : s₀.Follows s) : s₀.Follows s.eventRingEntry := by
  unfold State.eventRingEntry
  dsimp only
  split
  · exact h
  · split
    · exact h
    · split
      · exact (Follows.branch h.onRing h).onRing
      · exact Follows.branch ((Follows.branch h.onRing h).ringWaits)
          ((((Follows.branch h.onRing h).ringPut).onRing).ringSignal)

theorem Follows.summary (h : s₀.Follows s) : s₀.Follows s.summary.2 := by
  unfold State.summary
  dsimp only
  exact h.same

end State
end Sys2Proof.Machine

/-! SUPPORT. What follows a state through attestation, the option area and mode entries. -/

namespace Sys2Proof.Machine
namespace State

set_option Elab.async false

variable {s₀ s : State}

theorem Follows.onSlot {k : Nat} {f : Responder → Responder} (h : s₀.Follows s) : s₀.Follows (s.onSlot k f) :=
  h.onAtt

theorem Follows.failurePolicy {k outcome : Nat} (h : s₀.Follows s) : s₀.Follows (s.failurePolicy k outcome) :=
  Follows.branch h.event.occur h.event

theorem Follows.pendSlot {k : Nat} (h : s₀.Follows s) : s₀.Follows (s.pendSlot k) := Follows.branch h h.pend

theorem Follows.decideSlot {k outcome : Nat} (h : s₀.Follows s) : s₀.Follows (s.decideSlot k outcome) :=
  have h : s₀.Follows _ := Follows.branch h.onSlot.failurePolicy h.onSlot
  have h : s₀.Follows _ := Follows.branch h.pendSlot h
  Follows.branch h.releaseFromSlot h

theorem Follows.sendWithin {onFull : State → State} {k : Nat} {b : List Byte} (h : s₀.Follows s)
    (hf : ∀ t, s₀.Follows t → s₀.Follows (onFull t)) : s₀.Follows (s.sendWithin onFull k b) := by
  unfold State.sendWithin
  split
  · exact h.onSlot.send
  · exact hf s h

theorem Follows.requestNext {onFull : State → State} {k : Nat} {w : SpdmAwait} (h : s₀.Follows s)
    (hf : ∀ t, s₀.Follows t → s₀.Follows (onFull t)) : s₀.Follows (s.requestNext onFull k w) := by
  unfold State.requestNext
  extract_lets d _ _
  have hd : s₀.Follows d.2 := by
    unfold d
    split
    · exact h.drawOctets
    · exact h
  exact hd.onSlot.sendWithin hf

theorem Follows.beginWithin {onFull : State → State} {k : Nat} (h : s₀.Follows s)
    (hf : ∀ t, s₀.Follows t → s₀.Follows (onFull t)) : s₀.Follows (s.beginWithin onFull k) := h.onSlot.requestNext hf

theorem Follows.startSlots (h : s₀.Follows s) : s₀.Follows s.startSlots :=
  Follows.branch h (h.forAll (fun _ _ h => Follows.branch (h.beginWithin (fun _ h => h.decideSlot)) h))

theorem Follows.snapshotGate (h : s₀.Follows s) : s₀.Follows s.snapshotGate := (h.forAll (fun _ _ h => h.onSlot)).onAtt

theorem Follows.checkGateEnd (h : s₀.Follows s) : s₀.Follows s.checkGateEnd := Follows.branch h.snapshotGate h

theorem Follows.closeCollection (h : s₀.Follows s) : s₀.Follows s.closeCollection :=
  ((h.forAll (fun _ _ h => h.decideSlot)).onAtt.forAll (fun _ _ h => h.pendSlot)).askAppend

theorem Follows.checkServeEnd (h : s₀.Follows s) : s₀.Follows s.checkServeEnd := Follows.branch h.closeCollection h

theorem Follows.endSlot {k outcome : Nat} (h : s₀.Follows s) : s₀.Follows (s.endSlot k outcome) :=
  h.decideSlot.startSlots.checkGateEnd.checkServeEnd

theorem Follows.sendSpdm {k : Nat} {b : List Byte} (h : s₀.Follows s) : s₀.Follows (s.sendSpdm k b) :=
  h.sendWithin (fun _ h => h.endSlot)

theorem Follows.sendNext {k : Nat} {w : SpdmAwait} (h : s₀.Follows s) : s₀.Follows (s.sendNext k w) :=
  h.requestNext (fun _ h => h.endSlot)

theorem Follows.beginSlot {k : Nat} (h : s₀.Follows s) : s₀.Follows (s.beginSlot k) :=
    h.beginWithin (fun _ h => h.endSlot)

theorem Follows.openServeCollection (h : s₀.Follows s) : s₀.Follows s.openServeCollection :=
    h.onAtt.startSlots.checkServeEnd

theorem Follows.gateAttestation (h : s₀.Follows s) : s₀.Follows s.gateAttestation :=
  (h.forAll (fun _ _ h => h.onAtt.putOctetsAt)).onAtt.checkGateEnd

theorem Follows.abortSlots (h : s₀.Follows s) : s₀.Follows s.abortSlots := (h.forAll (fun _ _ h => h.decideSlot)).onAtt

theorem Follows.unrecordedSlots (h : s₀.Follows s) : s₀.Follows s.unrecordedSlots := Follows.branch h h.event

theorem Follows.suspendSlots (h : s₀.Follows s) : s₀.Follows s.suspendSlots := h.onAtt

theorem Follows.setEndpoint {k : Nat} (h : s₀.Follows s) : s₀.Follows (s.setEndpoint k) := h.send

theorem Follows.discover {found : List Word} (h : s₀.Follows s) : s₀.Follows (s.discover found) :=
  Follows.branch h (h.onAtt.forAll (fun _ _ h => h.onSlot.setEndpoint))

theorem Follows.hotJoin {identity : Word} (h : s₀.Follows s) : s₀.Follows (s.hotJoin identity) :=
  h.forAll (fun _ _ h => h.onSlot.setEndpoint)

theorem Follows.mctpReply {r : MctpReply} (h : s₀.Follows s) : s₀.Follows (s.mctpReply r) := by
  unfold State.mctpReply
  split
  · exact Follows.branch h.onSlot.startSlots h
  · exact Follows.branch h ((h.forAll (fun _ _ h => h.onSlot)).startSlots)

theorem Follows.checkChainOf {k : Nat} (h : s₀.Follows s) : s₀.Follows (s.checkChainOf k) := by
  unfold State.checkChainOf
  dsimp only
  split
  · exact Follows.branch h.onAtt.putOctetsAt.sendNext h.endSlot
  · exact h.endSlot

theorem Follows.digestsReply {k : Nat} {digest : List Byte} (h : s₀.Follows s) :
    s₀.Follows (s.digestsReply k digest) := by
  unfold State.digestsReply
  dsimp only
  split
  · exact Follows.branch (Follows.branch h.onSlot.onSlot.sendNext h.onSlot.endSlot) h.onSlot.sendNext
  · exact h.onSlot.sendNext

theorem Follows.certificateReply {k : Nat} {portion : List Byte} {remaining : Nat}
    (h : s₀.Follows s) : s₀.Follows (s.certificateReply k portion remaining) :=
  Follows.branch h.endSlot (Follows.branch h.onSlot.endSlot (Follows.branch h.onSlot.checkChainOf h.onSlot.sendNext))

theorem Follows.slotReply {k : Nat} {w : SpdmAwait} {before octets : List Byte} {reply : SpdmReply}
    (h : s₀.Follows s) : s₀.Follows (s.slotReply k w before octets reply) := by
  unfold State.slotReply
  dsimp only
  split
  · split
    · exact h.onSlot.sendNext
    · exact h.endSlot
  · exact Follows.branch h.onSlot.sendNext h.endSlot
  · split
    · exact Follows.branch h.onSlot.sendNext h.endSlot
    · exact h.endSlot
  · exact h.digestsReply
  · exact h.certificateReply
  · exact Follows.branch h.sendNext h.endSlot
  · exact Follows.branch h.endSlot (Follows.branch h.onSlot.endSlot h.onSlot.endSlot)
  · exact Follows.branch h.onSlot h.endSlot
  · exact Follows.branch h.endSlot (Follows.branch h.onSlot h.endSlot)
  · exact Follows.branch h.onSlot.beginSlot h.endSlot
  · exact h.endSlot

theorem Follows.spdmReply {k : Nat} {reply : SpdmReply} {octets : List Byte}
    (h : s₀.Follows s) : s₀.Follows (s.spdmReply k reply octets) := by
  unfold State.spdmReply
  dsimp only
  split
  · exact h
  · split
    · exact h.endSlot
    · exact Follows.branch h.onSlot.endSlot h.onSlot.slotReply

theorem Follows.spdmTimeout {k : Nat} (h : s₀.Follows s) : s₀.Follows (s.spdmTimeout k) :=
  Follows.branch h (Follows.branch h.onSlot.sendSpdm h.endSlot)

theorem Follows.spdmRetry {k : Nat} (h : s₀.Follows s) : s₀.Follows (s.spdmRetry k) := by
  unfold State.spdmRetry
  dsimp only
  split
  · exact h
  · exact h.sendSpdm
  · exact h.sendSpdm

theorem closeCollectionAction_keeps : closeCollectionAction.Keeps := by
  intro s₀ s _ _ h
  unfold closeCollectionAction
  dsimp only
  exact Follows.branch h.closeCollection h

theorem Follows.overrideSlot {k : Nat} (h : s₀.Follows s) : s₀.Follows (s.overrideSlot k) :=
    h.onSlot.pendSlot.releaseFromSlot

theorem attestationOverrideAction_keeps : attestationOverrideAction.Keeps := by
  intro s₀ s _ _ h
  unfold attestationOverrideAction
  dsimp only
  exact h.overrideSlot

theorem Follows.clearChainCaches (h : s₀.Follows s) : s₀.Follows s.clearChainCaches := h.onAtt.put

theorem Follows.takeOptions (h : s₀.Follows s) : s₀.Follows s.takeOptions := by
  unfold State.takeOptions
  exact h.onModes

theorem Follows.repairOptions (h : s₀.Follows s) : s₀.Follows s.repairOptions :=
  Follows.branch h h.optionRewriteNow.event.onModes

theorem Follows.tryRewrite {w : List Word} (h : s₀.Follows s) : s₀.Follows (s.tryRewrite w).1 := by
  unfold State.tryRewrite
  dsimp only
  split
  · exact h.drawFree.optionRewriteNow.takeOptions
  · exact h.drawFree.optionSpoil.takeOptions

theorem Follows.stepTrial (h : s₀.Follows s) : s₀.Follows s.stepTrial.2 := by
  unfold State.stepTrial
  dsimp only
  split
  · exact h
  · split
    · exact h.tryRewrite
    · exact h.tryRewrite

theorem Follows.confirmTrial (h : s₀.Follows s) : s₀.Follows s.confirmTrial := by
  unfold State.confirmTrial
  dsimp only
  split
  · exact Follows.branch h.tryRewrite h
  · exact h

theorem Follows.closePresentation {status code : Nat} (h : s₀.Follows s) :
    s₀.Follows (s.closePresentation status code) := by
  unfold State.closePresentation
  split
  · exact h
  · exact h.onTag.endCmd

theorem Follows.abortPresentation (h : s₀.Follows s) : s₀.Follows s.abortPresentation := h.closePresentation

theorem Follows.endSession {id : Word} (h : s₀.Follows s) : s₀.Follows (s.endSession id) := by
  unfold State.endSession
  exact (Follows.branch h.abortPresentation h).onDict

theorem Follows.endSessions (h : s₀.Follows s) : s₀.Follows s.endSessions :=
    (h.forAll (fun _ _ h => h.endSession)).onDict

theorem Follows.abortCardOp {code : Nat} (h : s₀.Follows s) : s₀.Follows (s.abortCardOp code) := by
  unfold State.abortCardOp
  split
  · exact h
  · refine Follows.onCards ?_
    split
    · exact h.abortCmd
    · exact h

theorem Follows.abortCards (h : s₀.Follows s) : s₀.Follows s.abortCards :=
  ((h.forAll (fun _ _ h => h.abortCmd)).onCards).abortCardOp

theorem Follows.abortBusy {keep : Option Nat} (h : s₀.Follows s) : s₀.Follows (s.abortBusy keep) := h.onDict

theorem Follows.cutFunctions (h : s₀.Follows s) : s₀.Follows s.cutFunctions := h.onChans.onTag.onCards

theorem Follows.closeKeys (h : s₀.Follows s) : s₀.Follows s.closeKeys := h.endKeyCommands.clearKeys.hubClosed

theorem Follows.endForClosed {m : Mode} {keep : Option Nat} (h : s₀.Follows s) :
    s₀.Follows (s.endForClosed m keep) := by
  unfold State.endForClosed
  exact
    have h : s₀.Follows _ := h.reckon.assertHolds.stopServing.endOutages
    have h : s₀.Follows _ := (Follows.branch h
        h.abortPresentation).abortCards.abortSlots.abandonLedger.abortSweep.abortLaneRun.abortUnitRun.cutFunctions
    (Follows.branch h.abortBusy h.abortBusy).endSessions.onModes

theorem Follows.latchLock {cause second : Nat} (h : s₀.Follows s) : s₀.Follows (s.latchLock cause second) :=
    h.setFlag.put

theorem Follows.enterLocked {keep : Option Nat} {cause second : Nat}
    (h : s₀.Follows s) : s₀.Follows (s.enterLocked keep cause second) :=
  h.endForClosed.closeKeys.latchLock

theorem Follows.enterForensic {keep : Option Nat} (h : s₀.Follows s) : s₀.Follows (s.enterForensic keep) :=
  h.endForClosed.closeKeys

theorem Follows.enterRetired {keep : Option Nat} (h : s₀.Follows s) : s₀.Follows (s.enterRetired keep) := h.endForClosed

theorem Follows.eraseLine (h : s₀.Follows s) : s₀.Follows s.eraseLine := h.abortPresentation.eraseSecrets.countEraseLine

theorem Follows.eraseAndLock {keep : Option Nat} {cause second : Nat}
    (h : s₀.Follows s) : s₀.Follows (s.eraseAndLock keep cause second) :=
  Follows.branch h.eraseLine.latchLock h.eraseLine.enterLocked

theorem Follows.backToServe (h : s₀.Follows s) : s₀.Follows s.backToServe :=
    Follows.branch h.onModes.confirmTrial.doneCmd h

theorem Follows.leaveForServe (h : s₀.Follows s) : s₀.Follows s.leaveForServe :=
  Follows.branch (Follows.branch h.onModes h.backToServe) h

theorem Follows.settleLimit (h : s₀.Follows s) : s₀.Follows s.settleLimit := Follows.branch h.backToServe h

theorem Follows.preemptUnlock (h : s₀.Follows s) : s₀.Follows s.preemptUnlock := Follows.branch h.onTamper.failCmd h

theorem Follows.endUnlockPresentation (h : s₀.Follows s) : s₀.Follows s.endUnlockPresentation :=
  Follows.branch h.closePresentation h

theorem Follows.applyResponse {r source : Nat} (h : s₀.Follows s) : s₀.Follows (s.applyResponse r source) :=
  have h : s₀.Follows _ := Follows.branch h.putNum h
  Follows.branch h (Follows.branch h.setFlag.leaveForServe (have h : s₀.Follows _ :=
    h.preemptUnlock.endUnlockPresentation
  have h : s₀.Follows _ := Follows.branch h.eraseLine h
  Follows.branch h.enterLocked (Follows.branch h (Follows.branch h.setFlag h.latchLock))))

theorem Follows.applyTick (h : s₀.Follows s) : s₀.Follows s.applyTick := h.issueTick.onTamper.applyResponse.settleLimit

end State
end Sys2Proof.Machine

/-! SUPPORT. What follows a state through the tamper watch, the vigil domain, the tag and the reader. -/

namespace Sys2Proof.Machine
namespace State

set_option Elab.async false

variable {s₀ s : State}

theorem Follows.onSide {i : Nat} {f : Source → Source} (h : s₀.Follows s) : s₀.Follows (s.onSide i f) :=
  h.onTamper

theorem Follows.sampleSide {k : Nat} {upper : Bool} {v : Int} {code : Nat}
    (h : s₀.Follows s) : s₀.Follows (s.sampleSide k upper v code) := by
  unfold State.sampleSide
  dsimp only
  split
  · split
    · split
      · exact h.onSide.onSide.raiseSource
      · exact h.onSide.onSide
    · exact h.onSide
  · exact h.onSide

theorem Follows.sampleBand {k : Nat} {v : Int} {code : Nat} (h : s₀.Follows s) : s₀.Follows (s.sampleBand k v code) :=
  Follows.branch (Follows.branch (h.onSide.onSide.onSide.forAll (fun _ _ h =>
    (by split; exacts [Follows.branch h h.clearSource, h]))) h.onSide) h.onSide

theorem Follows.settleSensorFault {k code : Nat} {v : Int} (h : s₀.Follows s) :
    s₀.Follows (s.settleSensorFault k code v) :=
  Follows.branch h h.clearSource

theorem Follows.analogSample {k code : Nat} (h : s₀.Follows s) : s₀.Follows (s.analogSample k code) :=
  Follows.branch h (have h : s₀.Follows _ := h.putOctetsAt.putOctetsAt.sampleSide.sampleSide.sampleBand
  Follows.branch h.raiseSource h.settleSensorFault)

theorem Follows.watch {n : Nat} {bad : Bool} {detail : Word} (h : s₀.Follows s) : s₀.Follows (s.watch n bad detail) :=
  Follows.branch h.raiseSource h.clearSource

theorem Follows.meshSample {n : Nat} {r : MeshReading} (h : s₀.Follows s) : s₀.Follows (s.meshSample n r) := h.watch

theorem Follows.sensorSample {i : SensorInput} (h : s₀.Follows s) : s₀.Follows (s.sensorSample i) := by
  unfold State.sensorSample
  split
  · exact h.analogSample
  · exact Follows.branch h.meshSample h
  · exact h.meshSample
  · exact Follows.branch h h.watch
  · exact h.watch

theorem Follows.writeRawThresholds (h : s₀.Follows s) : s₀.Follows s.writeRawThresholds := by
  unfold State.writeRawThresholds
  exact h.onVigil

theorem Follows.recalibrate {k : Fin 9} {ca cb : Int} (h : s₀.Follows s) : s₀.Follows (s.recalibrate k ca cb) :=
  (Follows.branch (Follows.branch h.put.onTamper h.put.onTamper.settleSensorFault)
    h.onTamper.raiseSource).writeRawThresholds

theorem Follows.vigilRecord {n r : Nat} {cleared : Bool} (h : s₀.Follows s) : s₀.Follows (s.vigilRecord n r cleared) :=
  Follows.branch h.onVigil.setFlag h.onVigil.setFlag

theorem Follows.vigilRaise {n : Nat} (h : s₀.Follows s) : s₀.Follows (s.vigilRaise n) :=
  Follows.branch h (have h : s₀.Follows _ := Follows.branch h.onSource.onKeys.setFlag.setFlag h.onSource
  (Follows.branch h.setFlag (Follows.branch h.setFlag h)).vigilRecord)

theorem Follows.vigilWatch {n : Nat} {bad : Bool} {detail : Word} (h : s₀.Follows s) :
    s₀.Follows (s.vigilWatch n bad detail) :=
  Follows.branch h.watch (Follows.branch h.vigilRaise h.onSource)

theorem Follows.rawWatch {n off code : Nat} (h : s₀.Follows s) : s₀.Follows (s.rawWatch n off code) :=
  Follows.branch h.vigilWatch (Follows.branch h.vigilWatch h)

theorem Follows.cellRemoved {b : Bool} (h : s₀.Follows s) : s₀.Follows (s.cellRemoved b) :=
  (Follows.branch h.setFlag h).vigilWatch

theorem Follows.switchSample {i : Fin 4} {level : Bool} (h : s₀.Follows s) : s₀.Follows (s.switchSample i level) :=
  Follows.branch h.onTamper.vigilWatch h.onTamper

theorem Follows.vigilSample {i : VigilInput} (h : s₀.Follows s) : s₀.Follows (s.vigilSample i) := by
  unfold State.vigilSample
  dsimp only
  split
  · exact Follows.branch h.vigilWatch h
  · exact h.vigilWatch
  · exact Follows.branch h h.rawWatch
  · exact Follows.branch h.onVigil h.onVigil.rawWatch
  · exact (Follows.branch h h.rawWatch).cellRemoved
  · exact h.vigilWatch
  · exact h.switchSample

theorem clearRestraintAction_keeps : clearRestraintAction.Keeps := by
  intro s₀ s _ _ h
  unfold clearRestraintAction
  dsimp only
  exact h.setFlag

theorem Follows.raiseAfresh {n : Nat} (h : s₀.Follows s) : s₀.Follows (s.raiseAfresh n) :=
  Follows.branch (Follows.branch h.onSource.raiseSource h.onSource.vigilRaise) h

theorem Follows.closeCellWindow {reason : Nat} (h : s₀.Follows s) : s₀.Follows (s.closeCellWindow reason) :=
  Follows.branch h (have h : s₀.Follows _ := h.onVigil.setFlag
  (Follows.branch h.event h).endCmd.raiseAfresh.raiseAfresh)

theorem cellWindowAction_keeps {vauxInRange : Bool} : (cellWindowAction vauxInRange).Keeps := by
  intro s₀ s _ _ h
  unfold cellWindowAction
  dsimp only
  split
  · exact h.onVigil.setFlag.event
  · exact h

theorem zeroiseAction_keeps : zeroiseAction.Keeps := by
  intro s₀ s _ _ h
  unfold zeroiseAction
  dsimp only
  split
  · exact h.eraseAndLock
  · exact h

theorem Follows.writeTag {r : Fin 32} {b : List Byte} (h : s₀.Follows s) : s₀.Follows (s.writeTag r b) := h.onTag

theorem Follows.settleWrites (h : s₀.Follows s) : s₀.Follows s.settleWrites :=
    (h.forAll (fun _ _ h => h.writeTag)).onTag

theorem Follows.putSummary {held : Option (Fin 32)} (h : s₀.Follows s) : s₀.Follows (s.putSummary held) :=
  Follows.branch h.wrapBy.onLedger h.settleWrites.summary.writeTag.onLedger

theorem Follows.whenTag {f : State → State} (h : s₀.Follows s) (hf : ∀ t, s₀.Follows t → s₀.Follows (f t)) :
    s₀.Follows (s.whenTag f) := Follows.branch (hf s h) h

theorem Follows.tagState {x : TagState} (h : s₀.Follows s) : s₀.Follows (s.tagState x) := h.onTag

theorem Follows.tagSend {b : List Byte} (h : s₀.Follows s) : s₀.Follows (s.tagSend b) := h.send

theorem Follows.tagUnexpected (h : s₀.Follows s) : s₀.Follows s.tagUnexpected := h.onTag

theorem Follows.leaveDoff (h : s₀.Follows s) : s₀.Follows s.leaveDoff := Follows.branch h h.onVigil.onTag

theorem endDoffAction_keeps : endDoffAction.Keeps := by
  intro s₀ s _ _ h
  unfold endDoffAction
  dsimp only
  exact h.leaveDoff

theorem Follows.apduAnswer {b : List Byte} (h : s₀.Follows s) : s₀.Follows (s.apduAnswer b) := h.onTag.tagSend

theorem Follows.whenProtocol {f : State → State} (h : s₀.Follows s) (hf : ∀ t, s₀.Follows t → s₀.Follows (f t)) :
    s₀.Follows (s.whenProtocol f) := h.whenTag fun _ h => Follows.branch (hf _ h.settleWrites) h.tagUnexpected

theorem Follows.whenSelected {f : State → State} (h : s₀.Follows s) (hf : ∀ t, s₀.Follows t → s₀.Follows (f t)) :
    s₀.Follows (s.whenSelected f) := h.whenProtocol fun t h => Follows.branch (hf t h) h.apduAnswer

theorem Follows.enrol {e : Nat} {keys : List Byte} (h : s₀.Follows s) : s₀.Follows (s.enrol e keys) :=
  h.put.putOctetsAt.putOctetsAt.putOctetsAt

theorem Follows.openPresentation {purpose cmd : Nat} {a : Asker} {argument : List Byte}
    (h : s₀.Follows s) : s₀.Follows (s.openPresentation purpose cmd a argument) := by
  unfold State.openPresentation
  exact h.drawOctets.onTag

theorem elevationAction_keeps : elevationAction.Keeps := by
  intro s₀ s _ _ h
  unfold elevationAction
  dsimp only
  exact h.openPresentation

theorem unlockAction_keeps : unlockAction.Keeps := by
  intro s₀ s _ _ h
  unfold unlockAction
  dsimp only
  exact h.openPresentation

theorem rosterAddAction_keeps : rosterAddAction.Keeps := by
  intro s₀ s _ _ h
  unfold rosterAddAction
  dsimp only
  split
  · exact h.openPresentation
  · exact h

theorem rosterRevokeAction_keeps : rosterRevokeAction.Keeps := by
  intro s₀ s _ _ h
  unfold rosterRevokeAction
  dsimp only
  split
  · exact h
  · split
    · exact h.putOctetsAt
    · exact h

theorem Follows.readerPoll {external : Bool} {tokens : List (List Byte)}
    (h : s₀.Follows s) : s₀.Follows (s.readerPoll external tokens) :=
  Follows.branch h (Follows.branch h.wrapBy h.send.onTag)

theorem Follows.rejectToken {uid : List Byte} {step : Nat} (h : s₀.Follows s) :
    s₀.Follows (s.rejectToken uid step) := by
  unfold State.rejectToken
  exact h.event.bumpBy.onTag

theorem Follows.newVigilRoot (h : s₀.Follows s) : s₀.Follows s.newVigilRoot := h.drawOctets.onKeys.setFlag.putNum.putNum

theorem Follows.acceptUnlock {lo hi : Nat} (h : s₀.Follows s) : s₀.Follows (s.acceptUnlock lo hi) := by
  unfold State.acceptUnlock
  exact
    have h : s₀.Follows _ := h.setFlag.setFlag.event
    (Follows.branch h.newVigilRoot h).onTamper

theorem Follows.dropPresentation (h : s₀.Follows s) : s₀.Follows s.dropPresentation := h.onTag

theorem Follows.pairComplete {p : Presentation} {a b : Nat} (h : s₀.Follows s) : s₀.Follows (s.pairComplete p a b) := by
  unfold State.pairComplete
  dsimp only
  split
  · exact Follows.branch h.put.closePresentation h.put.dropPresentation.acceptUnlock
  · split
    · exact (((h.put.forAll (fun _ _ h => h.enrol))).onSession).closePresentation
    · exact ((h.put.forAll (fun _ _ h => h.enrol))).closePresentation

theorem Follows.acceptEntry {e : Nat} (h : s₀.Follows s) : s₀.Follows (s.acceptEntry e) := by
  unfold State.acceptEntry
  dsimp only
  split
  · exact h
  · split
    · exact h.onTag.pairComplete
    · exact h.onTag

theorem Follows.authenticatePair {p : Presentation} {t : TokenReply}
    (h : s₀.Follows s) : s₀.Follows (s.authenticatePair p t) := by
  unfold State.authenticatePair
  dsimp only
  split
  · exact Follows.branch h.acceptEntry h.rejectToken
  · split
    · exact h.rejectToken
    · split
      · exact h.rejectToken
      · split
        · exact h.rejectToken
        · split
          · exact h.onTag.acceptEntry
          · exact h.onTag

theorem Follows.authenticateAdd {p : Presentation} {t : TokenReply} (h : s₀.Follows s) :
    s₀.Follows (s.authenticateAdd p t) :=
  Follows.branch h.rejectToken (Follows.branch h.rejectToken (Follows.branch h.rejectToken (Follows.branch
    h.closePresentation h.enrol.closePresentation)))

theorem Follows.authenticate {t : TokenReply} (h : s₀.Follows s) : s₀.Follows (s.authenticate t) := by
  unfold State.authenticate
  dsimp only
  split
  · exact h
  · split
    · exact h
    · split
      · exact h.onTag
      · split
        · exact h.onTag.rejectToken
        · exact Follows.branch h.onTag.authenticateAdd h.onTag.authenticatePair

end State
end Sys2Proof.Machine

/-! SUPPORT. What follows a state through keeper cards, functions, clocks, islands and freeze. -/

namespace Sys2Proof.Machine
namespace State

set_option Elab.async false

variable {s₀ s : State}

theorem Follows.setCard {i : Fin 4} {c : Option Card} (h : s₀.Follows s) : s₀.Follows (s.setCard i c) :=
  h.onCards

theorem Follows.insertCard {k : Fin 4} {c : CardReply} (h : s₀.Follows s) : s₀.Follows (s.insertCard k c) := by
  unfold State.insertCard
  dsimp only
  split
  · exact h
  · split
    · exact h.onCards
    · split
      · exact h.onCards.setCard.onCards
      · exact h.onCards.event

theorem Follows.removeCard {k : Fin 4} {answers : List Bool} (h : s₀.Follows s) : s₀.Follows (s.removeCard k answers) :=
  Follows.branch h (h.onCards.abortCardOp.forAll (fun _ _ h => Follows.branch h h.setCard.onCards))

theorem Follows.forgetCards (h : s₀.Follows s) : s₀.Follows s.forgetCards := h.onCards

theorem Follows.placeEntry {e : JournalEntry} (h : s₀.Follows s) : s₀.Follows (s.placeEntry e) := by
  unfold State.placeEntry
  exact h.programWords.onCards

theorem Follows.eraseJournal {sector : Nat} (h : s₀.Follows s) : s₀.Follows (s.eraseJournal sector) :=
  (h.forAll (fun _ _ h => h.onCards.placeEntry.programWord)).eraseNow

theorem Follows.journalCard {e : JournalEntry} (h : s₀.Follows s) : s₀.Follows (s.journalCard e) :=
  (Follows.branch h.eraseJournal h).placeEntry

theorem Follows.closeEntry {e : JournalEntry} {w : Word} (h : s₀.Follows s) : s₀.Follows (s.closeEntry e w) :=
  h.programWord.onCards

theorem Follows.setLabel {i : Fin 4} {block : Nat} {l : Option Label}
    (h : s₀.Follows s) : s₀.Follows (s.setLabel i block l) := by
  unfold State.setLabel
  split
  · exact h.setCard
  · exact h

theorem Follows.writeLabel {o : CardOp} (h : s₀.Follows s) : s₀.Follows (s.writeLabel o) := h.onCards.send

theorem Follows.startCard {index : Fin 4} {op : CardOpKind} {first records item more : Nat} {data : List Byte}
    {label : Label} {cmd : Option Nat} (h : s₀.Follows s) : s₀.Follows (s.startCard index op first records item more
    data label cmd) := by
  unfold State.startCard
  dsimp only
  split
  · exact h
  · exact Follows.branch h.journalCard.writeLabel h.journalCard.onCards.send

theorem Follows.archiveState {n : Nat} (h : s₀.Follows s) : s₀.Follows (s.archiveState n) := h.onCards

theorem Follows.archive (h : s₀.Follows s) : s₀.Follows s.archive := by
  unfold State.archive
  dsimp only
  split
  · exact h
  · split
    · exact h.archiveState
    · exact Follows.branch h.archiveState (Follows.branch (Follows.branch h h.archiveState.event)
        h.archiveState.startCard)

theorem Follows.startPrepare {i : Fin 4} {role split more : Nat}
    (h : s₀.Follows s) : s₀.Follows (s.startPrepare i role split more) := by
  unfold State.startPrepare
  split
  · exact h
  · exact h.startCard

theorem Follows.startStage {i : Fin 4} {number kind : Nat} (h : s₀.Follows s) :
    s₀.Follows (s.startStage i number kind) := by
  unfold State.startStage
  dsimp only
  split
  · exact h
  · split
    · exact h
    · split
      · exact h.startCard
      · exact h

theorem Follows.runCard {cmd : Nat} {b : List Byte} (h : s₀.Follows s) : s₀.Follows (s.runCard cmd b) :=
  Follows.branch h.failCmd (Follows.branch h.startPrepare h.startStage)

theorem Follows.pumpCards {n : Nat} (h : s₀.Follows s) : s₀.Follows (s.pumpCards n) := by
  induction n generalizing s with
  | zero => exact h
  | succ n ih =>
    unfold State.pumpCards
    split
    · exact h
    · exact Follows.branch h (Follows.branch h.archive (ih h.archive.onCards.runCard))

theorem Follows.turnCards (h : s₀.Follows s) : s₀.Follows s.turnCards := h.pumpCards

theorem cardAction_keeps {cmd : Nat} {arg : List Byte → Nat} : (cardAction cmd arg).Keeps := by
  intro s₀ s _ _ h
  unfold cardAction
  dsimp only
  split
  · exact h
  · exact h.onCards.turnCards

theorem prepareAction_keeps : prepareAction.Keeps := cardAction_keeps

theorem stageAction_keeps : stageAction.Keeps := cardAction_keeps

theorem Follows.advanceCard {e : JournalEntry} {index : Fin 4} {label : Label}
    (h : s₀.Follows s) : s₀.Follows (s.advanceCard e index label) := by
  unfold State.advanceCard
  dsimp only
  split
  · exact Follows.branch h.archiveState.acknowledge h.archiveState
  · split
    · exact h.onCards
    · exact h
  · exact h

theorem Follows.finishCard {o : CardOp} {i : Fin 4} (h : s₀.Follows s) : s₀.Follows (s.finishCard o i) :=
  have h : s₀.Follows _ := h.onCards.closeEntry.setLabel.advanceCard
  Follows.branch (Follows.turnCards (by split; exacts [h.doneCmd, h])) h.startPrepare

theorem Follows.rollbackNow {o : CardOp} (h : s₀.Follows s) : s₀.Follows (s.rollbackNow o) :=
  have h : s₀.Follows _ := h.onCards.closeEntry
  Follows.turnCards (by split; exacts [h.failCmd, h])

theorem Follows.leaveInDoubt {o : CardOp} (h : s₀.Follows s) : s₀.Follows (s.leaveInDoubt o) := by
  refine Follows.turnCards (Follows.abortCardOp ?_)
  split
  · exact h.failCmd
  · exact h

theorem Follows.missCard {o : CardOp} (h : s₀.Follows s) : s₀.Follows (s.missCard o) :=
  Follows.branch h.onCards.send h.leaveInDoubt

theorem Follows.failCard {o : CardOp} (h : s₀.Follows s) : s₀.Follows (s.failCard o) :=
  Follows.branch h.rollbackNow h.leaveInDoubt

theorem Follows.busyEnd (h : s₀.Follows s) : s₀.Follows s.busyEnd := by
  unfold State.busyEnd
  split
  · exact Follows.branch h.onCards.send h
  · exact h

theorem Follows.cardStatus {r : CardStatus} (h : s₀.Follows s) : s₀.Follows (s.cardStatus r) := by
  unfold State.cardStatus
  split
  · exact h
  · split
    · exact h.failCard
    · exact Follows.branch h h.missCard
    · exact Follows.branch h (Follows.branch h.failCard (Follows.branch h.send (Follows.branch h.writeLabel
        h.finishCard)))

theorem Follows.rollbackEntry {e : JournalEntry} {i : Fin 4} {found : Option Label} {rewriteOk : Bool}
    (h : s₀.Follows s) : s₀.Follows (s.rollbackEntry e i found rewriteOk) := by
  unfold State.rollbackEntry
  dsimp only
  split
  · exact Follows.branch h.send.setLabel.closeEntry.bumpBy h.send
  · exact h.setLabel.closeEntry.bumpBy

theorem Follows.resolveEntry {i : Fin 4} {content : List Byte} {rewriteOk : Bool}
    (h : s₀.Follows s) : s₀.Follows (s.resolveEntry i content rewriteOk) := by
  unfold State.resolveEntry
  dsimp only
  split
  · exact h
  · split
    · exact h
    · split
      · exact h.closeEntry.setLabel.advanceCard.turnCards
      · exact h.rollbackEntry.turnCards

theorem Follows.resetCards (h : s₀.Follows s) : s₀.Follows s.resetCards := h.abortCards.forgetCards.onCards

theorem Follows.setFn {i : FnId} {x : Switchable} (h : s₀.Follows s) : s₀.Follows (s.setFn i x) := by
  unfold State.setFn
  split
  · exact h.onChan
  · exact h.onTag
  · exact h.onCards

theorem Follows.fnDrains {i : FnId} (h : s₀.Follows s) : s₀.Follows (s.fnDrains i) := by
  unfold State.fnDrains
  split
  · exact h.portOutage
  · exact h
  · exact h.abortCards

theorem Follows.fnOff {i : FnId} (h : s₀.Follows s) : s₀.Follows (s.fnOff i) := by
  unfold State.fnOff
  split
  · exact h
  · exact h.onTag
  · exact h.forgetCards

theorem Follows.fnOn {i : FnId} (h : s₀.Follows s) : s₀.Follows (s.fnOn i) := by
  unfold State.fnOn
  split
  · exact Follows.branch h.portOutage h
  · exact h.onTag
  · exact h.forgetCards

theorem enableAction_keeps {i : FnId} : (enableAction i).Keeps := by
  intro s₀ s _ _ h
  unfold enableAction
  dsimp only
  split
  · exact h.setFn
  · exact h
  · exact h
  · exact h.setFn

theorem disableAction_keeps {i : FnId} : (disableAction i).Keeps := by
  intro s₀ s _ _ h
  unfold disableAction
  dsimp only
  split
  · exact h
  · exact h.setFn.abortCmd
  · exact h.setFn.fnDrains
  · exact h

theorem Follows.abortFn {i : FnId} (h : s₀.Follows s) : s₀.Follows (s.abortFn i) := by
  unfold State.abortFn
  split
  · exact h.setFn.fnOff.abortCmd.abortCmd
  · exact h.setFn.fnOff.abortCmd.abortCmd
  · exact h

theorem Follows.drainComplete {i : FnId} (h : s₀.Follows s) : s₀.Follows (s.drainComplete i) :=
  Follows.branch h h.fnOff.doneCmd.setFn

theorem Follows.startComplete {i : FnId} (h : s₀.Follows s) : s₀.Follows (s.startComplete i) :=
  Follows.branch h h.setFn.fnOn.doneCmd

theorem Follows.copyTime (h : s₀.Follows s) : s₀.Follows s.copyTime := Follows.branch h.onVigil h

theorem Follows.keepIssued (h : s₀.Follows s) : s₀.Follows s.keepIssued := Follows.branch h.onVigil h

theorem Follows.vigilTick (h : s₀.Follows s) : s₀.Follows s.vigilTick :=
  Follows.branch h (have h : s₀.Follows _ := h.onVigil.copyTime
  (Follows.branch h.applyTick h).keepIssued)

theorem Follows.slewStep (h : s₀.Follows s) : s₀.Follows s.slewStep :=
  Follows.branch h (Follows.branch h.onVigil.copyTime.doneCmd h.onVigil.copyTime)

theorem slewAction_keeps : slewAction.Keeps := by
  intro s₀ s _ _ h
  unfold slewAction
  dsimp only
  exact h.onVigil

theorem Follows.abortSlew (h : s₀.Follows s) : s₀.Follows s.abortSlew := h.onVigil.abortCmd

theorem setTimeAction_keeps : setTimeAction.Keeps := by
  intro s₀ s _ _ h
  unfold setTimeAction
  dsimp only
  exact h.reckon.onVigil.onInteg

theorem Follows.crystalMeasured {count : Nat} {mean : Int} (h : s₀.Follows s) :
    s₀.Follows (s.crystalMeasured count mean) :=
  have h : s₀.Follows _ := h.putNum.onPower
  Follows.branch h h.putOctetsAt.putNum

theorem Follows.updateTrim (h : s₀.Follows s) : s₀.Follows s.updateTrim := by
  unfold State.updateTrim
  split
  · exact h.onVigil
  · exact h

theorem Follows.pllLost (h : s₀.Follows s) : s₀.Follows s.pllLost := Follows.branch h h.onPower.raiseSource

theorem Follows.onIsland {i : Fin 26} {f : Island → Island} (h : s₀.Follows s) : s₀.Follows (s.onIsland i f) :=
  h.onPower

theorem Follows.islandEntry {i : Fin 26} {idle : Nat} (h : s₀.Follows s) : s₀.Follows (s.islandEntry i idle) :=
  Follows.branch h h.onIsland

theorem Follows.wakeIsland {i : Fin 26} (h : s₀.Follows s) : s₀.Follows (s.wakeIsland i) :=
  Follows.branch h h.onIsland.wrapWord

theorem Follows.wakeAll {l : List (Fin 26)} (h : s₀.Follows s) : s₀.Follows (s.wakeAll l) :=
  h.forAll (fun _ _ h => h.wakeIsland)

theorem Follows.raiseIslands (h : s₀.Follows s) : s₀.Follows s.raiseIslands :=
  h.forAll (fun _ _ h => Follows.branch h.onIsland h)

theorem Follows.sendLtr (h : s₀.Follows s) : s₀.Follows s.sendLtr := Follows.branch h.send h

theorem Follows.pcieReset (h : s₀.Follows s) : s₀.Follows s.pcieReset :=
  Follows.onPower (h.onDict fun _ _ => .replicate)

theorem Follows.dumpTo {n : Nat} {w : List Word} (h : s₀.Follows s) : s₀.Follows (s.dumpTo n w) :=
  Follows.branch h (Follows.branch h.storeCommons h.bump)

theorem Follows.snapshot (h : s₀.Follows s) : s₀.Follows s.snapshot := h.drawFree.put.dumpTo.putNum

theorem snapshotAction_keeps : snapshotAction.Keeps := by
  intro s₀ s _ _ h
  unfold snapshotAction
  dsimp only
  exact h.snapshot

theorem Follows.ignoredFreeze (h : s₀.Follows s) : s₀.Follows s.ignoredFreeze :=
  Follows.branch h.bumpBy.event.onPower h.bumpBy

theorem freezeAction_keeps : freezeAction.Keeps := by
  intro s₀ s _ _ h
  unfold freezeAction
  dsimp only
  exact h.onPower

theorem Follows.countFreezeWrite {f : Frame} (h : s₀.Follows s) : s₀.Follows (s.countFreezeWrite f) :=
  Follows.branch h (Follows.branch h.ignoredFreeze h)

end State
end Sys2Proof.Machine

/-! SUPPORT. What follows a state through SPDM, images and the registers of a pair. -/

namespace Sys2Proof.Machine
namespace State

set_option Elab.async false

variable {s₀ s : State}

theorem Follows.whenReadout {f : State → State} (h : s₀.Follows s) (hf : ∀ t, s₀.Follows t → s₀.Follows (f t)) :
    s₀.Follows (s.whenReadout f) := Follows.branch (hf s h) h

theorem Follows.onConnection {p : SpdmPort} {f : SpdmConnection → SpdmConnection}
    (h : s₀.Follows s) : s₀.Follows (s.onConnection p f) :=
  h.onAtt

theorem Follows.respondSpdm {p : SpdmPort} {b : List Byte} (h : s₀.Follows s) : s₀.Follows (s.respondSpdm p b) :=
  h.bump.send

theorem Follows.spdmFails {p : SpdmPort} {request : List Byte} {e : Byte}
    (h : s₀.Follows s) : s₀.Follows (s.spdmFails p request e) :=
  h.respondSpdm

theorem Follows.spdmAnswer {p : SpdmPort} {code : Nat} {request content : List Byte}
    {f : SpdmConnection → SpdmConnection}
    (h : s₀.Follows s) : s₀.Follows (s.spdmAnswer p code request content f) :=
  h.onConnection.respondSpdm

theorem Follows.whenResponds {p : SpdmPort} {request : List Byte} {f : State → State} (h : s₀.Follows s)
    (hf : ∀ t, s₀.Follows t → s₀.Follows (f t)) : s₀.Follows (s.whenResponds p request f) :=
  h.whenLive fun t h => Follows.branch h.spdmFails (Follows.branch h.spdmFails (hf t h))

theorem Follows.whenConnected {p : SpdmPort} {request : List Byte} {ok : SpdmConnection → Bool} {f : State → State}
    (h : s₀.Follows s) (hf : ∀ t, s₀.Follows t → s₀.Follows (f t)) : s₀.Follows (s.whenConnected p request ok f) :=
  h.whenResponds fun t h => Follows.branch (hf t h) h.spdmFails

theorem Follows.spdmSign {p : SpdmPort} {code : Nat} {request content : List Byte}
    (h : s₀.Follows s) : s₀.Follows (s.spdmSign p code request content) :=
  h.same.spdmAnswer

theorem Follows.programImage {areaB : Bool} {b : List Byte} (h : s₀.Follows s) : s₀.Follows (s.programImage areaB b) :=
  (h.forAll (fun _ _ h => h.eraseNow)).programWords.programWords

theorem Follows.refreshImages (h : s₀.Follows s) : s₀.Follows s.refreshImages := h.put.put

theorem Follows.ownKey {n : Nat} {a : KeyAttrs} {material : List Byte}
    (h : s₀.Follows s) : s₀.Follows (s.ownKey n a material) :=
  h.fillSlot

theorem Follows.manufactureKeys (h : s₀.Follows s) : s₀.Follows s.manufactureKeys := Follows.branch h.ownKey.ownKey h

theorem Follows.deriveLayers (h : s₀.Follows s) : s₀.Follows s.deriveLayers := h.onKeys.manufactureKeys

theorem Follows.takeImage {areaB : Bool} (h : s₀.Follows s) : s₀.Follows (s.takeImage areaB) := by
  unfold State.takeImage
  exact h.onModes

theorem Follows.loadIdentity (h : s₀.Follows s) : s₀.Follows s.loadIdentity := by
  unfold State.loadIdentity
  split
  · exact h.ownKey.ownKey
  · exact h

theorem Follows.deriveSlots (h : s₀.Follows s) : s₀.Follows s.deriveSlots := by
  unfold State.deriveSlots
  dsimp only
  split
  · exact h
  · exact h.ownKey.ownKey.onKeys

theorem Follows.certifyFirstLayer (h : s₀.Follows s) : s₀.Follows s.certifyFirstLayer := by
  unfold State.certifyFirstLayer
  dsimp only
  split
  · exact Follows.branch h h.put.same
  · exact h

theorem Follows.runtimeKeys (h : s₀.Follows s) : s₀.Follows s.runtimeKeys :=
  h.onModes.onKeys.loadIdentity.deriveSlots.certifyFirstLayer

theorem Follows.flashCommand {cmd : FlashCmd} {via : FlashVia} (h : s₀.Follows s) :
    s₀.Follows (s.flashCommand cmd via) := by
  unfold State.flashCommand
  split
  · exact Follows.branch h.directFlash h
  · split
    · split
      · exact h
      · split
        · exact Follows.branch h.takeDesc h
        · exact h
    · exact h

theorem Follows.fcAbort (h : s₀.Follows s) : s₀.Follows s.fcAbort := Follows.branch h.abortFlash h

theorem Follows.fqAbort {tag : Nat} (h : s₀.Follows s) : s₀.Follows (s.fqAbort tag) := by
  unfold State.fqAbort
  split
  · exact h
  · exact Follows.branch h.reportFlash h.abortFlash

theorem Follows.marginStep {failing : Nat} {corrected : Bool}
    (h : s₀.Follows s) : s₀.Follows (s.marginStep failing corrected) :=
  Follows.branch h.marginResult.onFlash (have h : s₀.Follows _ := h.marginResult.onFlash
  have h : s₀.Follows _ := Follows.branch h.putNum h
  Follows.branch h.onFlash.doneCmd h)

theorem marginPassAction_keeps : marginPassAction.Keeps := by
  intro s₀ s _ _ h
  unfold marginPassAction
  dsimp only
  exact h.onFlash

theorem Follows.hubRead {p : Fin 4} {l : Level} {off : Nat} (h : s₀.Follows s) : s₀.Follows (s.hubRead p l off).1 := by
  unfold State.hubRead
  split
  · exact h
  · exact h.jhPop
  · exact h
  · exact h
  · exact h.jhTake
  · exact h

theorem Follows.regRead {p : Fin 4} {l : Level} {off : Nat} {r : State × Word} (h : s₀.Follows s)
    (hr : s.regRead p l off = some r) : s₀.Follows r.1 := by
  unfold State.regRead at hr
  split at hr
  · exact h.of_some_fst hr
  · split at hr
    · exact h.hubRead.of_some_fst hr
    · split at hr
      · split at hr
        · exact h.of_some_fst hr
        · obtain ⟨_, hw, rfl⟩ := Option.map_eq_some_iff.mp hr
          exact h.takeWords hw
        · exact h.of_some_fst hr
        · exact h.of_some_fst hr
      · split at hr
        · exact h.of_some_fst hr
        · split at hr
          · exact h.of_some_fst hr
          · exact h.drawFree.of_some_fst hr

theorem Follows.doorbell {value : Word} (h : s₀.Follows s) : s₀.Follows (s.doorbell value) :=
  h.onPairs_mapIdx fun _ _ hq => Pair.Canonical.ite hq.interrupt hq

theorem Follows.controlWrite {p : Fin 4} {off : Nat} {w : Word} (h : s₀.Follows s) :
    s₀.Follows (s.controlWrite p off w) := by
  unfold State.controlWrite
  split
  case h_7 => exact h.onPair fun _ hq => Pair.Canonical.overflowRaise hq
  case h_10 => exact h.doorbell
  case h_15 => exact h.onPair fun _ hq => Pair.Canonical.overflowRaise hq
  case h_17 => exact h
  all_goals exact h.onPair

theorem Follows.hubWrite {p : Fin 4} {l : Level} {off : Nat} {w : Word}
    (h : s₀.Follows s) : s₀.Follows (s.hubWrite p l off w) := by
  unfold State.hubWrite
  split
  · exact h.jhSubmit
  · exact h.jhAbort
  · exact h.jhQuery
  · exact h.jhCurrent
  · exact h.jhDone
  · exact h.jhCheckpoint
  · split
    · exact h.onHubWindow
    · exact h

theorem Follows.keyWrite {p : Fin 4} {l : Level} {off : Nat} {w : Word}
    (h : s₀.Follows s) : s₀.Follows (s.keyWrite p l off w) := by
  unfold State.keyWrite
  split
  · exact h.onKeyWindow
  · exact h.onKeyWindow
  · split
    · exact h.kuGo
    · exact h
  · exact h.kuAbort
  · exact h

theorem Follows.fcCommand {w : Word} {inTime : Bool} (h : s₀.Follows s) : s₀.Follows (s.fcCommand w inTime) := by
  unfold State.fcCommand
  split
  · exact h.directFlash
  · exact h.onFlash

theorem Follows.flashRegWrite {off : Nat} {w : Word} (h : s₀.Follows s) : s₀.Follows (s.flashRegWrite off w) := by
  unfold State.flashRegWrite
  split
  · exact h.fcKeyWrite
  · exact h.onFlash
  · exact h.onFlash
  · exact h.onFlash
  · exact h.fcAbort
  · exact h.onFlash
  · exact h.onFlash
  · exact h.fqTail
  · exact h.onFlash
  · exact h.fqAbort
  · exact h

theorem Follows.ruleWrite {gate : Fin 14} {rule : Fin 16} {high : Bool} {w : Word} {r : State} (h : s₀.Follows s)
    (hr : s.ruleWrite gate rule high w = some r) : s₀.Follows r := by
  obtain ⟨-, hr⟩ := Option.ite_none_left_eq_some.mp hr
  exact Follows.of_some (Follows.branch h.ruleTakesEffect h.ruleStaged) hr

theorem Follows.regWrite {p : Fin 4} {l : Level} {off : Nat} {w : Word} {r : State} (h : s₀.Follows s)
    (hr : s.regWrite p l off w = some r) : s₀.Follows r := by
  unfold State.regWrite at hr
  split at hr
  · exact h.controlWrite.of_some hr
  · split at hr
    · exact h.hubWrite.of_some hr
    · split at hr
      · exact h.keyWrite.of_some hr
      · split at hr
        · exact h.ruleWrite hr
        · split at hr
          · exact h.drawFree.fcCommand.of_some hr
          · split at hr
            · exact h.flashRegWrite.of_some hr
            · exact h.of_some hr

end State
end Sys2Proof.Machine

/-! SUPPORT. What follows a state through a pair: access, exceptions, entry and issue. -/

namespace Sys2Proof.Machine
namespace State

set_option Elab.async false

variable {s₀ s : State}

theorem Follows.memoryError {cls : Nat} {uncorrectable : Bool} (h : s₀.Follows s) :
    s₀.Follows (s.memoryError cls uncorrectable) := h.bumpWord.occur

theorem Follows.busOutcome {gate addr : Nat} {ptr : Word} {b : BusReply} (h : s₀.Follows s) :
    s₀.Follows (s.busOutcome gate addr ptr b).1 := by
  unfold State.busOutcome
  split
  · exact h
  · exact Follows.fst h.bump.occur
  · exact Follows.fst h.bumpWord
  · exact Follows.fst h.memoryError
  · exact Follows.fst h.memoryError

theorem Follows.readWord {p : Fin 4} {l : Level} {addr : Nat} {ptr : Word} (h : s₀.Follows s) :
    Access.Follows s₀ (s.readWord p l addr ptr) := by
  unfold State.readWord
  split
  · exact h
  · split
    · exact h
    · split
      · exact h
      · split
        · split
          · exact h
          · exact h
          · exact h.memoryError
          · exact h
        · split
          · rename_i heq
            exact h.regRead heq
          · trivial

theorem Follows.writeWord {p : Fin 4} {l : Level} {addr : Nat} {w : Word} {r : State} (h : s₀.Follows s)
    (hr : s.writeWord p l addr w = some r) : s₀.Follows r := by
  unfold State.writeWord at hr
  split at hr
  · exact Follows.of_some (h.onPair fun _ hq => hq.memStore ..) hr
  · split at hr
    · exact h.setCommonsWord.of_some hr
    · split at hr
      · exact h.of_some hr
      · exact h.regWrite hr

theorem Follows.checkAccess {p : Fin 4} {l : Level} {ptr : Word} {k : AccessKind} {b : BusReply} (h : s₀.Follows s) :
    s₀.Follows (s.checkAccess p l ptr k b).1 := by
  unfold State.checkAccess
  dsimp only
  split
  · exact h
  · split
    · exact h.busOutcome
    · split
      · exact h
      · split
        · exact h
        · exact h.busOutcome

theorem Follows.load {p : Fin 4} {l : Level} {z : Size} {ptr : Word} {b : BusReply} (h : s₀.Follows s) :
    Access.Follows s₀ (s.load p l z ptr b) := by
  unfold State.load
  split
  · exact h
  · split
    · rename_i heq
      exact h.checkAccess.of_fst heq
    · rename_i t heq
      have ht : s₀.Follows t := h.checkAccess.of_fst heq
      split
      · rename_i hread
        exact ht.readWord.ok hread
      · exact ht.readWord

theorem Follows.storeAt {p : Fin 4} {l : Level} {z : Size} {ptr v : Word} {b : BusReply} (h : s₀.Follows s) :
    Access.Follows s₀ (s.storeAt p l z ptr v b) := by
  unfold State.storeAt
  split
  · exact h
  · split
    · rename_i heq
      exact h.checkAccess.of_fst heq
    · rename_i t heq
      have ht : s₀.Follows t := h.checkAccess.of_fst heq
      dsimp only
      split
      · rename_i hwrite
        exact ht.writeWord hwrite
      · exact ht

theorem Follows.resetPair {p : Fin 4} (h : s₀.Follows s) : s₀.Follows (s.resetPair p) := by
  unfold State.resetPair
  exact (h.hubPairReset.onPairs_mapIdx fun _ _ hq => Pair.Canonical.ite hq.interrupt hq).onPair

theorem Follows.pairFaultReset {p : Fin 4} (h : s₀.Follows s) : s₀.Follows (s.pairFaultReset p) :=
    h.bumpWord.event.resetPair

theorem Follows.doubleFault {p : Fin 4} {cause sub : Nat} {detail pointer : Word} {ds : Bool} (h : s₀.Follows s) :
    s₀.Follows (s.doubleFault p cause sub detail pointer ds) :=
  Follows.branch h.pairFaultReset (h.bumpWord.event.onPair fun _ hq => Pair.Canonical.same
    (hq.perf.continueAt.memStore ..))

theorem Follows.storeFrame {p : Fin 4} {l : Level} {words : List Word} {ptr : Word} (h : s₀.Follows s) :
    s₀.Follows (s.storeFrame p l words ptr).1 := by
  induction words generalizing ptr s with
  | nil => exact h
  | cons w rest ih =>
    unfold State.storeFrame
    split
    · rename_i heq
      exact ih (h.storeAt.ok heq)
    · rename_i heq
      exact h.storeAt.trap heq
    · exact h

theorem Follows.pushFrame {p : Fin 4} {e : Entry} {r : State} (h : s₀.Follows s) (hr : s.pushFrame p e = .ok r) :
    s₀.Follows r := by
  unfold State.pushFrame at hr
  dsimp only at hr
  split at hr
  · cases hr
  · rename_i q' hpush
    split at hr
    · cases hr
    · split at hr
      · cases hr
      · rename_i heq
        split at hr
        · cases hr
        · cases hr
          exact (h.onPair_at fun hq => (hq.pushEntry hpush).same).storeFrame.of_fst heq

theorem Follows.enterException {p : Fin 4} {e : Entry} (h : s₀.Follows s) : s₀.Follows (s.enterException p e) := by
  have hflush : s₀.Follows (s.onPair p Pair.flush) := h.onPair fun _ hq => hq.flush
  unfold State.enterException
  refine Follows.branch hflush.doubleFault ?_
  split
  · exact Follows.doubleFault (Follows.branch hflush.countRefusal hflush)
  · rename_i heq
    exact (hflush.pushFrame heq).onPair fun _ hq => hq.perf.continueAt

theorem Follows.takeFault {p : Fin 4} {t : Trap} (h : s₀.Follows s) : s₀.Follows (s.takeFault p t) := by
  unfold State.takeFault
  extract_lets u v
  have hu : s₀.Follows u := Follows.branch (h.countRefusal.onPair fun _ hq => hq.perf) h
  have hv : s₀.Follows v := hu.onPair fun _ hq => hq.flush
  exact Follows.branch hv.pairFaultReset (Follows.branch hv.doubleFault hv.enterException)

theorem Follows.retire {p : Fin 4} (h : s₀.Follows s) : s₀.Follows (s.retire p) := by
  unfold State.retire
  exact h.drawFree.onPair fun q hq => by
    have hadvance : q.advance.Canonical := hq.advance
    exact Pair.Canonical.perf (Pair.Canonical.perf hadvance.same)

theorem Follows.complete {p : Fin 4} {n : Nat} {slot : Option Branch} (h : s₀.Follows s) :
    s₀.Follows (s.complete p n slot) := by
  unfold State.complete
  split
  · split
    · exact h.takeFault
    · rename_i heq
      exact (h.onPair_at fun hq => hq.commitBranch heq).retire
  · exact (h.onPair fun _ hq => Pair.Canonical.ite hq.same hq.nextInSequence).retire

/-- An instruction whose result follows whatever its state follows. -/
theorem Follows.issue {p : Fin 4} {n : Nat} {k : OpKind} {body : State → Issue} (h : s₀.Follows s)
    (hb : Issue.Follows s₀ (body s)) : s₀.Follows (s.issue p n k body) := by
  unfold State.issue
  refine Follows.branch h ?_
  split
  · exact h.takeFault
  · refine Follows.branch h.takeFault ?_
    cases hbody : body s with
    | done t =>
      rw [hbody] at hb
      exact Follows.complete hb
    | goto t ip =>
      rw [hbody] at hb
      exact Follows.retire (Follows.onPair hb)
    | placed t =>
      rw [hbody] at hb
      exact hb
    | stay t =>
      rw [hbody] at hb
      exact hb
    | trap t e =>
      rw [hbody] at hb
      exact Follows.takeFault hb

end State
end Sys2Proof.Machine

/-! SUPPORT. What follows a state through modes, starts and restarts. -/

namespace Sys2Proof.Machine
namespace State

set_option Elab.async false

variable {s₀ s : State}

theorem Follows.decideCommits (h : s₀.Follows s) : s₀.Follows s.decideCommits :=
  h.forAll (fun _ _ h => Follows.branch h.drawFree.put h.drawFree)

theorem Follows.vigilBusy (h : s₀.Follows s) : s₀.Follows s.vigilBusy :=
  Follows.branch h (have h : s₀.Follows _ := Follows.branch h.setCmd h
  Follows.branch h.setCmd h)

/-- Of the memories a device reset keeps those of the pairs and the commons, or empties them; the buffers it empties. -/
theorem Follows.clearDevice {power vpea : Bool} (h : s₀.Follows s) : s₀.Follows (s.clearDevice power vpea) := by
  unfold State.clearDevice
  extract_lets t lost u
  have hu : s₀.Follows u := h.decideCommits.resetCards.flashReset
  refine Follows.vigilBusy ⟨hu.pending, fun h₀ => ⟨?_, fun p => ?_, ?_⟩⟩
  · dsimp only
    split
    · exact memWf_nil
    · exact (hu.canonical h₀).1
  · simp only [Fin.getElem_fin, Vector.getElem_map]
    exact Pair.Canonical.ite Pair.initial_canonical (Pair.Canonical.same (hu.pair (p := p) h₀))
  · exact Dictionary.Canonical.replicate (d := Dictionary.initial)

theorem Follows.checkCanary {kind : ResetKind} (h : s₀.Follows s) : s₀.Follows (s.checkCanary kind).2 := by
  unfold State.checkCanary
  dsimp only
  split
  · exact h
  · exact h.onVigil.onLedger.onKeys.onInteg.occur

theorem Follows.failRetirement {code : Nat} (h : s₀.Follows s) : s₀.Follows (s.failRetirement code) := h.onModes.failCmd

theorem Follows.beginRetirement (h : s₀.Follows s) : s₀.Follows s.beginRetirement :=
  Follows.branch h.onModes.askAppend (Follows.branch h.onModes.failRetirement h.onModes.askAppend)

theorem Follows.finishRetirement (h : s₀.Follows s) : s₀.Follows s.finishRetirement :=
  h.lifecycleNext.eraseLine.latchLock.doneCmd.onModes

theorem Follows.settleRetirement (h : s₀.Follows s) : s₀.Follows s.settleRetirement := by
  unfold State.settleRetirement
  split
  · exact h
  · split
    · exact Follows.branch h.failRetirement (Follows.branch h.finishRetirement (Follows.branch h.askAppend
        h.failRetirement))
    · exact h.failRetirement

theorem Follows.applyChannel {n : Fin 12} (h : s₀.Follows s) : s₀.Follows (s.applyChannel n) := by
  unfold State.applyChannel
  exact h.onChan

theorem Follows.applyStaged (h : s₀.Follows s) : s₀.Follows s.applyStaged := by
  unfold State.applyStaged
  extract_lets r
  have hr : s₀.Follows r.1 := by
    unfold r
    split
    · exact h.tryRewrite
    · exact h
  exact Follows.branch hr.event (hr.forAll fun _ _ h => h.applyChannel).onModes

theorem Follows.gateConsistency {k : Word} (h : s₀.Follows s) : s₀.Follows (s.gateConsistency k) :=
  h.clearStatistics.clearFingerprints.keySetup.allocateEntries.excludeFailed

theorem Follows.enterGateWith {k : Word} (h : s₀.Follows s) : s₀.Follows (s.enterGateWith k) := by
  unfold State.enterGateWith
  exact
    have h : s₀.Follows _ := (h.applyStaged.setMask.assertHolds.gateConsistency.onChans.forAll (fun _ _ h =>
        Follows.branch h.onChan h)).onModes.onVigil.onInteg.unnamedHolds.gateAttestation.wakeAll
    Follows.branch h.counterInc.gateLedger.enterLocked h.counterInc.gateLedger.doneCmd

theorem Follows.tryGate (h : s₀.Follows s) : s₀.Follows s.tryGate := by
  unfold State.tryGate
  split
  · exact h
  · split
    · rename_i _ t heq
      exact ((h.drawFingerprintKey heq)).enterGateWith
    · exact h

theorem Follows.enterStart {m : Mode} (h : s₀.Follows s) : s₀.Follows (s.enterStart m) :=
  have h : s₀.Follows _ := h.onModes.onVigil.onInteg.wakeAll
  Follows.branch h.beginPassThrough h.stopServing

theorem Follows.startLocked (h : s₀.Follows s) : s₀.Follows s.startLocked := h.closeKeys.enterStart

theorem Follows.chooseMode {uds : Bool} {source : Option Nat} (h : s₀.Follows s) :
    s₀.Follows (s.chooseMode uds source) :=
  Follows.branch ((Follows.branch h.eraseLine.latchLock h.closeKeys).enterStart) (Follows.branch
    h.enterStart.beginRetirement (Follows.branch (Follows.startLocked (by split; exacts [h.put, h])) (Follows.branch
    h.enterStart (Follows.branch h.enterStart (Follows.branch h.latchLock.startLocked (Follows.branch
    h.latchLock.startLocked (Follows.branch h.latchLock.startLocked h.onModes.tryGate)))))))

theorem Follows.runtimeStart (h : s₀.Follows s) : s₀.Follows s.runtimeStart := by
  unfold State.runtimeStart
  extract_lets t u v w x y z
  have hu : s₀.Follows u := (h.onPairs_map fun _ hq => hq.bringUp).runtimeKeys.startLog
  have hy : s₀.Follows y := (Follows.branch hu.startLedger hu).checkCurves.completeErases.onFlash.writeTag
  exact (Follows.branch hy hy.putSummary).writeRawThresholds.onVigil.refreshImages

theorem Follows.loadOptions (h : s₀.Follows s) : s₀.Follows s.loadOptions := h.takeOptions.repairOptions.setMask

theorem Follows.countStart (h : s₀.Follows s) : s₀.Follows s.countStart := Follows.branch h.bump.counterInc h

theorem Follows.enterRecover (h : s₀.Follows s) : s₀.Follows s.enterRecover := h.enterStart.refreshImages

theorem Follows.recoverFromCards {images : List (List Byte)} (h : s₀.Follows s) :
    s₀.Follows (s.recoverFromCards images).1 := by
  unfold State.recoverFromCards
  dsimp only
  split
  · exact h
  · split
    · exact h.programImage
    · split
      · exact h.programImage
      · exact h.programImage.tryRewrite

/-- A start is a recursion on its fuel, taken apart by its functional: the equation of `State.boot` itself is too
large to unfold, as Lean would evaluate its conditions. -/
theorem Follows.recOnFuel
    {F : (n : Nat) → Nat.below (motive := fun _ => StartEnv → ResetKind → State → State) n → StartEnv → ResetKind →
      State → State}
    (hzero : ∀ b env kind s, s₀.Follows s → s₀.Follows (F 0 b env kind s))
    (hsucc : ∀ n b, (∀ env kind s, s₀.Follows s → s₀.Follows (b.1 env kind s)) →
      ∀ env kind s, s₀.Follows s → s₀.Follows (F (n + 1) b env kind s))
    {n : Nat} {env : StartEnv} {kind : ResetKind} (h : s₀.Follows s) : s₀.Follows (Nat.brecOn n F env kind s) := by
  induction n generalizing env kind s with
  | zero => exact hzero _ _ _ _ h
  | succ n ih => exact hsucc n _ (fun _ _ _ h => ih h) _ _ _ h

theorem Follows.boot {fuel : Nat} {env : StartEnv} {kind : ResetKind} (h : s₀.Follows s) :
    s₀.Follows (s.boot fuel env kind) := by
  delta State.boot
  refine Follows.recOnFuel ?_ (fun _ again hagain env kind s h => ?_) h
  · exact fun _ _ _ _ h => h
  · delta State.boot._f
    dsimp -zeta only
    extract_lets t u recover r v
    have hu : s₀.Follows u := h.loadOptions.onModes.countStart.onLedger
    have hv : s₀.Follows v := hu.stepTrial.laneTested
    have hrecover : ∀ v, s₀.Follows v → s₀.Follows (recover v) := fun v hv =>
      Follows.branch (hagain _ _ _ hv.enterRecover.recoverFromCards.assertHolds.clearDevice)
        hv.enterRecover.recoverFromCards
    refine Follows.branch hu.enterStart.refreshImages (Follows.branch (hrecover u hu) ?_)
    split
    · exact hrecover v hv
    · extract_lets w x
      have hx : s₀.Follows x := Follows.branch hv.takeImage.deriveLayers hv.takeImage.onKeys
      exact hx.runtimeStart.chooseMode

theorem Follows.deviceReset {env : StartEnv} (h : s₀.Follows s) : s₀.Follows (s.deviceReset env) :=
  h.assertHolds.reckon.endOutages.clearDevice.boot

theorem Follows.flushBeforeReset (h : s₀.Follows s) : s₀.Follows s.flushBeforeReset :=
  Follows.branch h.issueTick.flushLog h.issueTick

theorem Follows.vio33 (h : s₀.Follows s) : s₀.Follows s.vio33 := Follows.branch h h.onModes

theorem Follows.powerOn {env : StartEnv} (h : s₀.Follows s) : s₀.Follows (s.powerOn env) := by
  unfold State.powerOn
  extract_lets t u r
  have hu : s₀.Follows u := Follows.same (s := t) h.vio33.onModes
  exact hu.onInteg.checkCanary.boot

theorem Follows.saveAll (h : s₀.Follows s) : s₀.Follows s.saveAll := (h.reckon.forAll (fun _ _ h => h.saveObj)).onInteg

theorem Follows.haltForPowerFail (h : s₀.Follows s) : s₀.Follows s.haltForPowerFail :=
  (h.forAll fun _ _ h => Follows.branch h (h.onPair fun _ hq => hq.flush)).forAll fun _ _ h => h.abortJob

theorem Follows.pfailFall (h : s₀.Follows s) : s₀.Follows s.pfailFall :=
  Follows.branch h (h.onModes.whenLive (fun _ h => have h : s₀.Follows _ :=
    h.haltForPowerFail.onModes.wakeAll.flashPowerFail.saveAll; (Follows.branch h.saveStatistics h).onTamper))

theorem Follows.cutPrograms (h : s₀.Follows s) : s₀.Follows s.cutPrograms :=
  h.forAll (fun _ _ h => (by split; exacts [Follows.onBank (by split; exacts [h.spoilWords, h.spoilWords, h]), h]))

theorem Follows.restoreSaved (h : s₀.Follows s) : s₀.Follows s.restoreSaved := h.forAll (fun _ _ h => h.put)

theorem Follows.powerLoss (h : s₀.Follows s) : s₀.Follows s.powerLoss :=
  Follows.branch h h.cutPrograms.restoreSaved.onTag.clearDevice.onModes

theorem Follows.enterServe (h : s₀.Follows s) : s₀.Follows s.enterServe :=
  ((h.raiseMinimums.countArmed.onModes.forAll (fun _ _ h =>
    h.beginServing)).primaryOutage).confirmTrial.openServeCollection

theorem Follows.settleGate (h : s₀.Follows s) : s₀.Follows s.settleGate := Follows.branch h.enterServe h

theorem Follows.beginHotRestart {image : Nat} (h : s₀.Follows s) : s₀.Follows (s.beginHotRestart image) := by
  unfold State.beginHotRestart
  extract_lets t u blank v w
  have hv : s₀.Follows v :=
    h.suspendSlots.abortPresentation.abortCards.endKeyCommands.onKeys.onPairs_map fun _ hq => Pair.Canonical.same hq
  exact hv.onDict.onModes.forAll fun _ _ h => h.replaceJob

theorem Follows.settleHotRestart (h : s₀.Follows s) : s₀.Follows s.settleHotRestart := by
  unfold State.settleHotRestart
  split
  · exact h
  · exact Follows.branch h (Follows.branch h.beginHotRestart h.onModes.failCmd)

theorem Follows.afterAppend (h : s₀.Follows s) : s₀.Follows s.afterAppend :=
  have h : s₀.Follows _ := h.settleRetirement.settleHotRestart
  (Follows.branch h h.pumpLedger).settleRetirement.settleGate

theorem hotRestartAction_keeps : hotRestartAction.Keeps := by
  intro s₀ s _ _ h
  unfold hotRestartAction
  dsimp only
  split
  · exact Follows.fst (h.onModes)
  · exact h.beginHotRestart

theorem Follows.restartImage {image : Nat} (h : s₀.Follows s) : s₀.Follows (s.restartImage image).2 := by
  unfold State.restartImage
  dsimp only
  split
  · exact h.stepTrial
  · split
    · exact h
    · exact h

theorem Follows.resumeWith {areaB : Bool} {code : Nat} (h : s₀.Follows s) : s₀.Follows (s.resumeWith areaB code) := by
  unfold State.resumeWith
  extract_lets before changed t u v w x y z a
  have hx : s₀.Follows x :=
    (h.takeImage.deriveLayers.runtimeKeys.onPairs_map fun _ hq => hq.bringUp).onDict.onModes.bumpBy.onHub.endCmd
  have hy : s₀.Follows y := Follows.branch hx.askAppend hx
  have hz : s₀.Follows z := Follows.branch hy.startSlots.checkGateEnd.checkServeEnd hy
  exact (Follows.branch hz.confirmTrial hz).refreshImages.afterAppend

theorem Follows.endHotRestart {env : StartEnv} (h : s₀.Follows s) : s₀.Follows (s.endHotRestart env) := by
  unfold State.endHotRestart
  dsimp only
  split
  · exact h
  · split
    · exact h.restartImage.deviceReset
    · split
      · exact h.restartImage.resumeWith
      · split
        · exact Follows.branch h.restartImage.resumeWith h.restartImage.deviceReset
        · exact h.restartImage.deviceReset

theorem Follows.primaryAppend {failed : Nat} (h : s₀.Follows s) : s₀.Follows (s.primaryAppend failed) :=
  Follows.branch h h.onLedger.askAppend.signaturesVerified.ledgerCommit.afterAppend

theorem modeRequestAction_keeps : modeRequestAction.Keeps := by
  intro s₀ s _ _ h
  unfold modeRequestAction
  dsimp only
  split
  · exact h
  · split
    · exact h
    · split
      · split
        · exact Follows.fst (h.onModes)
        · exact h.backToServe
      · exact h.enterForensic
      · exact Follows.fst (h.onModes)

theorem Follows.firstProvision (h : s₀.Follows s) : s₀.Follows s.firstProvision := h.onDict.put

theorem lifecycleAction_keeps {env : StartEnv} : (lifecycleAction env).Keeps := by
  intro s₀ s _ _ h
  unfold lifecycleAction
  dsimp only
  split
  · exact h
  · exact Follows.fst (((Follows.branch h.firstProvision h).lifecycleNext).deviceReset)

theorem Follows.newIdentity (h : s₀.Follows s) : s₀.Follows s.newIdentity := by
  unfold State.newIdentity
  extract_lets d scalar seed nonce attrs attrs' head t u dmk
  have ht : s₀.Follows t := h.drawOctets.ownKey.ownKey
  have hu : s₀.Follows u := by
    unfold u
    split
    · exact ht.onKeys
    · exact ht
  exact Follows.same hu.put

theorem Follows.clearProvisioned (h : s₀.Follows s) : s₀.Follows s.clearProvisioned :=
  (h.forAll (fun _ _ h => h.put)).onInteg

theorem Follows.commitProvision {env : StartEnv} (h : s₀.Follows s) : s₀.Follows (s.commitProvision env).1 := by
  unfold State.commitProvision
  dsimp only
  split
  · exact h.newIdentity.newVigilRoot.tryRewrite
  · exact Follows.fst (h.newIdentity.newVigilRoot.tryRewrite.counterSetTo.onLedger.clearProvisioned.lifecycleNext.deviceReset)

theorem commitAction_keeps {env : StartEnv} : (commitAction env).Keeps := by
  intro s₀ s _ _ h
  unfold commitAction
  dsimp only
  split
  · exact h.commitProvision
  · exact h

theorem resetAction_keeps {env : StartEnv} : (resetAction env).Keeps := by
  intro s₀ s _ _ h
  unfold resetAction
  dsimp only
  exact h.deviceReset

theorem Follows.startBoardBoot (h : s₀.Follows s) : s₀.Follows s.startBoardBoot := by
  unfold State.startBoardBoot
  exact
    have h : s₀.Follows _ := h.reckon.endOutages
    have h : s₀.Follows _ := Follows.branch (Follows.onLedger (by split; exacts [Follows.branch h.dropAppend h, h])) h
    (Follows.branch (h.abortPresentation.forAll (fun _ _ h => h.abortCmd))
      h).unrecordedSlots.abortSlots.abortSweep.abandonRounds.saveStatistics.closingSupplement.assertHolds.stopServing.onLedger.failCmd.onModes.tryGate

theorem boardBootAction_keeps {f : Frame} : (boardBootAction f).Keeps := by
  intro s₀ s _ _ h
  unfold boardBootAction
  dsimp only
  split
  · exact h.bumpBy
  · split
    · exact Follows.fst (h.onDict)
    · exact h

theorem Follows.closeBoardBoot (h : s₀.Follows s) : s₀.Follows s.closeBoardBoot := by
  unfold State.closeBoardBoot
  dsimp only
  split
  · exact h
  · exact Follows.branch h.onDict.startBoardBoot h.onDict.failCmd

theorem retireAction_keeps {env : StartEnv} : (retireAction env).Keeps := by
  intro s₀ s _ _ h
  unfold retireAction
  dsimp only
  split
  · exact h
  · split
    · exact Follows.fst (h.setFlag.doneCmd.deviceReset)
    · exact Follows.fst (h.enterRetired.beginRetirement)

theorem Follows.installOptions {areaB : Bool} (h : s₀.Follows s) : s₀.Follows (s.installOptions areaB).1 := by
  unfold State.installOptions
  dsimp only
  split
  · exact h
  · exact h.tryRewrite

theorem Follows.install {env : StartEnv} {target : Nat} {content : List Byte}
    (h : s₀.Follows s) : s₀.Follows (s.install env target content).1 := by
  unfold State.install
  dsimp only
  split
  · exact h.programImage.refreshImages
  · split
    · exact h.programImage.refreshImages.installOptions.refreshImages
    · split
      · exact Follows.fst (h.programImage.refreshImages.installOptions.refreshImages.doneCmd.deviceReset)
      · exact h.programImage.refreshImages.installOptions.refreshImages

theorem installAction_keeps {env : StartEnv} : (installAction env).Keeps := by
  intro s₀ s _ _ h
  unfold installAction
  dsimp only
  exact h.install

theorem cardInstallAction_keeps {content : List Byte} {env : StartEnv} : (cardInstallAction content env).Keeps := by
  intro s₀ s _ _ h
  unfold cardInstallAction
  dsimp only
  exact h.install

theorem Follows.timedSupplement (h : s₀.Follows s) : s₀.Follows s.timedSupplement :=
    Follows.branch h h.askAppend.afterAppend

theorem supplementAction_keeps : supplementAction.Keeps := by
  intro s₀ s _ _ h
  unfold supplementAction
  dsimp only
  exact h.askAppend.afterAppend

theorem rolloverAction_keeps : rolloverAction.Keeps := by
  intro s₀ s _ _ h
  unfold rolloverAction
  dsimp only
  exact h.askAppend.afterAppend

theorem Follows.abortAppend {key : Nat} (h : s₀.Follows s) : s₀.Follows (s.abortAppend key) :=
  (Follows.branch h.dropAppend h).onLedger.abortCmd.afterAppend

theorem acknowledgeAction_keeps : acknowledgeAction.Keeps := by
  intro s₀ s _ _ h
  unfold acknowledgeAction
  dsimp only
  split
  · exact h
  · exact Follows.branch h.acknowledge h

end State
end Sys2Proof.Machine

/-! SUPPORT. What follows a state through the dictionary: reads, writes and the tick. -/

namespace Sys2Proof.Machine
namespace State

set_option Elab.async false

variable {s₀ s : State}

theorem Follows.openTick (h : s₀.Follows s) : s₀.Follows s.openTick := by
  unfold State.openTick
  exact h.onDict

theorem Follows.moveWindow {a : Asker} {key offset : Nat} (h : s₀.Follows s) : s₀.Follows (s.moveWindow a key offset) :=
  Follows.branch h.onHolder h

theorem Follows.answerRead {f : Frame} {a : Asker} {d : Desc} (h : s₀.Follows s) : s₀.Follows (s.answerRead f a d) := by
  unfold State.answerRead
  dsimp only
  split
  · exact h.answer
  · exact Follows.branch (Follows.branch h.answer h.moveWindow.answerAs) (Follows.branch h.answer (Follows.branch
      h.answer h.answer))

theorem Follows.readRequest {f : Frame} {a : Asker} (h : s₀.Follows s) : s₀.Follows (s.readRequest f a) := by
  unfold State.readRequest
  split
  · exact h.answer
  · exact h.answerRead

theorem Follows.runRead {mine : Nat → Bool} {f : Frame} (h : s₀.Follows s) : s₀.Follows (s.runRead mine f) := by
  unfold State.runRead
  split
  · exact h
  · split
    · rename_i t heq
      exact (h.receive.of_fst heq)
    · rename_i t _ _ heq
      exact ((h.receive.of_fst heq)).readRequest

theorem Follows.refusal {a : Asker} {key : Nat} {v : Val} (h : s₀.Follows s) : s₀.Follows (s.refusal a key v).1 := by
  rw [State.refusal]
  split
  · exact h
  · exact h
  · split
    · exact h
    · split
      · exact h
      · split
        · exact h.checkCurveWrite
        · split
          · exact h
          · exact h

theorem Follows.responsesChanged {before b : List Byte} (h : s₀.Follows s) : s₀.Follows (s.responsesChanged before b) :=
  h.onVigil.forAll (fun _ _ h => Follows.branch h h.event)

theorem Follows.manifestCommitted {n : Fin 12} {slot : Nat} {before b : List Byte}
    (h : s₀.Follows s) : s₀.Follows (s.manifestCommitted n slot before b) := by
  unfold State.manifestCommitted
  split
  · exact Follows.branch h h.putNum
  · exact h

theorem Follows.committed {key : Nat} {v : Val} (h : s₀.Follows s) : s₀.Follows (s.committed key v) := by
  rw [State.committed]
  have ht : s₀.Follows (s.put key (keptValue key v)) := h.put
  split
  · exact Follows.branch ht.putNum (Follows.branch ht.put ht)
  · exact ht.manifestCommitted
  · exact Follows.branch ht.clearChainCaches (Follows.branch ht.writeRawThresholds (Follows.branch ht.responsesChanged
      (Follows.branch ht.raiseIslands (Follows.branch (Follows.branch ht ht.sendLtr) (Follows.branch ht.curveCommitted
        ht)))))

theorem Follows.applied {a : Asker} {key : Nat} {v : Val} (h : s₀.Follows s) : s₀.Follows (s.applied a key v) :=
  Follows.branch h.onHolder (Follows.branch h.onTag (Follows.branch h.put.setPattern h.put))

theorem Follows.queueWrite {f : Frame} {d : Desc} {v : List Byte} (h : s₀.Follows s) :
    s₀.Follows (s.queueWrite f d v) :=
  h.onDict

theorem Follows.plainWrite {held : Option (Fin 32)} {f : Frame} {a : Asker} {p : List Byte}
    (h : s₀.Follows s) : s₀.Follows (s.plainWrite held f a p) := by
  unfold State.plainWrite
  dsimp only
  split
  · exact h.answer
  · split
    · exact h.countEnvelope.dropSegment.answer
    · exact h.keepSegment.answer
    · exact Follows.branch h.countEnvelope.endSegment.wrapBy.answer h.countEnvelope.endSegment.queueWrite

theorem captureAction_keeps {bits : List Byte} : (captureAction bits).Keeps := by
  intro s₀ s _ _ h
  unfold captureAction
  dsimp only
  exact h.put.put

theorem closeAction_keeps : closeAction.Keeps := by
  intro s₀ s _ _ h
  unfold closeAction
  dsimp only
  exact (by split; exacts [h.endSession, h])

theorem lowAction_keeps {f : Frame} {key : Nat} {x : Action} (hx : lowAction f key = some x) : x.Keeps := by
  unfold lowAction at hx
  split at hx <;> cases hx
  · exact elevationAction_keeps
  · exact closeAction_keeps
  · exact modeRequestAction_keeps
  · exact lifecycleAction_keeps
  · exact commitAction_keeps
  · exact resetAction_keeps
  · exact hotRestartAction_keeps
  · exact boardBootAction_keeps
  · exact retireAction_keeps
  · exact sweepAction_keeps
  · exact attestationOverrideAction_keeps
  · exact closeCollectionAction_keeps
  · exact acknowledgeAction_keeps
  · exact supplementAction_keeps
  · exact rolloverAction_keeps

theorem highAction_keeps {key : Nat} {x : Action} (hx : highAction key = some x) : x.Keeps := by
  unfold highAction at hx
  split at hx <;> cases hx
  · exact runLanesAction_keeps
  · exact runUnitsAction_keeps
  · exact advanceGenerationAction_keeps
  · exact raiseMinimumAction_keeps
  · exact zeroiseAction_keeps
  · exact captureAction_keeps
  · exact clearRestraintAction_keeps
  · exact unlockAction_keeps
  · exact cellWindowAction_keeps
  · exact flushAction_keeps
  · exact ackEventsAction_keeps
  · exact verifyAction_keeps
  · exact installAction_keeps
  · exact cardInstallAction_keeps
  · exact snapshotAction_keeps
  · exact gateFenceAction_keeps
  · exact marginPassAction_keeps
  · exact enableAction_keeps
  · exact disableAction_keeps
  · exact endDoffAction_keeps
  · exact rosterAddAction_keeps
  · exact rosterRevokeAction_keeps
  · exact enableAction_keeps
  · exact disableAction_keeps
  · exact prepareAction_keeps
  · exact stageAction_keeps
  · exact setTimeAction_keeps
  · exact slewAction_keeps
  · exact freezeAction_keeps

theorem actionOf_keeps {f : Frame} {key : Nat} {x : Action} (hx : actionOf f key = some x) : x.Keeps := by
  rw [actionOf] at hx
  split at hx
  · split at hx
    · cases hx
      exact enableAction_keeps
    · split at hx
      · cases hx
        exact disableAction_keeps
      · obtain ⟨-, hx⟩ := Option.ite_none_right_eq_some.mp hx
        cases hx
        exact haltOverrideAction_keeps
  · cases hx
  · split at hx
    · exact lowAction_keeps hx
    · exact highAction_keeps hx

theorem Follows.abortModes (h : s₀.Follows s) : s₀.Follows s.abortModes :=
  have h : s₀.Follows _ := Follows.branch h.onModes h
  have h : s₀.Follows _ := Follows.branch h.onModes h
  Follows.branch h.onDict h

theorem Follows.abortEffects {index : Nat} (h : s₀.Follows s) : s₀.Follows (s.abortEffects index) := by
  unfold State.abortEffects
  extract_lets t u v w
  have ht : s₀.Follows t := by
    unfold t
    split
    · exact h.abortFn
    · exact h
  have hu : s₀.Follows u := Follows.branch ht.abortAppend ht
  have hw : s₀.Follows w := Follows.branch ht.abortSlew ht
  split
  · exact Follows.branch ht.abortPresentation ht
  · exact ht.abortModes
  · exact Follows.branch ht.abortSweep ht
  · exact Follows.branch hu.abortAppend hu
  · exact Follows.branch ht.abortLaneRun ht
  · exact Follows.branch ht.abortUnitRun ht
  · exact Follows.closeCellWindow (Follows.branch ht.abortPresentation ht)
  · exact Follows.branch ht.onFlash.abortCmd ht
  · exact Follows.branch ht.abortPresentation ht
  · exact ht.abortCards
  · exact Follows.branch hw.onPower hw
  · exact ht

theorem Follows.abortIndex {index : Nat} (h : s₀.Follows s) : s₀.Follows (s.abortIndex index) :=
  h.abortEffects.forAll (fun _ _ h => Follows.branch h h.abortCmd)

theorem Follows.abortRequest {f : Frame} {a : Asker} (h : s₀.Follows s) : s₀.Follows (s.abortRequest f a) :=
  Follows.branch h.answer (Follows.branch h.touch.answer.abortIndex h.answer)

theorem Follows.writeRequest {held : Option (Fin 32)} {bits : List Byte} {f : Frame} {a : Asker} {p : List Byte}
    (h : s₀.Follows s) : s₀.Follows (s.writeRequest held bits f a p) := by
  unfold State.writeRequest
  refine Follows.branch h.abortRequest (Follows.branch (h.writeCmd captureAction_keeps) ?_)
  split
  · rename_i hx
    exact h.writeCmd (actionOf_keeps hx)
  · exact h.plainWrite

theorem Follows.runWrite {mine : Nat → Bool} {held : Option (Fin 32)} {bits : List Byte} {f : Frame}
    (h : s₀.Follows s) : s₀.Follows (s.runWrite mine held bits f) := by
  unfold State.runWrite
  split
  · exact h
  · split
    · rename_i t heq
      exact (h.countFreezeWrite.receive.of_fst heq)
    · rename_i t _ _ heq
      exact ((h.countFreezeWrite.receive.of_fst heq)).writeRequest

theorem Follows.winWrite {w : TickWrite} (h : s₀.Follows s) : s₀.Follows (s.winWrite w) := by
  unfold State.winWrite
  dsimp only
  split
  · exact h.answer
  · exact Follows.branch h.refusal.answer (Follows.branch h.refusal.onDict h.refusal.applied.answer)

theorem Follows.closeWrites {l : List TickWrite} {won : List (Nat × Option (Option Word × Transport))}
    (h : s₀.Follows s) :
    s₀.Follows (s.closeWrites l won) := by
  induction l generalizing won s with
  | nil => exact h
  | cons w rest ih => exact Follows.branch (ih h.bump.answer) (ih h.winWrite)

theorem Follows.repeatAborts (h : s₀.Follows s) : s₀.Follows s.repeatAborts :=
  h.forAll (fun _ _ h => Follows.branch h.abortIndex h)

theorem Follows.closeTick (h : s₀.Follows s) : s₀.Follows s.closeTick :=
  h.onDict.closeWrites.repeatAborts.settleWrites.onDict.closeBoardBoot.openTick

theorem Follows.commitDone {ok : Bool} (h : s₀.Follows s) : s₀.Follows (s.commitDone ok) := by
  unfold State.commitDone
  dsimp only
  split
  · exact h
  · split
    · exact ((Follows.branch h.onDict.committed h.onDict)).answer
    · exact (Follows.branch h.onDict.committed h.onDict)

end State
end Sys2Proof.Machine

/-! SUPPORT. What follows a state through instructions, sessions and the transports. -/

namespace Sys2Proof.Machine
namespace State

set_option Elab.async false

variable {s₀ s : State}

theorem Follows.registerOp {p : Fin 4} {n : Nat} {f : Pair → Except Trap Pair} (h : s₀.Follows s)
    (hf : KeepsCanonical f) :
    s₀.Follows (s.registerOp p n f) := by
  refine h.issue ?_
  split
  · rename_i hq
    exact Follows.onPair_at h (hf _ _ hq)
  · exact h

theorem Follows.stallCycles {p : Fin 4} {addr : Nat} (h : s₀.Follows s) : s₀.Follows (s.stallCycles p addr) :=
  Follows.branch h (h.drawFree.onPair fun _ hq => hq.perf)

theorem Follows.loadOp {p : Fin 4} {rd ra : Fin 16} {disp : Imm} {z : Size} {signed : Bool} {b : BusReply}
    (h : s₀.Follows s) :
    s₀.Follows (s.loadOp p rd ra disp z signed b) := by
  refine h.issue ?_
  dsimp only
  split
  · exact h
  · split
    · exact h
    · split
      · rename_i hload
        exact Follows.stallCycles (Follows.onPair (h.load.ok hload))
      · rename_i hload
        exact h.load.trap hload
      · exact Follows.onPair h

theorem Follows.storeOp {p : Fin 4} {rs ra : Fin 16} {disp : Imm} {z : Size} {b : BusReply} (h : s₀.Follows s) :
    s₀.Follows (s.storeOp p rs ra disp z b) := by
  refine h.issue ?_
  dsimp only
  split
  · exact h
  · split
    · rename_i hstore
      exact h.storeAt.ok hstore
    · rename_i hstore
      exact h.storeAt.trap hstore
    · exact h

theorem Follows.pushBody {p : Fin 4} {ra : Fin 16} (h : s₀.Follows s) : Issue.Follows s₀ (s.pushBody p ra) := by
  unfold State.pushBody
  dsimp only
  split
  · exact h
  · split
    · rename_i hstore
      exact h.storeAt.trap hstore
    · exact h
    · rename_i hstore
      split
      · exact h
      · exact Follows.onPair (h.storeAt.ok hstore)

theorem Follows.popBody {p : Fin 4} {rd : Fin 16} (h : s₀.Follows s) : Issue.Follows s₀ (s.popBody p rd) := by
  unfold State.popBody
  dsimp only
  split
  · exact h
  · split
    · rename_i hload
      exact h.load.trap hload
    · exact h
    · rename_i hload
      exact Follows.onPair (h.load.ok hload)

theorem Follows.element {p : Fin 4} {o : StringOp} (h : s₀.Follows s) : s₀.Follows (s.element p o).1 := by
  unfold State.element
  extract_lets q l got
  have hgot : Access.Follows s₀ got := by
    unfold got
    split
    · exact h
    · exact h.load
  clear_value got
  cases got with
  | trap t e => exact hgot
  | stall => exact h
  | ok t w =>
    have ht : s₀.Follows t := hgot
    dsimp only
    split
    · split
      · rename_i hstore
        exact ht.storeAt.trap hstore
      · exact h
      · rename_i hstore
        refine Follows.fst ((ht.storeAt.ok hstore).onPair fun q hq => ?_)
        exact Pair.Canonical.perf (Pair.Canonical.ite hq.setNow.setNow hq.setNow.setNow.setNow)
    · exact h

theorem Follows.elements {p : Fin 4} {o : StringOp} {n : Nat} (h : s₀.Follows s) : s₀.Follows (s.elements p o n).1 := by
  induction n generalizing s with
  | zero => exact h
  | succ n ih =>
    unfold State.elements
    split
    · exact h
    · split
      · rename_i heq
        exact ih (h.element.of_fst heq)
      · exact h.element

theorem Follows.stringOp {p : Fin 4} {o : Pair → StringOp} {count : Nat} (h : s₀.Follows s) :
    s₀.Follows (s.stringOp p o count) := by
  refine h.issue ?_
  dsimp only
  split
  · exact h
  · split
    · exact h
    · split
      · rename_i heq
        exact h.elements.of_fst heq
      · rename_i heq
        split
        · exact h.elements.of_fst heq
        · exact h.elements.of_fst heq

theorem Follows.branchOp {p : Fin 4} {n : Nat} {f : Pair → Except Trap (Option Word × Bool × Bool)} (h : s₀.Follows s) :
    s₀.Follows (s.branchOp p n f) := by
  refine h.issue ?_
  dsimp only
  split
  · exact h
  · exact Follows.onPair h

theorem Follows.conditional {p : Fin 4} {disp : Imm} {c : Pair → Bool}
    (h : s₀.Follows s) : s₀.Follows (s.conditional p disp c) :=
  h.branchOp

theorem Follows.loopOp {p : Fin 4} {n : Nat} {set : Fin 2} {e : Nat} {count : Pair → Word} (h : s₀.Follows s) :
    s₀.Follows (s.loopOp p n set e count) := by
  refine h.issue ?_
  dsimp only
  split
  · exact h
  · split
    · exact Follows.onPair h
    · exact Follows.onPair h

theorem Follows.breakpoint {p : Fin 4} {sub : Nat} {slot : Option Branch}
    (h : s₀.Follows s) : s₀.Follows (s.breakpoint p sub slot) :=
  Follows.branch h.complete h.complete.enterException

theorem Follows.spillBody {p : Fin 4} {imm : BitVec 8} (h : s₀.Follows s) : Issue.Follows s₀ (s.spillBody p imm) := by
  unfold State.spillBody
  dsimp only
  split
  · exact h.drawFree
  · split
    · exact h
    · split
      · exact h
      · split
        · exact h
        · rename_i heq
          exact Follows.onPair_at h fun hq => (hq.spillTo heq).perf

theorem Follows.sysBody {p : Fin 4} {n : Nat} (h : s₀.Follows s) : Issue.Follows s₀ (s.sysBody p n) := by
  unfold State.sysBody
  dsimp only
  split
  · exact h
  · split
    · exact h
    · exact h.retire.enterException

theorem Follows.readFrame {p : Fin 4} {l : Level} {n : Nat} {ptr : Word} {r : State × List Word} (h : s₀.Follows s)
    (hr : s.readFrame p l n ptr = .ok r) : s₀.Follows r.1 := by
  induction n generalizing ptr r s with
  | zero =>
    cases hr
    exact h
  | succ n ih =>
    unfold State.readFrame at hr
    split at hr
    · cases hr
    · cases hr
    · rename_i hload
      split at hr
      · cases hr
      · rename_i hrest
        cases hr
        have hread := ih (h.load.ok hload) hrest
        exact hread

theorem Follows.privilegeReturn {p : Fin 4} (h : s₀.Follows s) : Issue.Follows s₀ (s.privilegeReturn p) := h.doubleFault

theorem Follows.eretBody {p : Fin 4} (h : s₀.Follows s) : Issue.Follows s₀ (s.eretBody p) := by
  unfold State.eretBody
  extract_lets t q l f
  have ht : s₀.Follows t := h.onPair fun _ hq => hq.flush
  split
  · split
    · exact Follows.retire (Follows.onPair ht)
    · exact ht.privilegeReturn
  · split
    · exact ht
    · rename_i hentry
      split
      · exact ht
      · extract_lets popped
        have hpopped : s₀.Follows popped := ht.onPair_at fun hq => hq.popEntry hentry
        split
        · exact ht
        · rename_i hframe
          have hs : s₀.Follows _ := hpopped.readFrame hframe
          split
          · split
            · exact ht
            · exact Follows.retire (Follows.onPair hs)
          · exact hpopped.privilegeReturn

theorem Follows.takeInterrupt {p : Fin 4} (h : s₀.Follows s) : s₀.Follows (s.takeInterrupt p) := by
  unfold State.takeInterrupt
  refine Follows.branch h ?_
  split
  · exact h
  · exact (h.drawFree.onPair fun _ hq => Pair.Canonical.ite hq.perf.perf hq.perf).enterException

theorem Follows.pairWrite {p : Fin 4} {l : Level} {off : Nat} {w : Word}
    (h : s₀.Follows s) : s₀.Follows (s.pairWrite p l off w) := by
  unfold State.pairWrite
  dsimp only
  split
  · exact h
  · split
    · exact h.takeFault
    · split
      · rename_i t heq
        exact (h.regWrite heq)
      · exact h.takeFault

theorem Follows.entTake {p : Fin 4} (h : s₀.Follows s) : s₀.Follows (s.entTake p) := by
  unfold State.entTake
  split
  · rename_i _ t heq
    exact (((h.takeWords heq)).onPair).send
  · exact h.onPair

theorem Follows.writeRegister {r : PlainReg} {value : Word} (h : s₀.Follows s) :
    s₀.Follows (s.writeRegister r value) := by
  unfold State.writeRegister
  cases r with
  | requestOctet k off => exact h.onDict fun _ hd => hd.set (memWf_memSet _ _ _ (hd k))
  | ring => exact h.onLedger
  | _ => exact h.pairWrite

theorem Follows.sendPlain {first : Bool} {f : Frame} (h : s₀.Follows s) : s₀.Follows (s.sendPlain first f) :=
  Follows.branch h.deliver h.send

theorem Follows.sendUnder {id : Word} {secret : BitVec 512} {seq : Nat} {f : Frame}
    (h : s₀.Follows s) : s₀.Follows (s.sendUnder id secret seq f) :=
  h.deliver

theorem Follows.sendMessage {f : Frame} {step : Nat} {b : List Byte} (h : s₀.Follows s) :
    s₀.Follows (s.sendMessage f step b) :=
  h.forAll (fun _ _ h => h.sendPlain)

theorem Follows.dropSetups {which : Setup → Bool} (h : s₀.Follows s) : s₀.Follows (s.dropSetups which) :=
  h.onDict

theorem Follows.failSetup {f : Frame} {step code : Nat} {which : Setup → Bool}
    (h : s₀.Follows s) : s₀.Follows (s.failSetup f step code which) :=
  h.dropSetups.sendPlain

theorem Follows.step2 {b : List Byte} (h : s₀.Follows s) : s₀.Follows (s.step2 b).2.2 := by
  unfold State.step2
  dsimp only
  exact h.drawFree

theorem Follows.answerStep1 {f : Frame} {b : List Byte} (h : s₀.Follows s) : s₀.Follows (s.answerStep1 f b) :=
  h.step2.onDict.sendMessage

theorem Follows.takeStep1 {f : Frame} {p : List Byte} (h : s₀.Follows s) : s₀.Follows (s.takeStep1 f p) :=
  Follows.branch h.failSetup (Follows.branch h.onDict.unanswered (Follows.branch h.failSetup h.answerStep1))

theorem Follows.setupRequest {f : Frame} {p : List Byte} (h : s₀.Follows s) : s₀.Follows (s.setupRequest f p) :=
  Follows.branch h.answerAs (Follows.branch h.failSetup (Follows.branch h.failSetup (Follows.branch h.failSetup
    h.takeStep1)))

theorem Follows.openSession {f : Frame} {x : Setup} {secret : BitVec 512} {role : Role} {provisioning : Bool}
    {b : List Byte}
    (h : s₀.Follows s) : s₀.Follows (s.openSession f x secret role provisioning b) :=
  h.dropSetups.onDict.sendUnder

theorem Follows.failStep3 {f : Frame} {x : Setup} {secret : BitVec 512} {code : Nat}
    (h : s₀.Follows s) : s₀.Follows (s.failStep3 f x secret code) :=
  h.dropSetups.sendUnder

theorem Follows.takeStep3 {f : Frame} {x : Setup} {secret : BitVec 512} {p : List Byte} (h : s₀.Follows s) :
    s₀.Follows (s.takeStep3 f x secret p) := by
  unfold State.takeStep3
  refine Follows.branch h.failStep3 (Follows.branch (Follows.unanswered h.onDict) ?_)
  split
  · exact h.openSession
  · exact h.failStep3

theorem Follows.protectedSetup {f : Frame} {id : Word} (h : s₀.Follows s) : s₀.Follows (s.protectedSetup f id) := by
  unfold State.protectedSetup
  dsimp only
  split
  · exact h.dropFrame
  · split
    · exact h.dropFrame
    · exact Follows.branch h.dropFrame (Follows.branch h.onDict.failStep3 (Follows.branch h.onDict.sendUnder
        h.onDict.takeStep3))

theorem Follows.elevateWith {f : Frame} {x : Session} {b : List Byte}
    (h : s₀.Follows s) : s₀.Follows (s.elevateWith f x b) := by
  unfold State.elevateWith
  split
  · exact h.onSession.answer
  · exact h.answer

theorem Follows.elevateRequest {f : Frame} {a : Asker} {p : List Byte}
    (h : s₀.Follows s) : s₀.Follows (s.elevateRequest f a p) := by
  unfold State.elevateRequest
  dsimp only
  split
  · exact Follows.branch h.answerAs h.answer
  · exact Follows.branch h.endSegment.answer (Follows.branch h.keepSegment.answer h.endSegment.elevateWith)

theorem Follows.onMailbox {k : Fin 4} {f : Mailbox → Mailbox} (h : s₀.Follows s)
    (hf : ∀ m : Mailbox, memWf m.reqBuf = true → memWf (f m).reqBuf = true := by exact fun _ hm => hm) :
    s₀.Follows (s.onMailbox k f) := h.onDict fun _ hd => hd.set (hf _ (hd k))

theorem Follows.tagRequest {f : Frame} (h : s₀.Follows s) : s₀.Follows (s.tagRequest f) := by
  unfold State.tagRequest
  split
  · rename_i t heq
    exact (h.receive.of_fst heq)
  · rename_i t _ _ heq
    exact Follows.branch (((h.receive.of_fst heq)).readRequest) (Follows.branch
        (((h.receive.of_fst heq)).writeRequest) (((h.receive.of_fst heq)).answerAs))

theorem Follows.updateWindow {b : List Byte} (h : s₀.Follows s) : s₀.Follows (s.updateWindow b) := h.onDict.send

theorem Follows.publish {who : Publisher} (h : s₀.Follows s) : s₀.Follows (s.publish who) := by
  unfold State.publish
  dsimp only
  split
  · split
    · exact h
    · exact Follows.branch h.sealFrame.send (Follows.branch h.updateWindow h)
  · exact Follows.branch h.updateWindow h

end State
end Sys2Proof.Machine

/-! SUPPORT. What follows a state through commands of supplies, Gate, the dictionary, modes and the host ports. -/

namespace Sys2Proof.Machine
namespace State

set_option Elab.async false

variable {s₀ s : State}

theorem execMainPowerArrives_leads {env : StartEnv} (h : s₀.Follows s) : Leads s₀ (execMainPowerArrives env s) :=
  leads_next (Follows.branch h h.powerOn)

theorem execBootWatchdogExpiry_leads {env : StartEnv} (h : s₀.Follows s) : Leads s₀ (execBootWatchdogExpiry env s) :=
  leads_next (h.whenLive (fun _ h => Follows.branch h h.onVigil.event.flushBeforeReset.deviceReset))

theorem execVio33InRange_leads (h : s₀.Follows s) : Leads s₀ (execVio33InRange s) := leads_next h.vio33

theorem execVauxRise_leads (h : s₀.Follows s) : Leads s₀ (execVauxRise s) := leads_next h.onVigil

theorem execVauxFall_leads (h : s₀.Follows s) : Leads s₀ (execVauxFall s) :=
  leads_next (Follows.branch h h.onTag).onVigil

theorem execPfailNFall_leads (h : s₀.Follows s) : Leads s₀ (execPfailNFall s) := leads_next h.pfailFall

theorem execPfailNRise_leads (h : s₀.Follows s) : Leads s₀ (execPfailNRise s) :=
  leads_next (Follows.branch (h.onModes.whenLive (fun _ h => h.flashPowerBack)) h)

theorem execMainPowerLoss_leads (h : s₀.Follows s) : Leads s₀ (execMainPowerLoss s) := leads_next h.powerLoss

theorem execGateEntry_leads (h : s₀.Follows s) : Leads s₀ (execGateEntry s) :=
    leads_next (h.whenLive (fun _ h => h.tryGate))

theorem execChannelFlashInit_leads {n : Fin 12} {cs : Fin 2} {r : FlashReply}
    (h : s₀.Follows s) : Leads s₀ (execChannelFlashInit n cs r s) :=
  leads_next (h.whenLive (fun _ h => h.channelInit))

theorem execPrescanBurst_leads {n : Fin 12} {octets : List Byte} (h : s₀.Follows s) :
    Leads s₀ (execPrescanBurst n octets s) :=
  leads_next (h.whenLive (fun _ h => h.prescan))

theorem execPrescanBurstStall_leads {n : Fin 12} (h : s₀.Follows s) : Leads s₀ (execPrescanBurstStall n s) :=
  leads_next (h.whenLive (fun _ h => h.prescanStall))

theorem execManifestVerification_leads {n : Fin 12} (h : s₀.Follows s) : Leads s₀ (execManifestVerification n s) :=
  leads_next (h.whenLive (fun _ h => h.verifyManifests))

theorem execRegionVerdict_leads {n : Fin 12} {r : Fin 64} (h : s₀.Follows s) : Leads s₀ (execRegionVerdict n r s) :=
  leads_next (h.whenLive (fun _ h => h.regionVerdict))

theorem execRecoveryComplete_leads {n : Fin 12} {r : Fin 64} {content : Option (List Byte)}
    (h : s₀.Follows s) : Leads s₀ (execRecoveryComplete n r content s) :=
  leads_next (h.whenLive (fun _ h => h.recoveryComplete))

theorem execGateAttestationCutoff_leads (h : s₀.Follows s) : Leads s₀ (execGateAttestationCutoff s) :=
  leads_next (h.whenLive (fun _ h => Follows.branch h.snapshotGate h))

theorem execPrimaryRecordAppend_leads {failedChecks : Nat}
    (h : s₀.Follows s) : Leads s₀ (execPrimaryRecordAppend failedChecks s) :=
  leads_next (h.whenLive (fun _ h => h.primaryAppend))

theorem execPrimaryRecordLate_leads (h : s₀.Follows s) : Leads s₀ (execPrimaryRecordLate s) :=
  leads_next (h.whenLive (fun _ h => Follows.branch h.primaryOutage h))

theorem execHoldRelease_leads (h : s₀.Follows s) : Leads s₀ (execHoldRelease s) :=
  leads_next (h.whenLive (fun _ h => h.holdRelease))

theorem execLockstepMismatch_leads {p : Fin 4} (h : s₀.Follows s) : Leads s₀ (execLockstepMismatch p s) :=
  leads_next (h.whenLive (fun _ h => Follows.branch h.bumpWord.event.resetPair h))

theorem execPairReturnToService_leads {p : Fin 4} (h : s₀.Follows s) : Leads s₀ (execPairReturnToService p s) :=
  leads_next (h.whenLive (fun _ h => Follows.branch h h.onPair))

theorem execPatrolScrubVisit_leads {m : MemClass} {o : BusReply}
    (h : s₀.Follows s) : Leads s₀ (execPatrolScrubVisit m o s) := by
  refine leads_next (h.whenLive fun _ h => ?_)
  split
  · exact h
  · split
    · exact h.bumpWord
    · exact h.memoryError
    · exact h.memoryError
    · exact h

theorem execBusKeyReplacement_leads (h : s₀.Follows s) : Leads s₀ (execBusKeyReplacement s) :=
  leads_next (h.whenLive (fun _ h => Follows.branch h.onInteg h))

theorem execHourlySave_leads (h : s₀.Follows s) : Leads s₀ (execHourlySave s) :=
  leads_next (h.whenLive (fun _ h => h.saveAll))

theorem execDexRead_leads {f : Frame} (h : s₀.Follows s) : Leads s₀ (execDexRead f s) := leads_next h.runRead

theorem execDexWrite_leads {f : Frame} (h : s₀.Follows s) : Leads s₀ (execDexWrite f s) := leads_next h.runWrite

theorem execForbiddenKindFrame_leads {f : Frame} (h : s₀.Follows s) : Leads s₀ (execForbiddenKindFrame f s) :=
  leads_next (Follows.branch h.receive h)

theorem execSetupStep1_leads {f : Frame} (h : s₀.Follows s) : Leads s₀ (execSetupStep1 f s) := by
  refine leads_next ?_
  split
  · exact h
  · split
    · rename_i t heq
      exact (h.receive.of_fst heq)
    · rename_i t _ _ heq
      exact ((h.receive.of_fst heq)).setupRequest

theorem execSetupStep3_leads {f : Frame} (h : s₀.Follows s) : Leads s₀ (execSetupStep3 f s) := by
  refine leads_next ?_
  split
  · exact h
  · split
    · exact h
    · split
      · split
        · rename_i t heq
          exact (h.receive.of_fst heq)
        · rename_i t _ _ heq
          exact ((h.receive.of_fst heq)).answerAs
      · exact Follows.branch h h.protectedSetup

theorem execSetupTimeout_leads {id : Word} (h : s₀.Follows s) : Leads s₀ (execSetupTimeout id s) :=
  leads_next (h.whenLive (fun _ ht => ht.dropSetups))

theorem execElevate_leads {f : Frame} (h : s₀.Follows s) : Leads s₀ (execElevate f s) := by
  refine leads_next ?_
  split
  · exact h
  · split
    · rename_i t heq
      exact (h.receive.of_fst heq)
    · rename_i t _ _ heq
      exact ((h.receive.of_fst heq)).elevateRequest

theorem execOfficerElevation_leads {f : Frame} (h : s₀.Follows s) : Leads s₀ (execOfficerElevation f s) :=
  leads_next (h.runCmd elevationAction_keeps)

theorem execCloseSession_leads {f : Frame} (h : s₀.Follows s) : Leads s₀ (execCloseSession f s) :=
  leads_next (h.runCmd closeAction_keeps)

theorem execSessionIdleTimeout_leads {id : Word} (h : s₀.Follows s) : Leads s₀ (execSessionIdleTimeout id s) := by
  refine leads_next (h.whenLive fun _ h => ?_)
  split
  · exact Follows.branch h.endSession h
  · exact h

theorem execSegmentGapTimeout_leads {index : BitVec 16} {sub : BitVec 8}
    (h : s₀.Follows s) : Leads s₀ (execSegmentGapTimeout index sub s) :=
  leads_next (h.whenLive (fun _ h => h.onDict))

theorem execDictionaryTickClose_leads (h : s₀.Follows s) : Leads s₀ (execDictionaryTickClose s) :=
  leads_next (h.whenLive (fun _ h => h.closeTick))

theorem execPersistCommitDone_leads {ok : Bool} (h : s₀.Follows s) : Leads s₀ (execPersistCommitDone ok s) :=
  leads_next (h.whenLive (fun _ h => h.commitDone))

theorem execCmdAbort_leads {f : Frame} (h : s₀.Follows s) : Leads s₀ (execCmdAbort f s) := leads_next h.runWrite

theorem execPublish_leads {who : Publisher} (h : s₀.Follows s) : Leads s₀ (execPublish who s) :=
  leads_next (h.whenLive (fun _ h => Follows.branch h h.publish))

theorem execMailboxDoorbell_leads {k : Fin 4} {value : BitVec 32} {buffer : List Byte} (h : s₀.Follows s) :
    Leads s₀ (execMailboxDoorbell k value buffer s) := by
  refine leads_next (h.whenLive fun t h => ?_)
  have hfill : s₀.Follows (t.onMailbox k (Mailbox.fill buffer)) := h.onMailbox fun m hm => memWf_memStore _ m.reqBuf 0
      hm
  exact Follows.branch hfill (Follows.branch hfill.onMailbox hfill.bump)

theorem execMailboxAck_leads {k : Fin 4} {value : BitVec 32} (h : s₀.Follows s) : Leads s₀ (execMailboxAck k value s) :=
  leads_next (h.whenLive (fun _ h => Follows.branch h.onMailbox h))

theorem execNetworkPacketDrop_leads {why : BadPacket} (h : s₀.Follows s) : Leads s₀ (execNetworkPacketDrop why s) := by
  refine leads_next ?_
  split
  · exact h
  · exact h
  · exact h
  · exact h

theorem execIcmpv6Echo_leads {data : List Byte} (h : s₀.Follows s) : Leads s₀ (execIcmpv6Echo data s) :=
  leads_next (h.whenLive (fun _ h => h.send))

theorem execNeighbourDiscovery_leads {data : List Byte} (h : s₀.Follows s) :
    Leads s₀ (execNeighbourDiscovery data s) := by
  refine leads_next (h.whenLive fun _ h => ?_)
  split
  · exact h.send
  · exact h

theorem execModeRequest_leads {f : Frame} (h : s₀.Follows s) : Leads s₀ (execModeRequest f s) :=
  leads_next (h.runCmd modeRequestAction_keeps)

theorem execLifecycleAdvance_leads {f : Frame} {env : StartEnv} (h : s₀.Follows s) :
    Leads s₀ (execLifecycleAdvance f env s) :=
  leads_next (h.runCmd lifecycleAction_keeps)

theorem execCommitProvisioning_leads {f : Frame} {env : StartEnv}
    (h : s₀.Follows s) : Leads s₀ (execCommitProvisioning f env s) :=
  leads_next (h.runCmd commitAction_keeps)

theorem execDeviceReset_leads {f : Option Frame} {env : StartEnv} (h : s₀.Follows s) :
    Leads s₀ (execDeviceReset f env s) := by
  refine leads_next ?_
  split
  · exact h.runCmd resetAction_keeps
  · exact h.whenLive (fun _ h => Follows.branch h.flushBeforeReset.deviceReset h)

theorem execHotRestart_leads {f : Frame} (h : s₀.Follows s) : Leads s₀ (execHotRestart f s) :=
  leads_next (h.runCmd hotRestartAction_keeps)

theorem execHotRestartComplete_leads {env : StartEnv} (h : s₀.Follows s) : Leads s₀ (execHotRestartComplete env s) :=
  leads_next (h.whenLive (fun _ h => h.endHotRestart))

theorem execBoardBoot_leads {f : Frame} (h : s₀.Follows s) : Leads s₀ (execBoardBoot f s) :=
  leads_next (h.runCmd boardBootAction_keeps)

theorem execPePerstNAssert_leads {flr : Bool} (h : s₀.Follows s) : Leads s₀ (execPePerstNAssert flr s) :=
  leads_next (h.whenLive (fun _ h => (Follows.branch h h.onDict).pcieReset))

theorem execPerstBoardBoot_leads (h : s₀.Follows s) : Leads s₀ (execPerstBoardBoot s) :=
  leads_next (h.whenLive (fun _ h => Follows.branch h.onDict h))

theorem execRetire_leads {f : Frame} {env : StartEnv} (h : s₀.Follows s) : Leads s₀ (execRetire f env s) :=
  leads_next (h.runCmd retireAction_keeps)

theorem execMaintainLimitExpiry_leads (h : s₀.Follows s) : Leads s₀ (execMaintainLimitExpiry s) :=
  leads_next (h.whenLive (fun _ h => Follows.branch h.leaveForServe h))

theorem execCeremonyLimitExpiry_leads (h : s₀.Follows s) : Leads s₀ (execCeremonyLimitExpiry s) :=
  leads_next (h.whenLive (fun _ h => Follows.branch h.leaveForServe h))

theorem execInstallImage_leads {f : Frame} {env : StartEnv} (h : s₀.Follows s) : Leads s₀ (execInstallImage f env s) :=
  leads_next (h.runCmd installAction_keeps)

theorem execInstallFromCard_leads {f : Frame} {content : List Byte} {env : StartEnv}
    (h : s₀.Follows s) : Leads s₀ (execInstallFromCard f content env s) :=
  leads_next (h.runCmd cardInstallAction_keeps)

theorem execFunctionEnable_leads {f : Frame} (h : s₀.Follows s) : Leads s₀ (execFunctionEnable f s) := by
  refine leads_next ?_
  split
  · exact h.runCmd enableAction_keeps
  · exact h

theorem execFunctionDisable_leads {f : Frame} (h : s₀.Follows s) : Leads s₀ (execFunctionDisable f s) := by
  refine leads_next ?_
  split
  · exact h.runCmd disableAction_keeps
  · exact h

theorem execFunctionDrainComplete_leads {fn : FnId} (h : s₀.Follows s) : Leads s₀ (execFunctionDrainComplete fn s) :=
  leads_next (h.whenLive (fun _ h => h.drainComplete))

theorem execFunctionStartComplete_leads {fn : FnId} (h : s₀.Follows s) : Leads s₀ (execFunctionStartComplete fn s) :=
  leads_next (h.whenLive (fun _ h => h.startComplete))

theorem execHostFastRead_leads {n : Fin 12} {cs : Fin 2} {opcode : Byte} {addr len : Nat} {flash : List Byte}
    {stopped : Bool} {memFault : Option Nat} (h : s₀.Follows s) :
    Leads s₀ (execHostFastRead n cs opcode addr len flash stopped memFault s) :=
  leads_next (h.hostCommand (fun _ h => Follows.branch h.fastRead h.bump))

theorem execReadId_leads {n : Fin 12} {cs : Fin 2} (h : s₀.Follows s) : Leads s₀ (execReadId n cs s) :=
  leads_next (h.hostCommand (fun _ h => h.drive))

theorem execReadSfdp_leads {n : Fin 12} {cs : Fin 2} {addr len : Nat}
    (h : s₀.Follows s) : Leads s₀ (execReadSfdp n cs addr len s) :=
  leads_next (h.hostCommand (fun _ h => h.drive))

theorem execReadStatus_leads {n : Fin 12} {cs : Fin 2} (h : s₀.Follows s) : Leads s₀ (execReadStatus n cs s) :=
  leads_next (h.hostCommand (fun _ h => h.drive))

theorem execHostRegisterRead_leads {n : Fin 12} {cs : Fin 2} {len : Nat}
    (h : s₀.Follows s) : Leads s₀ (execHostRegisterRead n cs len s) :=
  leads_next (h.hostCommand (fun _ h => h.drive))

theorem execWriteEnable_leads {n : Fin 12} {cs : Fin 2} (h : s₀.Follows s) : Leads s₀ (execWriteEnable n cs s) :=
  leads_next (h.hostCommand (fun _ h => h.onEmu))

theorem execWriteDisable_leads {n : Fin 12} {cs : Fin 2} (h : s₀.Follows s) : Leads s₀ (execWriteDisable n cs s) :=
  leads_next (h.hostCommand (fun _ h => h.onEmu))

theorem execHostPageProgram_leads {n : Fin 12} {cs : Fin 2} {opcode : Byte} {addr : Nat} {data : List Byte}
    (h : s₀.Follows s) : Leads s₀ (execHostPageProgram n cs opcode addr data s) :=
  leads_next (h.hostCommand (fun _ h => Follows.branch h.writeHost h.bump))

theorem execHostSectorErase_leads {n : Fin 12} {cs : Fin 2} {opcode : Byte} {addr : Nat}
    (h : s₀.Follows s) : Leads s₀ (execHostSectorErase n cs opcode addr s) :=
  leads_next (h.hostCommand (fun _ h => Follows.branch h.writeHost h.bump))

theorem execHostSuspend_leads {n : Fin 12} {cs : Fin 2} (h : s₀.Follows s) : Leads s₀ (execHostSuspend n cs s) :=
  leads_next (h.hostCommand (fun _ h => h.suspendHost))

theorem execHostResume_leads {n : Fin 12} {cs : Fin 2} (h : s₀.Follows s) : Leads s₀ (execHostResume n cs s) :=
  leads_next (h.hostCommand (fun _ h => h.suspendHost))

theorem execSetHostProtocol_leads {n : Fin 12} {cs : Fin 2} {data : Byte}
    (h : s₀.Follows s) : Leads s₀ (execSetHostProtocol n cs data s) :=
  leads_next (h.hostCommand (fun _ h => Follows.branch h.onEmu h))

theorem execEnter4Byte_leads {n : Fin 12} {cs : Fin 2} (h : s₀.Follows s) : Leads s₀ (execEnter4Byte n cs s) :=
  leads_next (h.hostCommand (fun _ h => h.onEmu))

theorem execExit4Byte_leads {n : Fin 12} {cs : Fin 2} (h : s₀.Follows s) : Leads s₀ (execExit4Byte n cs s) :=
  leads_next (h.hostCommand (fun _ h => h.onEmu))

theorem execResetEnable_leads {n : Fin 12} {cs : Fin 2} (h : s₀.Follows s) : Leads s₀ (execResetEnable n cs s) :=
  leads_next (h.hostCommand fun _ h => h)

theorem execSoftReset_leads {n : Fin 12} {cs : Fin 2} (h : s₀.Follows s) : Leads s₀ (execSoftReset n cs s) :=
  leads_next (h.hostCommand (fun _ h => Follows.branch h.onEmu h))

theorem execDeepPowerDown_leads {n : Fin 12} {cs : Fin 2} (h : s₀.Follows s) : Leads s₀ (execDeepPowerDown n cs s) :=
  leads_next (h.hostCommand (fun _ h => h.onEmu))

theorem execReleaseDeepPowerDown_leads {n : Fin 12} {cs : Fin 2}
    (h : s₀.Follows s) : Leads s₀ (execReleaseDeepPowerDown n cs s) :=
  leads_next (h.hostCommand (fun _ h => h.onEmu))

theorem execChipErase_leads {n : Fin 12} {cs : Fin 2} (h : s₀.Follows s) : Leads s₀ (execChipErase n cs s) :=
  leads_next (h.hostCommand (fun _ h => h.refusedKind))

theorem execHostRegisterWrite_leads {n : Fin 12} {cs : Fin 2} {opcode : Byte}
    (h : s₀.Follows s) : Leads s₀ (execHostRegisterWrite n cs opcode s) :=
  leads_next (h.hostCommand (fun _ h => h.refusedKind))

theorem execHostUnknownCommand_leads {n : Fin 12} {cs : Fin 2} {opcode : Byte}
    (h : s₀.Follows s) : Leads s₀ (execHostUnknownCommand n cs opcode s) :=
  leads_next (h.hostCommand (fun _ h => h.bump))

theorem execHostProtocolError_leads {n : Fin 12} (h : s₀.Follows s) : Leads s₀ (execHostProtocolError n s) :=
  leads_next (h.whenLive (fun _ h => Follows.branch h.bump h))

theorem execHostClockExcess_leads {n : Fin 12} {cs : Fin 2} {kHz : Nat}
    (h : s₀.Follows s) : Leads s₀ (execHostClockExcess n cs kHz s) :=
  leads_next (h.whenLive (fun _ h => Follows.branch h.event h))

theorem execForwardedOpComplete_leads {n : Fin 12} {cs : Fin 2}
    (h : s₀.Follows s) : Leads s₀ (execForwardedOpComplete n cs s) :=
  leads_next (h.whenLive (fun _ h => h.onChan.onEmu))

theorem execPinnedReloadComplete_leads {n : Fin 12} {r : Fin 64} {content : List Byte}
    (h : s₀.Follows s) : Leads s₀ (execPinnedReloadComplete n r content s) :=
  leads_next (h.whenLive (fun _ h => Follows.branch h h.reloadComplete))

theorem execDqsRetrain_leads {n : Fin 12} {cs : Fin 2} {taps : List Bool} {tapSize : Nat}
    (h : s₀.Follows s) : Leads s₀ (execDqsRetrain n cs taps tapSize s) :=
  leads_next (h.whenLive (fun _ h => h.retrain))

theorem execChannelLogicError_leads {n : Fin 12} (h : s₀.Follows s) : Leads s₀ (execChannelLogicError n s) :=
  leads_next (h.whenLive (fun _ h => h.logicError))

theorem execChannelRestartComplete_leads {n : Fin 12} {r0 r1 : FlashReply}
    (h : s₀.Follows s) : Leads s₀ (execChannelRestartComplete n r0 r1 s) :=
  leads_next (h.whenLive (fun _ h => h.restartComplete))

theorem execHaltOverride_leads {f : Frame} (h : s₀.Follows s) : Leads s₀ (execHaltOverride f s) := by
  refine leads_next ?_
  split
  · exact h.runCmd haltOverrideAction_keeps
  · exact h

theorem execManifestWrite_leads {f : Frame} (h : s₀.Follows s) : Leads s₀ (execManifestWrite f s) :=
  leads_next h.runWrite

end State
end Sys2Proof.Machine

/-! SUPPORT. What follows a state through commands of read consistency, attestation, the ledger and the Job Hub. -/

namespace Sys2Proof.Machine
namespace State

set_option Elab.async false

variable {s₀ s : State}

theorem execFillIn_leads {n : Fin 12} {octets : List Byte} (h : s₀.Follows s) : Leads s₀ (execFillIn n octets s) :=
  leads_next (h.whenLive (fun _ h => Follows.branch h.fillIn h))

theorem execRoundAgeVisit_leads {n : Fin 12} (h : s₀.Follows s) : Leads s₀ (execRoundAgeVisit n s) :=
  leads_next (h.whenLive (fun _ h => Follows.branch h.ageVisit h))

theorem execSweep_leads {f : Frame} (h : s₀.Follows s) : Leads s₀ (execSweep f s) :=
  leads_next (h.runCmd sweepAction_keeps)

theorem execI3cDiscovery_leads {found : List Word} (h : s₀.Follows s) : Leads s₀ (execI3cDiscovery found s) :=
  leads_next (h.whenLive (fun _ h => h.discover))

theorem execDiscoveryTimeout_leads (h : s₀.Follows s) : Leads s₀ (execDiscoveryTimeout s) :=
  leads_next (h.whenLive (fun _ h => Follows.branch (h.forAll (fun _ _ h => h.endSlot)) h))

theorem execHotJoin_leads {identity : Word} (h : s₀.Follows s) : Leads s₀ (execHotJoin identity s) :=
  leads_next (h.whenLive (fun _ h => h.hotJoin))

theorem execEndpointIdAssigned_leads {eid : BitVec 8} (h : s₀.Follows s) : Leads s₀ (execEndpointIdAssigned eid s) :=
  leads_next (h.whenLive (fun _ h => h.onAtt.send))

theorem execSpdmResponse_leads {slot : Fin 64} {reply : SpdmReply} {octets : List Byte}
    (h : s₀.Follows s) : Leads s₀ (execSpdmResponse slot reply octets s) :=
  leads_next (h.whenLive (fun _ h => h.spdmReply))

theorem execSpdmTimeout_leads {slot : Fin 64} (h : s₀.Follows s) : Leads s₀ (execSpdmTimeout slot s) :=
  leads_next (h.whenLive (fun _ h => h.spdmTimeout))

theorem execSpdmRetryWait_leads {slot : Fin 64} (h : s₀.Follows s) : Leads s₀ (execSpdmRetryWait slot s) :=
  leads_next (h.whenLive (fun _ h => h.spdmRetry))

theorem execSpdmSlotTimeLimit_leads {slot : Fin 64} (h : s₀.Follows s) : Leads s₀ (execSpdmSlotTimeLimit slot s) :=
  leads_next (h.whenLive (fun _ h => Follows.branch h.endSlot h))

theorem execServeCollectionWindowExpiry_leads (h : s₀.Follows s) : Leads s₀ (execServeCollectionWindowExpiry s) :=
  leads_next (h.whenLive (fun _ h => Follows.branch h.closeCollection h))

theorem execCloseServeCollection_leads {f : Frame} (h : s₀.Follows s) : Leads s₀ (execCloseServeCollection f s) :=
  leads_next (h.runCmd closeCollectionAction_keeps)

theorem execAttestationHoldOverride_leads {f : Frame} (h : s₀.Follows s) : Leads s₀ (execAttestationHoldOverride f s) :=
  leads_next (h.runCmd attestationOverrideAction_keeps)

theorem execGetVersion_leads {port : SpdmPort} {request : List Byte}
    (h : s₀.Follows s) : Leads s₀ (execGetVersion port request s) :=
  leads_next (h.whenResponds (fun _ h => h.onConnection.spdmAnswer))

theorem execGetCapabilities_leads {port : SpdmPort} {request : List Byte}
    (h : s₀.Follows s) : Leads s₀ (execGetCapabilities port request s) :=
  leads_next (h.whenConnected (fun _ h => h.spdmAnswer))

theorem execNegotiateAlgorithms_leads {port : SpdmPort} {request : List Byte} {asyms hashes : List Nat}
    (h : s₀.Follows s) :
    Leads s₀ (execNegotiateAlgorithms port request asyms hashes s) :=
  leads_next (h.whenConnected fun _ h => h.spdmAnswer)

theorem execGetDigests_leads {port : SpdmPort} {request : List Byte}
    (h : s₀.Follows s) : Leads s₀ (execGetDigests port request s) :=
  leads_next (h.whenConnected (fun _ h => h.spdmAnswer))

theorem execGetCertificate_leads {port : SpdmPort} {request : List Byte} {slot : Fin 8} {offset len : Nat}
    (h : s₀.Follows s) : Leads s₀ (execGetCertificate port request slot offset len s) :=
  leads_next (h.whenConnected (fun _ h => Follows.branch h.spdmFails h.spdmAnswer))

theorem execChallenge_leads {port : SpdmPort} {request : List Byte} {slot : Fin 8} {summary : Nat}
    (h : s₀.Follows s) : Leads s₀ (execChallenge port request slot summary s) :=
  leads_next (h.whenConnected (fun _ h => Follows.branch h.spdmFails h.spdmSign))

theorem execGetMeasurements_leads {port : SpdmPort} {request : List Byte} {index : Nat} {signed : Bool}
    (h : s₀.Follows s) : Leads s₀ (execGetMeasurements port request index signed s) :=
  leads_next (h.whenConnected (fun _ h => Follows.branch h.spdmFails (Follows.branch h.spdmSign h.spdmAnswer)))

theorem execRespondIfReady_leads {port : SpdmPort} {request : List Byte}
    (h : s₀.Follows s) : Leads s₀ (execRespondIfReady port request s) :=
  leads_next (h.whenResponds (fun _ h => h.spdmFails))

theorem execSpdmUnsupportedRequest_leads {port : SpdmPort} {request : List Byte}
    (h : s₀.Follows s) : Leads s₀ (execSpdmUnsupportedRequest port request s) :=
  leads_next (h.whenResponds (fun _ h => h.spdmFails))

theorem execDoeDiscovery_leads {index : Nat} (h : s₀.Follows s) : Leads s₀ (execDoeDiscovery index s) :=
  leads_next (h.whenLive (fun _ h => h.send))

theorem execSupplementPendingTimeout_leads (h : s₀.Follows s) : Leads s₀ (execSupplementPendingTimeout s) := by
  refine leads_next (h.whenLive fun _ h => ?_)
  split
  · exact Follows.branch h.timedSupplement h
  · exact h

theorem execSupplementPeriodExpiry_leads (h : s₀.Follows s) : Leads s₀ (execSupplementPeriodExpiry s) :=
  leads_next (h.whenLive (fun _ h => Follows.branch h h.timedSupplement))

theorem execSupplementRequest_leads {f : Frame} (h : s₀.Follows s) : Leads s₀ (execSupplementRequest f s) :=
  leads_next (h.runCmd supplementAction_keeps)

theorem execLedgerSignaturesVerified_leads {failedChecks : Nat}
    (h : s₀.Follows s) : Leads s₀ (execLedgerSignaturesVerified failedChecks s) :=
  leads_next (h.whenLive (fun _ h => h.signaturesVerified.afterAppend))

theorem execLedgerRoomAvailable_leads (h : s₀.Follows s) : Leads s₀ (execLedgerRoomAvailable s) :=
  leads_next (h.whenLive (fun _ h => h.roomAvailable.afterAppend))

theorem execLedgerCommit_leads {ok : Bool} (h : s₀.Follows s) : Leads s₀ (execLedgerCommit ok s) :=
  leads_next (h.whenLive (fun _ h => h.ledgerCommit.afterAppend))

theorem execLedgerPreErase_leads (h : s₀.Follows s) : Leads s₀ (execLedgerPreErase s) :=
  leads_next (h.whenLive (fun _ h => h.preEraseLedger))

theorem execLedgerKeyRollover_leads {f : Frame} (h : s₀.Follows s) : Leads s₀ (execLedgerKeyRollover f s) :=
  leads_next (h.runCmd rolloverAction_keeps)

theorem execAcknowledgeExport_leads {f : Frame} (h : s₀.Follows s) : Leads s₀ (execAcknowledgeExport f s) :=
  leads_next (h.runCmd acknowledgeAction_keeps)

theorem execWindowCursorWrite_leads {f : Frame} (h : s₀.Follows s) : Leads s₀ (execWindowCursorWrite f s) :=
  leads_next h.runWrite

theorem execWindowRecordRead_leads {f : Frame} (h : s₀.Follows s) : Leads s₀ (execWindowRecordRead f s) :=
  leads_next h.runRead

theorem execRingCtrlWrite_leads {r : Fin 2} {reg : RingReg} {value : BitVec 32}
    (h : s₀.Follows s) : Leads s₀ (execRingCtrlWrite r reg value s) :=
  leads_next (h.whenLive (fun _ h => h.onRing))

theorem execRingConsWrite_leads {r : Fin 2} {value : BitVec 32} (h : s₀.Follows s) :
    Leads s₀ (execRingConsWrite r value s) :=
  leads_next (h.whenLive (fun _ h => h.ringCons))

theorem execRingFrameWrite_leads (h : s₀.Follows s) : Leads s₀ (execRingFrameWrite s) :=
  leads_next (h.whenLive (fun _ h => h.ringFrame))

theorem execTagSummaryWrite_leads {held : Option (Fin 32)} (h : s₀.Follows s) : Leads s₀ (execTagSummaryWrite held s) :=
  leads_next (h.whenLive (fun _ h => Follows.branch h.putSummary h))

theorem execTagSummaryRetry_leads {held : Option (Fin 32)} (h : s₀.Follows s) : Leads s₀ (execTagSummaryRetry held s) :=
  leads_next (h.whenLive (fun _ h => Follows.branch h.putSummary h))

theorem execJhSubmit_leads {p : Fin 4} {l : Level} (h : s₀.Follows s) : Leads s₀ (execJhSubmit p l s) :=
  leads_next (Follows.branch h.jhSubmit h)

theorem execJhPop_leads {p : Fin 4} {l : Level} (h : s₀.Follows s) : Leads s₀ (execJhPop p l s) :=
  leads_next (Follows.branch h.jhPop.send h)

theorem execJhAbort_leads {p : Fin 4} {l : Level} {value : Word} (h : s₀.Follows s) :
    Leads s₀ (execJhAbort p l value s) :=
  leads_next (Follows.branch h.jhAbort h)

theorem execJhQuery_leads {p : Fin 4} {l : Level} {value : Word} (h : s₀.Follows s) :
    Leads s₀ (execJhQuery p l value s) :=
  leads_next (Follows.branch h.jhQuery h)

theorem execJhTake_leads {p : Fin 4} {l : Level} (h : s₀.Follows s) : Leads s₀ (execJhTake p l s) :=
  leads_next (Follows.branch h.jhTake.send h)

theorem execJhCurrent_leads {p : Fin 4} {l : Level} {value : Word} (h : s₀.Follows s) :
    Leads s₀ (execJhCurrent p l value s) :=
  leads_next (Follows.branch h.jhCurrent h)

theorem execJhDone_leads {p : Fin 4} {l : Level} {value : Word} (h : s₀.Follows s) :
    Leads s₀ (execJhDone p l value s) :=
  leads_next (Follows.branch h.jhDone h)

theorem execJhCheckpoint_leads {p : Fin 4} {l : Level} {value : Word}
    (h : s₀.Follows s) : Leads s₀ (execJhCheckpoint p l value s) :=
  leads_next (Follows.branch h.jhCheckpoint h)

theorem execJobPlacement_leads {cls : Fin 6} (h : s₀.Follows s) : Leads s₀ (execJobPlacement cls s) :=
  leads_next (h.whenLive (fun _ h => h.placeJob))

theorem execEngineCompletion_leads {r : EngineResult} (h : s₀.Follows s) : Leads s₀ (execEngineCompletion r s) :=
  leads_next (h.whenLive (fun _ h => h.engineDone))

theorem execJobSuspension_leads {slot : Fin 4096} {octets : Nat}
    (h : s₀.Follows s) : Leads s₀ (execJobSuspension slot octets s) :=
  leads_next (h.whenLive (fun _ h => h.suspendJob))

theorem execUrgencyAging_leads (h : s₀.Follows s) : Leads s₀ (execUrgencyAging s) :=
  leads_next (h.whenLive (fun _ h => h.onHub))

theorem execJobRunTimeout_leads {slot : Fin 4096} (h : s₀.Follows s) : Leads s₀ (execJobRunTimeout slot s) := by
  refine leads_next (h.whenLive fun _ h => ?_)
  split
  · exact Follows.branch h.replaceJob h
  · exact h

theorem execKeyWaitExpiry_leads (h : s₀.Follows s) : Leads s₀ (execKeyWaitExpiry s) :=
  leads_next (h.whenLive (fun _ h => h.forAll (fun _ _ h => h.failJob)))

end State
end Sys2Proof.Machine

/-! SUPPORT. What follows a state through commands of the engines, keys, entropy and the tamper watch. -/

namespace Sys2Proof.Machine
namespace State

set_option Elab.async false

variable {s₀ s : State}

theorem execLaneFault_leads {lane : Fin 18} (h : s₀.Follows s) : Leads s₀ (execLaneFault lane s) :=
  leads_next (h.whenLive (fun _ h => h.laneFault))

theorem execLaneSelfTest_leads {lane : Fin 18} {pass : Bool} (h : s₀.Follows s) :
    Leads s₀ (execLaneSelfTest lane pass s) :=
  leads_next (h.whenLive (fun _ h => h.laneTested))

theorem execRunLaneSelfTest_leads {f : Frame} (h : s₀.Follows s) : Leads s₀ (execRunLaneSelfTest f s) :=
  leads_next (h.runCmd runLanesAction_keeps)

theorem execUnitFault_leads {unit : Fin 3} (h : s₀.Follows s) : Leads s₀ (execUnitFault unit s) :=
  leads_next (h.whenLive (fun _ h => h.unitFault))

theorem execUnitSelfTest_leads {unit : Fin 3} {pass : Bool} (h : s₀.Follows s) :
    Leads s₀ (execUnitSelfTest unit pass s) :=
  leads_next (h.whenLive (fun _ h => h.unitTested))

theorem execRunUnitSelfTest_leads {f : Frame} (h : s₀.Follows s) : Leads s₀ (execRunUnitSelfTest f s) :=
  leads_next (h.runCmd runUnitsAction_keeps)

theorem execLoadableCurveWrite_leads {f : Frame} (h : s₀.Follows s) : Leads s₀ (execLoadableCurveWrite f s) :=
  leads_next h.runWrite

theorem execKuLoad_leads {p : Fin 4} {l : Level} (h : s₀.Follows s) : Leads s₀ (execKuLoad p l s) :=
  leads_next (Follows.branch h.kuGo h)

theorem execKuWrap_leads {p : Fin 4} {l : Level} (h : s₀.Follows s) : Leads s₀ (execKuWrap p l s) :=
  leads_next (Follows.branch h.kuGo h)

theorem execKuGenerate_leads {p : Fin 4} {l : Level} (h : s₀.Follows s) : Leads s₀ (execKuGenerate p l s) :=
  leads_next (Follows.branch h.kuGo h)

theorem execKuDerive_leads {p : Fin 4} {l : Level} (h : s₀.Follows s) : Leads s₀ (execKuDerive p l s) :=
  leads_next (Follows.branch h.kuGo h)

theorem execKuClear_leads {p : Fin 4} {l : Level} (h : s₀.Follows s) : Leads s₀ (execKuClear p l s) :=
  leads_next (Follows.branch h.kuGo h)

theorem execKuInfo_leads {p : Fin 4} {l : Level} (h : s₀.Follows s) : Leads s₀ (execKuInfo p l s) :=
  leads_next (Follows.branch h.kuGo h)

theorem execKuPublic_leads {p : Fin 4} {l : Level} (h : s₀.Follows s) : Leads s₀ (execKuPublic p l s) :=
  leads_next (Follows.branch h.kuGo h)

theorem execKuImport_leads {p : Fin 4} {l : Level} (h : s₀.Follows s) : Leads s₀ (execKuImport p l s) :=
  leads_next (Follows.branch h.kuGo h)

theorem execKuAbort_leads {p : Fin 4} {l : Level} (h : s₀.Follows s) : Leads s₀ (execKuAbort p l s) :=
  leads_next (Follows.branch h.kuAbort h)

theorem execKeyExpiry_leads {slot : Fin 256} (h : s₀.Follows s) : Leads s₀ (execKeyExpiry slot s) := by
  refine leads_next (h.whenLive fun _ h => ?_)
  split
  · exact Follows.branch h.emptySlot.keySlotGone h
  · exact h

theorem execAdvanceBlobGeneration_leads {f : Frame} (h : s₀.Follows s) : Leads s₀ (execAdvanceBlobGeneration f s) :=
  leads_next (h.runCmd advanceGenerationAction_keeps)

theorem execRaiseMinimumGeneration_leads {f : Frame} (h : s₀.Follows s) : Leads s₀ (execRaiseMinimumGeneration f s) :=
  leads_next (h.runCmd raiseMinimumAction_keeps)

theorem execZeroise_leads {f : Frame} (h : s₀.Follows s) : Leads s₀ (execZeroise f s) :=
  leads_next (h.runCmd zeroiseAction_keeps)

theorem execEntTake_leads {p : Fin 4} {l : Level} (h : s₀.Follows s) : Leads s₀ (execEntTake p l s) :=
  leads_next (Follows.branch h.entTake h)

theorem execEntropyWaitTimeout_leads {p : Fin 4} (h : s₀.Follows s) : Leads s₀ (execEntropyWaitTimeout p s) :=
  leads_next (h.whenLive (fun _ h => Follows.branch h.takeFault h))

theorem execRawBlockComplete_leads {cell : Fin 4} {bits : BitVec 1024}
    (h : s₀.Follows s) : Leads s₀ (execRawBlockComplete cell bits s) :=
  leads_next (h.whenLive (fun _ h => h.rawBlock))

theorem execDrbgInstantiate_leads {katPass : Bool} (h : s₀.Follows s) : Leads s₀ (execDrbgInstantiate katPass s) :=
  leads_next (h.whenLive (fun _ h => Follows.branch h.instantiate h))

theorem execDrbgReseed_leads (h : s₀.Follows s) : Leads s₀ (execDrbgReseed s) :=
  leads_next (h.whenLive (fun _ h => h.reseed))

theorem execDrbgGenerate_leads (h : s₀.Follows s) : Leads s₀ (execDrbgGenerate s) :=
  leads_next (h.whenLive (fun _ h => h.generateCall))

theorem execTestPatternEnable_leads {f : Frame} (h : s₀.Follows s) : Leads s₀ (execTestPatternEnable f s) :=
  leads_next h.runWrite

theorem execRawCapture_leads {f : Frame} {bits : List Byte} (h : s₀.Follows s) : Leads s₀ (execRawCapture f bits s) :=
  leads_next h.runWrite

theorem execSensorSample_leads {i : SensorInput} (h : s₀.Follows s) : Leads s₀ (execSensorSample i s) :=
  leads_next (h.whenLive (fun _ h => h.sensorSample))

theorem execSwitchDebounceExpiry_leads {i : Fin 4} {level : Bool}
    (h : s₀.Follows s) : Leads s₀ (execSwitchDebounceExpiry i level s) :=
  leads_next (Follows.branch h.switchSample h)

theorem execVcoreGlitch_leads (h : s₀.Follows s) : Leads s₀ (execVcoreGlitch s) :=
  leads_next (h.whenLive (fun _ h => h.onSide.raiseSource))

theorem execSensorRecalibration_leads {k : Fin 9} {ca cb : Int}
    (h : s₀.Follows s) : Leads s₀ (execSensorRecalibration k ca cb s) :=
  leads_next (h.whenLive (fun _ h => h.recalibrate))

theorem execVigilTick_leads (h : s₀.Follows s) : Leads s₀ (execVigilTick s) := leads_next h.vigilTick

theorem execVigilSample_leads {i : VigilInput} (h : s₀.Follows s) : Leads s₀ (execVigilSample i s) :=
  leads_next (Follows.branch h.vigilSample h)

theorem execVigilAckTimeout_leads {source : BitVec 8} (h : s₀.Follows s) : Leads s₀ (execVigilAckTimeout source s) :=
  leads_next (Follows.branch h.vigilRaise h)

theorem execResponseChange_leads {f : Frame} (h : s₀.Follows s) : Leads s₀ (execResponseChange f s) :=
  leads_next h.runWrite

theorem execClearRestraint_leads {f : Frame} (h : s₀.Follows s) : Leads s₀ (execClearRestraint f s) :=
  leads_next (h.runCmd clearRestraintAction_keeps)

theorem execUnlock_leads {f : Frame} (h : s₀.Follows s) : Leads s₀ (execUnlock f s) :=
  leads_next (h.runCmd unlockAction_keeps)

theorem execCellChangeWindow_leads {f : Frame} {vauxInRange : Bool}
    (h : s₀.Follows s) : Leads s₀ (execCellChangeWindow f vauxInRange s) :=
  leads_next (h.runCmd cellWindowAction_keeps)

theorem execCellWindowExpiry_leads (h : s₀.Follows s) : Leads s₀ (execCellWindowExpiry s) :=
    leads_next h.closeCellWindow

theorem execCellRestored_leads (h : s₀.Follows s) : Leads s₀ (execCellRestored s) :=
  leads_next (Follows.branch h.closeCellWindow h)

theorem execEventLogFlush_leads {failedRow : Option Nat} (h : s₀.Follows s) :
    Leads s₀ (execEventLogFlush failedRow s) :=
  leads_next (h.whenLive (fun _ h => Follows.branch h.flushLog h))

theorem execFlush_leads {f : Frame} (h : s₀.Follows s) : Leads s₀ (execFlush f s) :=
  leads_next (h.runCmd flushAction_keeps)

theorem execFlushAgeExpiry_leads (h : s₀.Follows s) : Leads s₀ (execFlushAgeExpiry s) := by
  refine leads_next (h.whenLive fun _ h => ?_)
  split
  · exact Follows.branch h.onTamper h
  · exact h

theorem execEventCursorWrite_leads {f : Frame} (h : s₀.Follows s) : Leads s₀ (execEventCursorWrite f s) :=
  leads_next h.runWrite

theorem execEventWindowRead_leads {f : Frame} (h : s₀.Follows s) : Leads s₀ (execEventWindowRead f s) :=
  leads_next h.runRead

theorem execEventAcknowledgeExport_leads {f : Frame} (h : s₀.Follows s) : Leads s₀ (execEventAcknowledgeExport f s) :=
  leads_next (h.runCmd ackEventsAction_keeps)

theorem execVerifyChain_leads {f : Frame} (h : s₀.Follows s) : Leads s₀ (execVerifyChain f s) :=
  leads_next (h.runCmd verifyAction_keeps)

theorem execEventRingEntryWrite_leads (h : s₀.Follows s) : Leads s₀ (execEventRingEntryWrite s) :=
  leads_next (h.whenLive (fun _ h => h.eventRingEntry))

end State
end Sys2Proof.Machine

/-! SUPPORT. What follows a state through the instructions of a pair. -/

namespace Sys2Proof.Machine
namespace State

set_option Elab.async false

variable {s₀ s : State}

theorem execOpAdd_leads {p : Fin 4} {rd ra rb : Fin 16} (h : s₀.Follows s) : Leads s₀ (execOpAdd p rd ra rb s) :=
  leads_next (h.registerOp keepsCanonical_ok)

theorem execOpAddc_leads {p : Fin 4} {rd ra rb : Fin 16} (h : s₀.Follows s) : Leads s₀ (execOpAddc p rd ra rb s) :=
  leads_next (h.registerOp keepsCanonical_ok)

theorem execOpSub_leads {p : Fin 4} {rd ra rb : Fin 16} (h : s₀.Follows s) : Leads s₀ (execOpSub p rd ra rb s) :=
  leads_next (h.registerOp keepsCanonical_ok)

theorem execOpSubb_leads {p : Fin 4} {rd ra rb : Fin 16} (h : s₀.Follows s) : Leads s₀ (execOpSubb p rd ra rb s) :=
  leads_next (h.registerOp keepsCanonical_ok)

theorem execOpAnd_leads {p : Fin 4} {rd ra rb : Fin 16} (h : s₀.Follows s) : Leads s₀ (execOpAnd p rd ra rb s) :=
  leads_next (h.registerOp keepsCanonical_ok)

theorem execOpOr_leads {p : Fin 4} {rd ra rb : Fin 16} (h : s₀.Follows s) : Leads s₀ (execOpOr p rd ra rb s) :=
  leads_next (h.registerOp keepsCanonical_ok)

theorem execOpXor_leads {p : Fin 4} {rd ra rb : Fin 16} (h : s₀.Follows s) : Leads s₀ (execOpXor p rd ra rb s) :=
  leads_next (h.registerOp keepsCanonical_ok)

theorem execOpAndn_leads {p : Fin 4} {rd ra rb : Fin 16} (h : s₀.Follows s) : Leads s₀ (execOpAndn p rd ra rb s) :=
  leads_next (h.registerOp keepsCanonical_ok)

theorem execOpShl_leads {p : Fin 4} {rd ra rb : Fin 16} (h : s₀.Follows s) : Leads s₀ (execOpShl p rd ra rb s) :=
  leads_next (h.registerOp keepsCanonical_ok)

theorem execOpShr_leads {p : Fin 4} {rd ra rb : Fin 16} (h : s₀.Follows s) : Leads s₀ (execOpShr p rd ra rb s) :=
  leads_next (h.registerOp keepsCanonical_ok)

theorem execOpSar_leads {p : Fin 4} {rd ra rb : Fin 16} (h : s₀.Follows s) : Leads s₀ (execOpSar p rd ra rb s) :=
  leads_next (h.registerOp keepsCanonical_ok)

theorem execOpRol_leads {p : Fin 4} {rd ra rb : Fin 16} (h : s₀.Follows s) : Leads s₀ (execOpRol p rd ra rb s) :=
  leads_next (h.registerOp keepsCanonical_ok)

theorem execOpSlt_leads {p : Fin 4} {rd ra rb : Fin 16} (h : s₀.Follows s) : Leads s₀ (execOpSlt p rd ra rb s) :=
  leads_next (h.registerOp keepsCanonical_ok)

theorem execOpSltu_leads {p : Fin 4} {rd ra rb : Fin 16} (h : s₀.Follows s) : Leads s₀ (execOpSltu p rd ra rb s) :=
  leads_next (h.registerOp keepsCanonical_ok)

theorem execOpSel_leads {p : Fin 4} {rd ra rb : Fin 16} (h : s₀.Follows s) : Leads s₀ (execOpSel p rd ra rb s) :=
  leads_next (h.registerOp keepsCanonical_ok)

theorem execOpClz_leads {p : Fin 4} {rd ra rb : Fin 16} (h : s₀.Follows s) : Leads s₀ (execOpClz p rd ra rb s) :=
  leads_next (h.registerOp keepsCanonical_ok)

theorem keepsCanonical_writePointer {rd : Fin 16} {r : Pair → Option Word} : KeepsCanonical fun q => q.writePointer rd
    (r q) := by
  intro q t ht hq
  unfold Pair.writePointer at ht
  dsimp only at ht
  split at ht
  · cases ht
    exact hq.write
  · cases ht

theorem execOpOdif_leads {p : Fin 4} {rd ra rb : Fin 16} (h : s₀.Follows s) : Leads s₀ (execOpOdif p rd ra rb s) :=
  leads_next (h.registerOp keepsCanonical_writePointer)

theorem execOpOadd_leads {p : Fin 4} {rd ra rb : Fin 16} (h : s₀.Follows s) : Leads s₀ (execOpOadd p rd ra rb s) :=
  leads_next (h.registerOp keepsCanonical_writePointer)

theorem execOpAddi_leads {p : Fin 4} {rd ra : Fin 16} {imm : Imm} (h : s₀.Follows s) :
    Leads s₀ (execOpAddi p rd ra imm s) :=
  leads_next (h.registerOp keepsCanonical_ok)

theorem execOpAndi_leads {p : Fin 4} {rd ra : Fin 16} {imm : Imm} (h : s₀.Follows s) :
    Leads s₀ (execOpAndi p rd ra imm s) :=
  leads_next (h.registerOp keepsCanonical_ok)

theorem execOpOri_leads {p : Fin 4} {rd ra : Fin 16} {imm : Imm} (h : s₀.Follows s) :
    Leads s₀ (execOpOri p rd ra imm s) :=
  leads_next (h.registerOp keepsCanonical_ok)

theorem execOpXori_leads {p : Fin 4} {rd ra : Fin 16} {imm : Imm} (h : s₀.Follows s) :
    Leads s₀ (execOpXori p rd ra imm s) :=
  leads_next (h.registerOp keepsCanonical_ok)

theorem execOpShi_leads {p : Fin 4} {rd ra : Fin 16} {imm : BitVec 9} (h : s₀.Follows s) :
    Leads s₀ (execOpShi p rd ra imm s) := by
  refine leads_next (h.registerOp fun q r hr hq => ?_)
  split at hr
  · cases hr
    exact hq.write
  · cases hr

theorem execOpMovi_leads {p : Fin 4} {rd : Fin 16} {imm : MoviImm} (h : s₀.Follows s) :
    Leads s₀ (execOpMovi p rd imm s) :=
  leads_next (h.registerOp keepsCanonical_ok)

theorem execOpMovhi_leads {p : Fin 4} {rd : Fin 16} {imm : BitVec 24} (h : s₀.Follows s) :
    Leads s₀ (execOpMovhi p rd imm s) :=
  leads_next (h.registerOp keepsCanonical_ok)

theorem execOpOaddi_leads {p : Fin 4} {rd ra : Fin 16} {imm : Imm} (h : s₀.Follows s) :
    Leads s₀ (execOpOaddi p rd ra imm s) :=
  leads_next (h.registerOp keepsCanonical_writePointer)

theorem execOpLdw_leads {p : Fin 4} {rd ra : Fin 16} {disp : Imm} {bus : BusReply}
    (h : s₀.Follows s) : Leads s₀ (execOpLdw p rd ra disp bus s) :=
  leads_next h.loadOp

theorem execOpLdh_leads {p : Fin 4} {rd ra : Fin 16} {disp : Imm} {bus : BusReply}
    (h : s₀.Follows s) : Leads s₀ (execOpLdh p rd ra disp bus s) :=
  leads_next h.loadOp

theorem execOpLdhs_leads {p : Fin 4} {rd ra : Fin 16} {disp : Imm} {bus : BusReply}
    (h : s₀.Follows s) : Leads s₀ (execOpLdhs p rd ra disp bus s) :=
  leads_next h.loadOp

theorem execOpLdo_leads {p : Fin 4} {rd ra : Fin 16} {disp : Imm} {bus : BusReply}
    (h : s₀.Follows s) : Leads s₀ (execOpLdo p rd ra disp bus s) :=
  leads_next h.loadOp

theorem execOpLdos_leads {p : Fin 4} {rd ra : Fin 16} {disp : Imm} {bus : BusReply}
    (h : s₀.Follows s) : Leads s₀ (execOpLdos p rd ra disp bus s) :=
  leads_next h.loadOp

theorem execOpStw_leads {p : Fin 4} {rs ra : Fin 16} {disp : Imm} {bus : BusReply}
    (h : s₀.Follows s) : Leads s₀ (execOpStw p rs ra disp bus s) :=
  leads_next h.storeOp

theorem execOpSth_leads {p : Fin 4} {rs ra : Fin 16} {disp : Imm} {bus : BusReply}
    (h : s₀.Follows s) : Leads s₀ (execOpSth p rs ra disp bus s) :=
  leads_next h.storeOp

theorem execOpSto_leads {p : Fin 4} {rs ra : Fin 16} {disp : Imm} {bus : BusReply}
    (h : s₀.Follows s) : Leads s₀ (execOpSto p rs ra disp bus s) :=
  leads_next h.storeOp

theorem execOpBeq_leads {p : Fin 4} {ra rb : Fin 16} {disp : Imm} (h : s₀.Follows s) :
    Leads s₀ (execOpBeq p ra rb disp s) :=
  leads_next h.conditional

theorem execOpBne_leads {p : Fin 4} {ra rb : Fin 16} {disp : Imm} (h : s₀.Follows s) :
    Leads s₀ (execOpBne p ra rb disp s) :=
  leads_next h.conditional

theorem execOpBlt_leads {p : Fin 4} {ra rb : Fin 16} {disp : Imm} (h : s₀.Follows s) :
    Leads s₀ (execOpBlt p ra rb disp s) :=
  leads_next h.conditional

theorem execOpBge_leads {p : Fin 4} {ra rb : Fin 16} {disp : Imm} (h : s₀.Follows s) :
    Leads s₀ (execOpBge p ra rb disp s) :=
  leads_next h.conditional

theorem execOpBltu_leads {p : Fin 4} {ra rb : Fin 16} {disp : Imm} (h : s₀.Follows s) :
    Leads s₀ (execOpBltu p ra rb disp s) :=
  leads_next h.conditional

theorem execOpBgeu_leads {p : Fin 4} {ra rb : Fin 16} {disp : Imm} (h : s₀.Follows s) :
    Leads s₀ (execOpBgeu p ra rb disp s) :=
  leads_next h.conditional

theorem execOpBz_leads {p : Fin 4} {ra : Fin 16} {disp : Imm} (h : s₀.Follows s) : Leads s₀ (execOpBz p ra disp s) :=
  leads_next h.conditional

theorem execOpBnz_leads {p : Fin 4} {ra : Fin 16} {disp : Imm} (h : s₀.Follows s) : Leads s₀ (execOpBnz p ra disp s) :=
  leads_next h.conditional

theorem execOpBcy_leads {p : Fin 4} {ra : Fin 16} {disp : Imm} (h : s₀.Follows s) : Leads s₀ (execOpBcy p ra disp s) :=
  leads_next h.conditional

theorem execOpBnc_leads {p : Fin 4} {ra : Fin 16} {disp : Imm} (h : s₀.Follows s) : Leads s₀ (execOpBnc p ra disp s) :=
  leads_next h.conditional

theorem execOpBneg_leads {p : Fin 4} {ra : Fin 16} {disp : Imm} (h : s₀.Follows s) :
    Leads s₀ (execOpBneg p ra disp s) :=
  leads_next h.conditional

theorem execOpBpos_leads {p : Fin 4} {ra : Fin 16} {disp : Imm} (h : s₀.Follows s) :
    Leads s₀ (execOpBpos p ra disp s) :=
  leads_next h.conditional

theorem execOpBr_leads {p : Fin 4} {disp : JumpDisp} (h : s₀.Follows s) : Leads s₀ (execOpBr p disp s) :=
  leads_next h.branchOp

theorem execOpCall_leads {p : Fin 4} {disp : JumpDisp} (h : s₀.Follows s) : Leads s₀ (execOpCall p disp s) :=
  leads_next h.branchOp

theorem execOpCallr_leads {p : Fin 4} {ra : Fin 16} (h : s₀.Follows s) : Leads s₀ (execOpCallr p ra s) :=
  leads_next h.branchOp

theorem execOpJr_leads {p : Fin 4} {ra : Fin 16} (h : s₀.Follows s) : Leads s₀ (execOpJr p ra s) :=
    leads_next h.branchOp

theorem execOpRet_leads {p : Fin 4} (h : s₀.Follows s) : Leads s₀ (execOpRet p s) := leads_next h.branchOp

theorem execOpLoop_leads {p : Fin 4} {set : Fin 2} {rc : Fin 16} {e : BitVec 12}
    (h : s₀.Follows s) : Leads s₀ (execOpLoop p set rc e s) :=
  leads_next h.loopOp

theorem execOpLoopi_leads {p : Fin 4} {set : Fin 2} {n : BitVec 12} {e : BitVec 24}
    (h : s₀.Follows s) : Leads s₀ (execOpLoopi p set n e s) :=
  leads_next h.loopOp

theorem execOpLoopx_leads {p : Fin 4} {imm : BitVec 8} (h : s₀.Follows s) : Leads s₀ (execOpLoopx p imm s) :=
  leads_next (h.registerOp keepsCanonical_ok)

theorem execOpMul_leads {p : Fin 4} {rd ra rb : Fin 16} (h : s₀.Follows s) : Leads s₀ (execOpMul p rd ra rb s) :=
  leads_next (h.registerOp keepsCanonical_ok)

theorem execOpMulhu_leads {p : Fin 4} {rd ra rb : Fin 16} (h : s₀.Follows s) : Leads s₀ (execOpMulhu p rd ra rb s) :=
  leads_next (h.registerOp keepsCanonical_ok)

theorem execOpMulhs_leads {p : Fin 4} {rd ra rb : Fin 16} (h : s₀.Follows s) : Leads s₀ (execOpMulhs p rd ra rb s) :=
  leads_next (h.registerOp keepsCanonical_ok)

theorem execOpMfmh_leads {p : Fin 4} {rd : Fin 16} (h : s₀.Follows s) : Leads s₀ (execOpMfmh p rd s) :=
  leads_next (h.registerOp keepsCanonical_ok)

theorem execOpMtmh_leads {p : Fin 4} {ra : Fin 16} (h : s₀.Follows s) : Leads s₀ (execOpMtmh p ra s) :=
  leads_next (h.registerOp keepsCanonical_ok)

theorem execOpMadd_leads {p : Fin 4} {rd ra rb rc : Fin 16} (h : s₀.Follows s) :
    Leads s₀ (execOpMadd p rd ra rb rc s) :=
  leads_next (h.registerOp keepsCanonical_ok)

theorem execOpMovo_leads {p : Fin 4} {count : Nat} (h : s₀.Follows s) : Leads s₀ (execOpMovo p count s) :=
  leads_next h.stringOp

theorem execOpMovod_leads {p : Fin 4} {count : Nat} (h : s₀.Follows s) : Leads s₀ (execOpMovod p count s) :=
  leads_next h.stringOp

theorem execOpMovw_leads {p : Fin 4} {count : Nat} (h : s₀.Follows s) : Leads s₀ (execOpMovw p count s) :=
  leads_next h.stringOp

theorem execOpFillo_leads {p : Fin 4} {ra : Fin 16} {count : Nat} (h : s₀.Follows s) :
    Leads s₀ (execOpFillo p ra count s) :=
  leads_next h.stringOp

theorem execOpFillw_leads {p : Fin 4} {ra : Fin 16} {count : Nat} (h : s₀.Follows s) :
    Leads s₀ (execOpFillw p ra count s) :=
  leads_next h.stringOp

theorem execOpSys_leads {p : Fin 4} {imm : BitVec 8} (h : s₀.Follows s) : Leads s₀ (execOpSys p imm s) :=
  leads_next (h.issue h.sysBody)

theorem execOpEret_leads {p : Fin 4} (h : s₀.Follows s) : Leads s₀ (execOpEret p s) := leads_next (h.issue h.eretBody)

theorem keepsCanonical_setMask {v : Word} : KeepsCanonical (Pair.setMask v) := by
  intro q r hr hq
  unfold Pair.setMask at hr
  dsimp only at hr
  split at hr
  · cases hr
    exact hq.writeAfter
  · cases hr

theorem execOpSetml_leads {p : Fin 4} {imm : BitVec 8} (h : s₀.Follows s) : Leads s₀ (execOpSetml p imm s) := by
  refine leads_next (h.registerOp fun q r hr hq => ?_)
  split at hr
  · cases hr
  · exact keepsCanonical_setMask q r hr hq

theorem execOpMfsr_leads {p : Fin 4} {rd : Fin 16} {imm : BitVec 8} (h : s₀.Follows s) :
    Leads s₀ (execOpMfsr p rd imm s) := by
  refine leads_next (h.registerOp fun q r hr hq => ?_)
  split at hr
  · cases hr
  · split at hr
    · cases hr
    · cases hr
      exact hq.write

/-- MTSR writes registers, of the pair or of its return stacks; no write of one touches a memory. -/
theorem keepsCanonical_setSpecial {n : Nat} {v : Word} : KeepsCanonical (Pair.setSpecial n v) := by
  intro q r hr hq
  have hmonitor : ∀ {n : Nat} {t : Pair}, (if q.level = .monitor then Except.ok t else .error (privilegeTrap n)) = .ok
      r →
      t.Canonical → r.Canonical := by
    intro n t ht hcanonical
    split at ht
    · cases ht
      exact hcanonical
    · cases ht
  unfold Pair.setSpecial at hr
  dsimp only at hr
  split at hr
  case h_1 | h_3 | h_4 | h_5 | h_6 | h_7 | h_8 | h_9 =>
    cases hr
    exact hq
  case h_2 => exact keepsCanonical_setMask q r hr hq
  case h_10 | h_11 | h_12 | h_13 | h_14 | h_15 | h_16 | h_17 | h_18 | h_19 | h_20 | h_21 => exact hmonitor hr hq
  all_goals cases hr

theorem execOpMtsr_leads {p : Fin 4} {imm : BitVec 8} {ra : Fin 16} (h : s₀.Follows s) :
    Leads s₀ (execOpMtsr p imm ra s) :=
  leads_next (h.registerOp fun q => keepsCanonical_setSpecial q)

theorem execOpFence_leads {p : Fin 4} (h : s₀.Follows s) : Leads s₀ (execOpFence p s) :=
    leads_next (h.registerOp keepsCanonical_ok)

theorem execOpIfence_leads {p : Fin 4} (h : s₀.Follows s) : Leads s₀ (execOpIfence p s) :=
  leads_next (h.registerOp (keepsCanonical_ok fun _ hq => ⟨hq.1, memWf_filter hq.1⟩))

theorem execOpGfence_leads {p : Fin 4}
    (h : s₀.Follows s) : Leads s₀ (execOpGfence p s) := leads_next (h.registerOp keepsCanonical_ok)

theorem execOpWait_leads {p : Fin 4} (h : s₀.Follows s) : Leads s₀ (execOpWait p s) :=
  leads_next (h.issue (Follows.onPair h.complete))

theorem execOpBrk_leads {p : Fin 4} {imm : BitVec 8} (h : s₀.Follows s) : Leads s₀ (execOpBrk p imm s) :=
  leads_next (h.issue h.breakpoint)

theorem execOpPush_leads {p : Fin 4} {ra : Fin 16} (h : s₀.Follows s) : Leads s₀ (execOpPush p ra s) :=
  leads_next (h.issue h.pushBody)

theorem execOpPop_leads {p : Fin 4} {rd : Fin 16} (h : s₀.Follows s) : Leads s₀ (execOpPop p rd s) :=
  leads_next (h.issue h.popBody)

theorem execOpRsspill_leads {p : Fin 4} {imm : BitVec 8} (h : s₀.Follows s) : Leads s₀ (execOpRsspill p imm s) :=
  leads_next (h.issue h.spillBody)

theorem execIllegalInstruction_leads {p : Fin 4} {parcel0 parcel1 : BitVec 24} (h : s₀.Follows s) :
    Leads s₀ (execIllegalInstruction p parcel0 parcel1 s) := leads_next (Follows.branch (h.issue h) h)

end State
end Sys2Proof.Machine

/-! SUPPORT. What follows a state through commands of the pairs, flash, the tag, cards, clocks and power. -/

namespace Sys2Proof.Machine
namespace State

set_option Elab.async false

variable {s₀ s : State}

theorem execInterrupt_leads {p : Fin 4} (h : s₀.Follows s) : Leads s₀ (execInterrupt p s) := leads_next h.takeInterrupt

theorem execIclear_leads {p : Fin 4} {l : Level} {value : Word} (h : s₀.Follows s) :
    Leads s₀ (execIclear p l value s) :=
  leads_next h.pairWrite

theorem execDoorbell_leads {p : Fin 4} {l : Level} {value : Word} (h : s₀.Follows s) :
    Leads s₀ (execDoorbell p l value s) :=
  leads_next h.pairWrite

theorem execTimerExpiry_leads {p : Fin 4} {t : Fin 2} (h : s₀.Follows s) : Leads s₀ (execTimerExpiry p t s) :=
  leads_next (h.whenLive (fun _ h => Follows.branch h h.onPair))

theorem execPcovfWrite_leads {p : Fin 4} {l : Level} {value : Word}
    (h : s₀.Follows s) : Leads s₀ (execPcovfWrite p l value s) :=
  leads_next h.pairWrite

theorem execGauntletRuleWrite_leads {p : Fin 4} {l : Level} {gate : Fin 14} {rule : Fin 16} {value : Word}
    (h : s₀.Follows s) : Leads s₀ (execGauntletRuleWrite p l gate rule value s) :=
  leads_next h.pairWrite

theorem execGateFence_leads {f : Frame} (h : s₀.Follows s) : Leads s₀ (execGateFence f s) :=
  leads_next (h.runCmd gateFenceAction_keeps)

theorem execFcKey_leads {p : Fin 4} {value : Word} (h : s₀.Follows s) : Leads s₀ (execFcKey p value s) :=
  leads_next (Follows.branch h.fcKeyWrite h)

theorem execWordProgram_leads {via : FlashVia} (h : s₀.Follows s) : Leads s₀ (execWordProgram via s) :=
  leads_next h.flashCommand

theorem execRowProgram_leads {via : FlashVia} (h : s₀.Follows s) : Leads s₀ (execRowProgram via s) :=
  leads_next h.flashCommand

theorem execSectorErase_leads {via : FlashVia} (h : s₀.Follows s) : Leads s₀ (execSectorErase via s) :=
  leads_next h.flashCommand

theorem execEraseSuspend_leads {via : FlashVia} (h : s₀.Follows s) : Leads s₀ (execEraseSuspend via s) :=
  leads_next h.flashCommand

theorem execEraseResume_leads {via : FlashVia} (h : s₀.Follows s) : Leads s₀ (execEraseResume via s) :=
  leads_next h.flashCommand

theorem execRetireWord_leads {via : FlashVia} (h : s₀.Follows s) : Leads s₀ (execRetireWord via s) :=
  leads_next h.flashCommand

theorem execMarginRead_leads {via : FlashVia} (h : s₀.Follows s) : Leads s₀ (execMarginRead via s) :=
  leads_next h.flashCommand

theorem execCounterIncrement_leads {via : FlashVia} (h : s₀.Follows s) : Leads s₀ (execCounterIncrement via s) :=
  leads_next h.flashCommand

theorem execCounterSet_leads {via : FlashVia} (h : s₀.Follows s) : Leads s₀ (execCounterSet via s) :=
  leads_next h.flashCommand

theorem execOptionRewrite_leads {via : FlashVia} (h : s₀.Follows s) : Leads s₀ (execOptionRewrite via s) :=
  leads_next h.flashCommand

theorem execFlashLifecycleAdvance_leads {via : FlashVia} (h : s₀.Follows s) :
    Leads s₀ (execFlashLifecycleAdvance via s) :=
  leads_next h.flashCommand

theorem execFcAbort_leads {p : Fin 4} (h : s₀.Follows s) : Leads s₀ (execFcAbort p s) :=
  leads_next (Follows.branch h.fcAbort h)

theorem execFqTailWrite_leads {p : Fin 4} {value : Word} (h : s₀.Follows s) : Leads s₀ (execFqTailWrite p value s) :=
  leads_next (Follows.branch h.fqTail h)

theorem execFqAbort_leads {p : Fin 4} {value : Word} (h : s₀.Follows s) : Leads s₀ (execFqAbort p value s) :=
  leads_next (Follows.branch h.fqAbort h)

theorem execFlashOperationComplete_leads {bank : Fin 2} {e : FlashEnd}
    (h : s₀.Follows s) : Leads s₀ (execFlashOperationComplete bank e s) :=
  leads_next (h.whenLive (fun _ h => h.flashComplete))

theorem execPeriodicMarginRead_leads {failing : Nat} {corrected : Bool}
    (h : s₀.Follows s) : Leads s₀ (execPeriodicMarginRead failing corrected s) :=
  leads_next (h.whenLive (fun _ h => Follows.branch h h.marginStep))

theorem execMarginPass_leads {f : Frame} (h : s₀.Follows s) : Leads s₀ (execMarginPass f s) :=
  leads_next (h.runCmd marginPassAction_keeps)

theorem execReqa_leads (h : s₀.Follows s) : Leads s₀ (execReqa s) :=
  leads_next (h.whenTag (fun _ h => Follows.branch h.tagState.tagSend h.tagUnexpected))

theorem execWupa_leads (h : s₀.Follows s) : Leads s₀ (execWupa s) :=
  leads_next (h.whenTag (fun _ h => Follows.branch h.tagState.tagSend (Follows.branch h.tagState.tagSend
    h.tagUnexpected)))

theorem execAnticollision_leads {level : Fin 2} {bits : List Bool}
    (h : s₀.Follows s) : Leads s₀ (execAnticollision level bits s) :=
  leads_next (h.whenTag (fun _ h => Follows.branch h.tagUnexpected (Follows.branch h.tagSend h)))

theorem execTagSelect_leads {level : Fin 2} {uid : List Byte} (h : s₀.Follows s) :
    Leads s₀ (execTagSelect level uid s) :=
  leads_next (h.whenTag (fun _ h => Follows.branch h.tagUnexpected (Follows.branch h.tagState.tagSend
    h.tagState.tagSend)))

theorem execHlta_leads (h : s₀.Follows s) : Leads s₀ (execHlta s) :=
  leads_next (h.whenTag (fun _ h => Follows.branch h.tagState h.tagUnexpected))

theorem execRats_leads (h : s₀.Follows s) : Leads s₀ (execRats s) :=
  leads_next (h.whenTag (fun _ h => Follows.branch h.onTag.tagSend h.tagUnexpected))

theorem execPps_leads (h : s₀.Follows s) : Leads s₀ (execPps s) := leads_next h

theorem execRBlock_leads {ack number : Bool} (h : s₀.Follows s) : Leads s₀ (execRBlock ack number s) :=
  leads_next (h.whenTag (fun _ h => Follows.branch h.tagUnexpected (Follows.branch h.tagSend (Follows.branch h
    h.tagSend))))

theorem execSDeselect_leads (h : s₀.Follows s) : Leads s₀ (execSDeselect s) :=
  leads_next (h.whenTag (fun _ h => Follows.branch h.onTag.tagSend h.tagUnexpected))

theorem execDoff_leads (h : s₀.Follows s) : Leads s₀ (execDoff s) :=
  leads_next (h.whenTag (fun _ h => Follows.branch h.tagSend.bump.tagState.onVigil (Follows.branch h h.tagUnexpected)))

theorem execApduSelect_leads {aid : List Byte} (h : s₀.Follows s) : Leads s₀ (execApduSelect aid s) :=
  leads_next (h.whenProtocol (fun _ h => Follows.branch h.onTag.apduAnswer h.apduAnswer))

theorem execReadRecord_leads {r : Fin 256} (h : s₀.Follows s) : Leads s₀ (execReadRecord r s) := by
  refine leads_next (h.whenSelected fun _ h => ?_)
  split
  · exact h.apduAnswer
  · split
    · split
      · exact h.apduAnswer
      · exact h.apduAnswer
    · exact h.apduAnswer

theorem execWriteRecord_leads {r : Fin 256} {data : List Byte} {more : Bool}
    (h : s₀.Follows s) : Leads s₀ (execWriteRecord r data more s) :=
  leads_next (h.whenSelected (fun _ h => Follows.branch h.onTag.tagSend (Follows.branch h.onTag.apduAnswer
    (Follows.branch h.onTag.apduAnswer h.onTag.writeTag.apduAnswer))))

theorem execDirectory_leads (h : s₀.Follows s) : Leads s₀ (execDirectory s) :=
  leads_next (h.whenSelected (fun _ h => h.apduAnswer))

theorem execEnvelope_leads {f : Frame} (h : s₀.Follows s) : Leads s₀ (execEnvelope f s) :=
  leads_next (h.whenSelected (fun _ h => Follows.branch h.apduAnswer h.countFreezeWrite.tagRequest))

theorem execUnknownApdu_leads (h : s₀.Follows s) : Leads s₀ (execUnknownApdu s) :=
  leads_next (h.whenProtocol (fun _ h => h.apduAnswer))

theorem execFieldOn_leads (h : s₀.Follows s) : Leads s₀ (execFieldOn s) := leads_next (Follows.branch h.onTag h)

theorem execFieldLoss_leads (h : s₀.Follows s) : Leads s₀ (execFieldLoss s) := leads_next h.settleWrites.onTag

theorem execDoffDeadline_leads (h : s₀.Follows s) : Leads s₀ (execDoffDeadline s) := by
  refine leads_next ?_
  split
  · exact Follows.branch h.leaveDoff h
  · exact h

theorem execEndDoff_leads {f : Frame} (h : s₀.Follows s) : Leads s₀ (execEndDoff f s) :=
  leads_next (h.runCmd endDoffAction_keeps)

theorem execWiredRecordWrite_leads {f : Frame} {held : Option (Fin 32)}
    (h : s₀.Follows s) : Leads s₀ (execWiredRecordWrite f held s) :=
  leads_next h.runWrite

theorem execReaderPoll_leads {external : Bool} {tokens : List (List Byte)}
    (h : s₀.Follows s) : Leads s₀ (execReaderPoll external tokens s) :=
  leads_next (h.whenLive (fun _ h => h.readerPoll))

theorem execTokenAuthentication_leads {t : TokenReply} (h : s₀.Follows s) : Leads s₀ (execTokenAuthentication t s) :=
  leads_next (h.whenLive (fun _ h => h.authenticate))

theorem execPresentationTimeout_leads (h : s₀.Follows s) : Leads s₀ (execPresentationTimeout s) :=
  leads_next (h.whenLive (fun _ h => (Follows.branch h.bumpBy h).closePresentation))

theorem execRosterAdd_leads {f : Frame} (h : s₀.Follows s) : Leads s₀ (execRosterAdd f s) :=
  leads_next (h.runCmd rosterAddAction_keeps)

theorem execRosterRevoke_leads {f : Frame} (h : s₀.Follows s) : Leads s₀ (execRosterRevoke f s) :=
  leads_next (h.runCmd rosterRevokeAction_keeps)

theorem execCardInsertion_leads {k : Fin 4} {c : CardReply} (h : s₀.Follows s) : Leads s₀ (execCardInsertion k c s) :=
  leads_next (h.whenLive (fun _ h => h.insertCard))

theorem execCardRemoval_leads {k : Fin 4} {answers : List Bool} (h : s₀.Follows s) :
    Leads s₀ (execCardRemoval k answers s) :=
  leads_next (h.whenLive (fun _ h => h.removeCard.turnCards))

theorem execCardArchive_leads (h : s₀.Follows s) : Leads s₀ (execCardArchive s) :=
  leads_next (h.whenLive (fun _ h => h.archive))

theorem execCardWriteBusyEnd_leads (h : s₀.Follows s) : Leads s₀ (execCardWriteBusyEnd s) :=
  leads_next (h.whenLive (fun _ h => h.busyEnd))

theorem execCardStatusResponse_leads {r : CardStatus} (h : s₀.Follows s) : Leads s₀ (execCardStatusResponse r s) :=
  leads_next (h.whenLive (fun _ h => h.cardStatus))

theorem execCardBusyTimeout_leads (h : s₀.Follows s) : Leads s₀ (execCardBusyTimeout s) := by
  refine leads_next (h.whenLive fun _ h => ?_)
  split
  · exact Follows.branch h.missCard h
  · exact h

theorem execJournalResolution_leads {index : Fin 4} {content : List Byte} {rewriteOk : Bool}
    (h : s₀.Follows s) : Leads s₀ (execJournalResolution index content rewriteOk s) :=
  leads_next (h.whenLive (fun _ h => h.resolveEntry))

theorem execPrepareCard_leads {f : Frame} (h : s₀.Follows s) : Leads s₀ (execPrepareCard f s) :=
  leads_next (h.runCmd prepareAction_keeps)

theorem execStageImage_leads {f : Frame} (h : s₀.Follows s) : Leads s₀ (execStageImage f s) :=
  leads_next (h.runCmd stageAction_keeps)

theorem execIslandEntry_leads {i : Fin 26} {idle : Nat} (h : s₀.Follows s) : Leads s₀ (execIslandEntry i idle s) :=
  leads_next (h.whenLive (fun _ h => h.islandEntry))

theorem execIslandWake_leads {i : Fin 26} (h : s₀.Follows s) : Leads s₀ (execIslandWake i s) :=
  leads_next (h.whenLive (fun _ h => h.wakeIsland))

theorem execIslandExitComplete_leads {i : Fin 26} (h : s₀.Follows s) : Leads s₀ (execIslandExitComplete i s) :=
  leads_next (h.whenLive (fun _ h => h.onIsland))

theorem execHostLatencyToleranceWrite_leads {f : Frame} (h : s₀.Follows s) :
    Leads s₀ (execHostLatencyToleranceWrite f s) :=
  leads_next h.runWrite

theorem execReportedLtrWrite_leads {f : Frame} (h : s₀.Follows s) : Leads s₀ (execReportedLtrWrite f s) :=
  leads_next h.runWrite

theorem execReferenceClockLoss_leads (h : s₀.Follows s) : Leads s₀ (execReferenceClockLoss s) :=
  leads_next (h.whenLive (fun _ h => Follows.branch h (Follows.branch h.onPower.onPower.bumpBy.raiseSource h.onPower)))

theorem execReferenceClockReturn_leads {inRange : Bool} (h : s₀.Follows s) :
    Leads s₀ (execReferenceClockReturn inRange s) :=
  leads_next (h.whenLive (fun _ h => Follows.branch h (Follows.branch h.onPower.pllLost (Follows.branch
    h.onPower.onPower h.onPower))))

theorem execPllLossOfLock_leads (h : s₀.Follows s) : Leads s₀ (execPllLossOfLock s) :=
  leads_next (h.whenLive (fun _ h => h.pllLost))

theorem execPllRelock_leads (h : s₀.Follows s) : Leads s₀ (execPllRelock s) :=
  leads_next (h.whenLive (fun _ h => Follows.branch h h.onPower.bumpBy.raiseSource))

theorem execCrystalStop_leads (h : s₀.Follows s) : Leads s₀ (execCrystalStop s) :=
  leads_next (Follows.branch h.onVigil.vigilWatch h)

theorem execPcieRefclockLoss_leads (h : s₀.Follows s) : Leads s₀ (execPcieRefclockLoss s) :=
  leads_next (h.whenLive (fun _ h => h.onPower.pcieReset))

theorem execVigilCopyCheck_leads (h : s₀.Follows s) : Leads s₀ (execVigilCopyCheck s) :=
  leads_next (h.whenLive (fun _ h => Follows.branch h h.copyTime.raiseSource))

theorem execCrystalMeasurement_leads {count : Nat} {meanA0 : Int}
    (h : s₀.Follows s) : Leads s₀ (execCrystalMeasurement count meanA0 s) :=
  leads_next (h.whenLive (fun _ h => h.crystalMeasured))

theorem execTrimUpdate_leads (h : s₀.Follows s) : Leads s₀ (execTrimUpdate s) :=
    leads_next (Follows.branch h.updateTrim h)

theorem execSlew_leads {f : Frame} (h : s₀.Follows s) : Leads s₀ (execSlew f s) :=
  leads_next (h.runCmd slewAction_keeps)

theorem execSlewStep_leads (h : s₀.Follows s) : Leads s₀ (execSlewStep s) := leads_next h.slewStep

theorem execSetVigilTime_leads {f : Frame} (h : s₀.Follows s) : Leads s₀ (execSetVigilTime f s) :=
  leads_next (h.runCmd setTimeAction_keeps)

theorem execSnapshot_leads {f : Frame} (h : s₀.Follows s) : Leads s₀ (execSnapshot f s) :=
  leads_next (h.runCmd snapshotAction_keeps)

theorem execPerformanceDump_leads (h : s₀.Follows s) : Leads s₀ (execPerformanceDump s) :=
  leads_next (h.whenLive (fun _ h => Follows.branch h h.snapshot))

theorem execFreezePin_leads {lowNs : Nat} (h : s₀.Follows s) : Leads s₀ (execFreezePin lowNs s) :=
  leads_next (h.whenLive (fun _ h => Follows.branch h (Follows.branch h.onPower h.ignoredFreeze)))

theorem execFreeze_leads {f : Frame} (h : s₀.Follows s) : Leads s₀ (execFreeze f s) :=
  leads_next (h.countFreezeWrite.runCmd freezeAction_keeps)

theorem execFreezeCommandDelay_leads (h : s₀.Follows s) : Leads s₀ (execFreezeCommandDelay s) :=
  leads_next (h.whenLive (fun _ h => Follows.branch h.onPower h))

theorem execReadoutRead_leads {addr count : Nat} (h : s₀.Follows s) : Leads s₀ (execReadoutRead addr count s) :=
  leads_next (h.whenReadout (fun _ h => h.send))

theorem execReadoutRelease_leads {addr : Nat} {env : StartEnv} (h : s₀.Follows s) :
    Leads s₀ (execReadoutRelease addr env s) :=
  leads_next (h.whenReadout (fun _ h => Follows.branch h.send (Follows.branch h.send h.send.deviceReset)))

theorem execReadoutUnknownCommand_leads {command : BitVec 8}
    (h : s₀.Follows s) : Leads s₀ (execReadoutUnknownCommand command s) :=
  leads_next (h.whenReadout (fun _ h => Follows.branch h h.send))

theorem execRegisterWrite_leads {r : PlainReg} {value : Word} (h : s₀.Follows s) :
    Leads s₀ (execRegisterWrite r value s) :=
  leads_next (h.whenLive (fun _ h => h.writeRegister))

theorem execPcieLinkUp_leads {ltr : Bool} (h : s₀.Follows s) : Leads s₀ (execPcieLinkUp ltr s) :=
  leads_next (h.whenLive (fun _ h => Follows.branch h h.onPower.onDict.sendLtr))

theorem execPcieLinkL1Transition_leads {enter : Bool} (h : s₀.Follows s) :
    Leads s₀ (execPcieLinkL1Transition enter s) :=
  leads_next (h.whenLive (fun _ h => Follows.branch h (Follows.branch h.onPower.wakeIsland h.onPower)))

theorem execXt32Return_leads (h : s₀.Follows s) : Leads s₀ (execXt32Return s) :=
  leads_next (Follows.branch h.onVigil.vigilWatch h)

theorem execVigilSupplyLoss_leads {lost : Bool} (h : s₀.Follows s) : Leads s₀ (execVigilSupplyLoss lost s) :=
  leads_next (Follows.branch h h.onVigil)

theorem execPairJobAbortBound_leads {slot : Fin 4096} (h : s₀.Follows s) : Leads s₀ (execPairJobAbortBound slot s) := by
  refine leads_next (h.whenLive fun _ h => ?_)
  split
  · exact Follows.branch h.endJob h
  · exact h

theorem execEraseMinimumRunExpiry_leads {bank : Fin 2} (h : s₀.Follows s) :
    Leads s₀ (execEraseMinimumRunExpiry bank s) := by
  refine leads_next (h.whenLive fun _ h => ?_)
  split
  · exact Follows.branch h.onBank.pump h
  · exact h

theorem execFaultInjectionCanary_leads {block : CanaryBlock} (h : s₀.Follows s) :
    Leads s₀ (execFaultInjectionCanary block s) :=
  leads_next (h.whenLive (fun _ h => h.occur))

theorem execBoundaryScan_leads {tms tdi : Bool} (h : s₀.Follows s) : Leads s₀ (execBoundaryScan tms tdi s) :=
  leads_next (h.whenLive (fun _ h => Follows.branch h.drawFree.send h))

theorem execMctpControlResponse_leads {r : MctpReply} (h : s₀.Follows s) : Leads s₀ (execMctpControlResponse r s) :=
  leads_next (h.whenLive (fun _ h => h.mctpReply))

end State
end Sys2Proof.Machine

/-! SUPPORT. Every command leads to a state that follows its own (O3), and with it every step (O5). -/

namespace Sys2Proof.Machine
namespace State

set_option Elab.async false

/-- A command's next state follows whatever its state follows: one lemma per command, by its name. -/
theorem exec_leads {s₀ s : State} (c : Instr) (h : s₀.Follows s) : Leads s₀ (exec c s) := by
  cases c with
  | mainPowerArrives => exact execMainPowerArrives_leads h
  | bootWatchdogExpiry => exact execBootWatchdogExpiry_leads h
  | vio33InRange => exact execVio33InRange_leads h
  | vauxRise => exact execVauxRise_leads h
  | vauxFall => exact execVauxFall_leads h
  | pfailNFall => exact execPfailNFall_leads h
  | pfailNRise => exact execPfailNRise_leads h
  | mainPowerLoss => exact execMainPowerLoss_leads h
  | gateEntry => exact execGateEntry_leads h
  | channelFlashInit => exact execChannelFlashInit_leads h
  | prescanBurst => exact execPrescanBurst_leads h
  | prescanBurstStall => exact execPrescanBurstStall_leads h
  | manifestVerification => exact execManifestVerification_leads h
  | regionVerdict => exact execRegionVerdict_leads h
  | recoveryComplete => exact execRecoveryComplete_leads h
  | gateAttestationCutoff => exact execGateAttestationCutoff_leads h
  | primaryRecordAppend => exact execPrimaryRecordAppend_leads h
  | primaryRecordLate => exact execPrimaryRecordLate_leads h
  | holdRelease => exact execHoldRelease_leads h
  | lockstepMismatch => exact execLockstepMismatch_leads h
  | pairReturnToService => exact execPairReturnToService_leads h
  | patrolScrubVisit => exact execPatrolScrubVisit_leads h
  | busKeyReplacement => exact execBusKeyReplacement_leads h
  | hourlySave => exact execHourlySave_leads h
  | dexRead => exact execDexRead_leads h
  | dexWrite => exact execDexWrite_leads h
  | forbiddenKindFrame => exact execForbiddenKindFrame_leads h
  | setupStep1 => exact execSetupStep1_leads h
  | setupStep3 => exact execSetupStep3_leads h
  | setupTimeout => exact execSetupTimeout_leads h
  | elevate => exact execElevate_leads h
  | officerElevation => exact execOfficerElevation_leads h
  | closeSession => exact execCloseSession_leads h
  | sessionIdleTimeout => exact execSessionIdleTimeout_leads h
  | segmentGapTimeout => exact execSegmentGapTimeout_leads h
  | dictionaryTickClose => exact execDictionaryTickClose_leads h
  | persistCommitDone => exact execPersistCommitDone_leads h
  | cmdAbort => exact execCmdAbort_leads h
  | publish => exact execPublish_leads h
  | mailboxDoorbell => exact execMailboxDoorbell_leads h
  | mailboxAck => exact execMailboxAck_leads h
  | networkPacketDrop => exact execNetworkPacketDrop_leads h
  | icmpv6Echo => exact execIcmpv6Echo_leads h
  | neighbourDiscovery => exact execNeighbourDiscovery_leads h
  | modeRequest => exact execModeRequest_leads h
  | lifecycleAdvance => exact execLifecycleAdvance_leads h
  | commitProvisioning => exact execCommitProvisioning_leads h
  | deviceReset => exact execDeviceReset_leads h
  | hotRestart => exact execHotRestart_leads h
  | hotRestartComplete => exact execHotRestartComplete_leads h
  | boardBoot => exact execBoardBoot_leads h
  | pePerstNAssert => exact execPePerstNAssert_leads h
  | perstBoardBoot => exact execPerstBoardBoot_leads h
  | retire => exact execRetire_leads h
  | maintainLimitExpiry => exact execMaintainLimitExpiry_leads h
  | ceremonyLimitExpiry => exact execCeremonyLimitExpiry_leads h
  | installImage => exact execInstallImage_leads h
  | installFromCard => exact execInstallFromCard_leads h
  | functionEnable => exact execFunctionEnable_leads h
  | functionDisable => exact execFunctionDisable_leads h
  | functionDrainComplete => exact execFunctionDrainComplete_leads h
  | functionStartComplete => exact execFunctionStartComplete_leads h
  | hostFastRead => exact execHostFastRead_leads h
  | readId => exact execReadId_leads h
  | readSfdp => exact execReadSfdp_leads h
  | readStatus => exact execReadStatus_leads h
  | hostRegisterRead => exact execHostRegisterRead_leads h
  | writeEnable => exact execWriteEnable_leads h
  | writeDisable => exact execWriteDisable_leads h
  | hostPageProgram => exact execHostPageProgram_leads h
  | hostSectorErase => exact execHostSectorErase_leads h
  | hostSuspend => exact execHostSuspend_leads h
  | hostResume => exact execHostResume_leads h
  | setHostProtocol => exact execSetHostProtocol_leads h
  | enter4Byte => exact execEnter4Byte_leads h
  | exit4Byte => exact execExit4Byte_leads h
  | resetEnable => exact execResetEnable_leads h
  | softReset => exact execSoftReset_leads h
  | deepPowerDown => exact execDeepPowerDown_leads h
  | releaseDeepPowerDown => exact execReleaseDeepPowerDown_leads h
  | chipErase => exact execChipErase_leads h
  | hostRegisterWrite => exact execHostRegisterWrite_leads h
  | hostUnknownCommand => exact execHostUnknownCommand_leads h
  | hostProtocolError => exact execHostProtocolError_leads h
  | hostClockExcess => exact execHostClockExcess_leads h
  | forwardedOpComplete => exact execForwardedOpComplete_leads h
  | pinnedReloadComplete => exact execPinnedReloadComplete_leads h
  | dqsRetrain => exact execDqsRetrain_leads h
  | channelLogicError => exact execChannelLogicError_leads h
  | channelRestartComplete => exact execChannelRestartComplete_leads h
  | haltOverride => exact execHaltOverride_leads h
  | manifestWrite => exact execManifestWrite_leads h
  | fillIn => exact execFillIn_leads h
  | roundAgeVisit => exact execRoundAgeVisit_leads h
  | sweep => exact execSweep_leads h
  | i3cDiscovery => exact execI3cDiscovery_leads h
  | discoveryTimeout => exact execDiscoveryTimeout_leads h
  | hotJoin => exact execHotJoin_leads h
  | endpointIdAssigned => exact execEndpointIdAssigned_leads h
  | spdmResponse => exact execSpdmResponse_leads h
  | spdmTimeout => exact execSpdmTimeout_leads h
  | spdmRetryWait => exact execSpdmRetryWait_leads h
  | spdmSlotTimeLimit => exact execSpdmSlotTimeLimit_leads h
  | serveCollectionWindowExpiry => exact execServeCollectionWindowExpiry_leads h
  | closeServeCollection => exact execCloseServeCollection_leads h
  | attestationHoldOverride => exact execAttestationHoldOverride_leads h
  | getVersion => exact execGetVersion_leads h
  | getCapabilities => exact execGetCapabilities_leads h
  | negotiateAlgorithms => exact execNegotiateAlgorithms_leads h
  | getDigests => exact execGetDigests_leads h
  | getCertificate => exact execGetCertificate_leads h
  | challenge => exact execChallenge_leads h
  | getMeasurements => exact execGetMeasurements_leads h
  | respondIfReady => exact execRespondIfReady_leads h
  | spdmUnsupportedRequest => exact execSpdmUnsupportedRequest_leads h
  | doeDiscovery => exact execDoeDiscovery_leads h
  | supplementPendingTimeout => exact execSupplementPendingTimeout_leads h
  | supplementPeriodExpiry => exact execSupplementPeriodExpiry_leads h
  | supplementRequest => exact execSupplementRequest_leads h
  | ledgerSignaturesVerified => exact execLedgerSignaturesVerified_leads h
  | ledgerRoomAvailable => exact execLedgerRoomAvailable_leads h
  | ledgerCommit => exact execLedgerCommit_leads h
  | ledgerPreErase => exact execLedgerPreErase_leads h
  | ledgerKeyRollover => exact execLedgerKeyRollover_leads h
  | acknowledgeExport => exact execAcknowledgeExport_leads h
  | windowCursorWrite => exact execWindowCursorWrite_leads h
  | windowRecordRead => exact execWindowRecordRead_leads h
  | ringCtrlWrite => exact execRingCtrlWrite_leads h
  | ringConsWrite => exact execRingConsWrite_leads h
  | ringFrameWrite => exact execRingFrameWrite_leads h
  | tagSummaryWrite => exact execTagSummaryWrite_leads h
  | tagSummaryRetry => exact execTagSummaryRetry_leads h
  | jhSubmit => exact execJhSubmit_leads h
  | jhPop => exact execJhPop_leads h
  | jhAbort => exact execJhAbort_leads h
  | jhQuery => exact execJhQuery_leads h
  | jhTake => exact execJhTake_leads h
  | jhCurrent => exact execJhCurrent_leads h
  | jhDone => exact execJhDone_leads h
  | jhCheckpoint => exact execJhCheckpoint_leads h
  | jobPlacement => exact execJobPlacement_leads h
  | engineCompletion => exact execEngineCompletion_leads h
  | jobSuspension => exact execJobSuspension_leads h
  | urgencyAging => exact execUrgencyAging_leads h
  | jobRunTimeout => exact execJobRunTimeout_leads h
  | keyWaitExpiry => exact execKeyWaitExpiry_leads h
  | laneFault => exact execLaneFault_leads h
  | laneSelfTest => exact execLaneSelfTest_leads h
  | runLaneSelfTest => exact execRunLaneSelfTest_leads h
  | unitFault => exact execUnitFault_leads h
  | unitSelfTest => exact execUnitSelfTest_leads h
  | runUnitSelfTest => exact execRunUnitSelfTest_leads h
  | loadableCurveWrite => exact execLoadableCurveWrite_leads h
  | kuLoad => exact execKuLoad_leads h
  | kuWrap => exact execKuWrap_leads h
  | kuGenerate => exact execKuGenerate_leads h
  | kuDerive => exact execKuDerive_leads h
  | kuClear => exact execKuClear_leads h
  | kuInfo => exact execKuInfo_leads h
  | kuPublic => exact execKuPublic_leads h
  | kuImport => exact execKuImport_leads h
  | kuAbort => exact execKuAbort_leads h
  | keyExpiry => exact execKeyExpiry_leads h
  | advanceBlobGeneration => exact execAdvanceBlobGeneration_leads h
  | raiseMinimumGeneration => exact execRaiseMinimumGeneration_leads h
  | zeroise => exact execZeroise_leads h
  | entTake => exact execEntTake_leads h
  | entropyWaitTimeout => exact execEntropyWaitTimeout_leads h
  | rawBlockComplete => exact execRawBlockComplete_leads h
  | drbgInstantiate => exact execDrbgInstantiate_leads h
  | drbgReseed => exact execDrbgReseed_leads h
  | drbgGenerate => exact execDrbgGenerate_leads h
  | testPatternEnable => exact execTestPatternEnable_leads h
  | rawCapture => exact execRawCapture_leads h
  | sensorSample => exact execSensorSample_leads h
  | switchDebounceExpiry => exact execSwitchDebounceExpiry_leads h
  | vcoreGlitch => exact execVcoreGlitch_leads h
  | sensorRecalibration => exact execSensorRecalibration_leads h
  | vigilTick => exact execVigilTick_leads h
  | vigilSample => exact execVigilSample_leads h
  | vigilAckTimeout => exact execVigilAckTimeout_leads h
  | responseChange => exact execResponseChange_leads h
  | clearRestraint => exact execClearRestraint_leads h
  | unlock => exact execUnlock_leads h
  | cellChangeWindow => exact execCellChangeWindow_leads h
  | cellWindowExpiry => exact execCellWindowExpiry_leads h
  | cellRestored => exact execCellRestored_leads h
  | eventLogFlush => exact execEventLogFlush_leads h
  | flush => exact execFlush_leads h
  | flushAgeExpiry => exact execFlushAgeExpiry_leads h
  | eventCursorWrite => exact execEventCursorWrite_leads h
  | eventWindowRead => exact execEventWindowRead_leads h
  | eventAcknowledgeExport => exact execEventAcknowledgeExport_leads h
  | verifyChain => exact execVerifyChain_leads h
  | eventRingEntryWrite => exact execEventRingEntryWrite_leads h
  | opAdd => exact execOpAdd_leads h
  | opAddc => exact execOpAddc_leads h
  | opSub => exact execOpSub_leads h
  | opSubb => exact execOpSubb_leads h
  | opAnd => exact execOpAnd_leads h
  | opOr => exact execOpOr_leads h
  | opXor => exact execOpXor_leads h
  | opAndn => exact execOpAndn_leads h
  | opShl => exact execOpShl_leads h
  | opShr => exact execOpShr_leads h
  | opSar => exact execOpSar_leads h
  | opRol => exact execOpRol_leads h
  | opSlt => exact execOpSlt_leads h
  | opSltu => exact execOpSltu_leads h
  | opSel => exact execOpSel_leads h
  | opClz p rd ra rb => exact execOpClz_leads (rb := rb) h
  | opOdif => exact execOpOdif_leads h
  | opOadd => exact execOpOadd_leads h
  | opAddi => exact execOpAddi_leads h
  | opAndi => exact execOpAndi_leads h
  | opOri => exact execOpOri_leads h
  | opXori => exact execOpXori_leads h
  | opShi => exact execOpShi_leads h
  | opMovi => exact execOpMovi_leads h
  | opMovhi => exact execOpMovhi_leads h
  | opOaddi => exact execOpOaddi_leads h
  | opLdw => exact execOpLdw_leads h
  | opLdh => exact execOpLdh_leads h
  | opLdhs => exact execOpLdhs_leads h
  | opLdo => exact execOpLdo_leads h
  | opLdos => exact execOpLdos_leads h
  | opStw => exact execOpStw_leads h
  | opSth => exact execOpSth_leads h
  | opSto => exact execOpSto_leads h
  | opBeq => exact execOpBeq_leads h
  | opBne => exact execOpBne_leads h
  | opBlt => exact execOpBlt_leads h
  | opBge => exact execOpBge_leads h
  | opBltu => exact execOpBltu_leads h
  | opBgeu => exact execOpBgeu_leads h
  | opBz => exact execOpBz_leads h
  | opBnz => exact execOpBnz_leads h
  | opBcy p ra disp => exact execOpBcy_leads (ra := ra) h
  | opBnc p ra disp => exact execOpBnc_leads (ra := ra) h
  | opBneg => exact execOpBneg_leads h
  | opBpos => exact execOpBpos_leads h
  | opBr => exact execOpBr_leads h
  | opCall => exact execOpCall_leads h
  | opCallr => exact execOpCallr_leads h
  | opJr => exact execOpJr_leads h
  | opRet => exact execOpRet_leads h
  | opLoop => exact execOpLoop_leads h
  | opLoopi => exact execOpLoopi_leads h
  | opLoopx => exact execOpLoopx_leads h
  | opMul => exact execOpMul_leads h
  | opMulhu => exact execOpMulhu_leads h
  | opMulhs => exact execOpMulhs_leads h
  | opMfmh => exact execOpMfmh_leads h
  | opMtmh => exact execOpMtmh_leads h
  | opMadd => exact execOpMadd_leads h
  | opMovo => exact execOpMovo_leads h
  | opMovod => exact execOpMovod_leads h
  | opMovw => exact execOpMovw_leads h
  | opFillo => exact execOpFillo_leads h
  | opFillw => exact execOpFillw_leads h
  | opSys => exact execOpSys_leads h
  | opEret => exact execOpEret_leads h
  | opSetml => exact execOpSetml_leads h
  | opMfsr => exact execOpMfsr_leads h
  | opMtsr => exact execOpMtsr_leads h
  | opFence => exact execOpFence_leads h
  | opIfence => exact execOpIfence_leads h
  | opGfence => exact execOpGfence_leads h
  | opWait => exact execOpWait_leads h
  | opBrk => exact execOpBrk_leads h
  | opPush => exact execOpPush_leads h
  | opPop => exact execOpPop_leads h
  | opRsspill => exact execOpRsspill_leads h
  | illegalInstruction => exact execIllegalInstruction_leads h
  | interrupt => exact execInterrupt_leads h
  | iclear => exact execIclear_leads h
  | doorbell => exact execDoorbell_leads h
  | timerExpiry => exact execTimerExpiry_leads h
  | pcovfWrite => exact execPcovfWrite_leads h
  | gauntletRuleWrite => exact execGauntletRuleWrite_leads h
  | gateFence => exact execGateFence_leads h
  | fcKey => exact execFcKey_leads h
  | wordProgram => exact execWordProgram_leads h
  | rowProgram => exact execRowProgram_leads h
  | sectorErase => exact execSectorErase_leads h
  | eraseSuspend => exact execEraseSuspend_leads h
  | eraseResume => exact execEraseResume_leads h
  | retireWord => exact execRetireWord_leads h
  | marginRead => exact execMarginRead_leads h
  | counterIncrement => exact execCounterIncrement_leads h
  | counterSet => exact execCounterSet_leads h
  | optionRewrite => exact execOptionRewrite_leads h
  | flashLifecycleAdvance => exact execFlashLifecycleAdvance_leads h
  | fcAbort => exact execFcAbort_leads h
  | fqTailWrite => exact execFqTailWrite_leads h
  | fqAbort => exact execFqAbort_leads h
  | flashOperationComplete => exact execFlashOperationComplete_leads h
  | periodicMarginRead => exact execPeriodicMarginRead_leads h
  | marginPass => exact execMarginPass_leads h
  | reqa => exact execReqa_leads h
  | wupa => exact execWupa_leads h
  | anticollision => exact execAnticollision_leads h
  | tagSelect => exact execTagSelect_leads h
  | hlta => exact execHlta_leads h
  | rats => exact execRats_leads h
  | pps => exact execPps_leads h
  | rBlock => exact execRBlock_leads h
  | sDeselect => exact execSDeselect_leads h
  | doff => exact execDoff_leads h
  | apduSelect => exact execApduSelect_leads h
  | readRecord => exact execReadRecord_leads h
  | writeRecord => exact execWriteRecord_leads h
  | directory => exact execDirectory_leads h
  | envelope => exact execEnvelope_leads h
  | unknownApdu => exact execUnknownApdu_leads h
  | fieldOn => exact execFieldOn_leads h
  | fieldLoss => exact execFieldLoss_leads h
  | doffDeadline => exact execDoffDeadline_leads h
  | endDoff => exact execEndDoff_leads h
  | wiredRecordWrite => exact execWiredRecordWrite_leads h
  | readerPoll => exact execReaderPoll_leads h
  | tokenAuthentication => exact execTokenAuthentication_leads h
  | presentationTimeout => exact execPresentationTimeout_leads h
  | rosterAdd => exact execRosterAdd_leads h
  | rosterRevoke => exact execRosterRevoke_leads h
  | cardInsertion => exact execCardInsertion_leads h
  | cardRemoval => exact execCardRemoval_leads h
  | cardArchive => exact execCardArchive_leads h
  | cardWriteBusyEnd => exact execCardWriteBusyEnd_leads h
  | cardStatusResponse => exact execCardStatusResponse_leads h
  | cardBusyTimeout => exact execCardBusyTimeout_leads h
  | journalResolution => exact execJournalResolution_leads h
  | prepareCard => exact execPrepareCard_leads h
  | stageImage => exact execStageImage_leads h
  | islandEntry => exact execIslandEntry_leads h
  | islandWake => exact execIslandWake_leads h
  | islandExitComplete => exact execIslandExitComplete_leads h
  | hostLatencyToleranceWrite => exact execHostLatencyToleranceWrite_leads h
  | reportedLtrWrite => exact execReportedLtrWrite_leads h
  | referenceClockLoss => exact execReferenceClockLoss_leads h
  | referenceClockReturn => exact execReferenceClockReturn_leads h
  | pllLossOfLock => exact execPllLossOfLock_leads h
  | pllRelock => exact execPllRelock_leads h
  | crystalStop => exact execCrystalStop_leads h
  | pcieRefclockLoss => exact execPcieRefclockLoss_leads h
  | vigilCopyCheck => exact execVigilCopyCheck_leads h
  | crystalMeasurement => exact execCrystalMeasurement_leads h
  | trimUpdate => exact execTrimUpdate_leads h
  | slew => exact execSlew_leads h
  | slewStep => exact execSlewStep_leads h
  | setVigilTime => exact execSetVigilTime_leads h
  | snapshot => exact execSnapshot_leads h
  | performanceDump => exact execPerformanceDump_leads h
  | freezePin => exact execFreezePin_leads h
  | freeze => exact execFreeze_leads h
  | freezeCommandDelay => exact execFreezeCommandDelay_leads h
  | readoutRead => exact execReadoutRead_leads h
  | readoutRelease => exact execReadoutRelease_leads h
  | readoutUnknownCommand => exact execReadoutUnknownCommand_leads h
  | registerWrite => exact execRegisterWrite_leads h
  | pcieLinkUp => exact execPcieLinkUp_leads h
  | pcieLinkL1Transition => exact execPcieLinkL1Transition_leads h
  | xt32Return => exact execXt32Return_leads h
  | vigilSupplyLoss => exact execVigilSupplyLoss_leads h
  | pairJobAbortBound => exact execPairJobAbortBound_leads h
  | eraseMinimumRunExpiry => exact execEraseMinimumRunExpiry_leads h
  | faultInjectionCanary => exact execFaultInjectionCanary_leads h
  | boundaryScan tms tdi => exact execBoundaryScan_leads (tms := tms) (tdi := tdi) h
  | mctpControlResponse => exact execMctpControlResponse_leads h

end State

theorem follows_of_exec {c : Instr} {s t : State} (ht : exec c s = .next t) : s.Follows t := by
  obtain ⟨u, hu, hfollows⟩ := State.exec_leads c (State.Follows.refl s)
  rw [ht] at hu
  cases hu
  exact hfollows

/-- Settles O3: a command's next state follows its state, and with it holds its queue. -/
theorem commandsKeepTheQueue : Obligations.CommandsKeepTheQueue := fun _ _ _ ht => (follows_of_exec ht).pending

/-- Settles O5: a step runs a command on the state without its front command, which holds the same memories. -/
theorem stepKeepsMemoriesCanonical : Obligations.StepKeepsMemoriesCanonical := by
  intro s t hs ht
  cases hqueue : s.pending with
  | nil =>
    rw [step, hqueue] at ht
    cases ht
    exact hs
  | cons c rest =>
    rw [step, hqueue] at ht
    exact (follows_of_exec ht).canonical hs

end Sys2Proof.Machine
